-- ==== Sys2Proof/Word.lean ====
section
/-! DEFINITION. The word types of the KX848 (R2: bit 0 is the least significant bit, a word is 32 bits)
and the fixed-size bank of like things. Operations on them stand in Machine/Bank.lean. -/

namespace Sys2Proof

/-- An 8-bit byte. -/
abbrev Byte := BitVec 8

/-- A 32-bit word (R2). -/
abbrev Word := BitVec 32

/-- A 64-bit double word: device time (R4), the frame index (R12). -/
abbrev DWord := BitVec 64

/-- The bit pattern of an IEEE 754 binary32 value (R39 "f32", R178). -/
abbrev F32 := BitVec 32

/-- A fixed number of like things, numbered from 0 (gills, wells, pumps). -/
structure Bank (α : Type) (n : Nat) where
  cells : Vector α n
deriving DecidableEq, Repr, Inhabited

end Sys2Proof
end

