-- ==== Sys2Proof/Payload.lean ====
section
/-! DEFINITION. The operand types of the commands: what the outside world hands the block with a command, and the fields of a
Truffle instruction word (R210). -/

namespace Sys2Proof

/-- How the three copies of a voted unit agreed (R30, R31). -/
inductive Vote where
  | agree
  | dissent (copy : Fin 3)
  | noMajority
deriving DecidableEq, Repr, Inhabited

/-- The two crystals (R66). -/
inductive Crystal where
  | xa | xb
deriving DecidableEq, Repr, Inhabited

/-- The PLLs whose lock CLOCK_STATUS shows (R83), and the others, which it does not show. -/
inductive Pll where
  | core | audio | truffle | aquifer | other
deriving DecidableEq, Repr, Inhabited

/-- Registers of a function's configuration space that the manual names (R104, R105, R107). -/
inductive CfgReg where
  | vendorDevice | command | classRevision | header | bar0 | bar2lo | bar2hi | subsystem
  | msixControl | msixTable | msixPba | power | powerCap | aerStatus | flr | deviceCap | linkCap | linkCap2
deriving DecidableEq, Repr, Inhabited

/-- Where a host memory request falls (R105). -/
inductive Bar where
  | bar0 | bar2 | outside
deriving DecidableEq, Repr, Inhabited

/-- A host memory request: words to read, or words or (for BAR2) bytes to write. -/
inductive MemReq where
  | read (words : Nat)
  | write (data : List Word)
deriving DecidableEq, Repr, Inhabited

/-- The header of one xSPI chip-select assertion (R109, R110): the opcode byte, and in octal mode the byte that follows it. -/
structure XspiFrame where
  cs : Fin 2
  op : Byte
  inv : Byte
deriving DecidableEq, Repr, Inhabited

/-- Where a full image comes from (R49, R55): the words the host has delivered, or the boot flash, whose 32-byte directory and
two slots the command carries (none is a flash read error). -/
inductive ImageSource where
  | host
  | flash (directory : Option (List Word)) (slotA slotB : Option (List Word))
deriving DecidableEq, Repr, Inhabited

/-- What reaches the block from outside with a frame boundary: the agreement of the voted copies, in how many words beyond the first a mix
unit dissents, the levels of SP_SEL and SP_OWN_IN, and the words that the serial audio ports received for each slot (port, slot, 32-bit
word). -/
structure FrameIn where
  ftg : Vote
  spout : Vote
  moreWords : Nat
  spSel : Bool
  ownIn : Bool
  sap : List (Nat × Nat × Word)
deriving DecidableEq, Repr, Inhabited

/-- The ingresses of the event front (R130). -/
inductive Ingress where
  | keybed
  | uart (n : Fin 8)
  | usb1 | usb2
  | host (n : Fin 8)
  | timers
  | sensors
  | reflex (n : Fin 8)
  | adeder
deriving DecidableEq, Repr, Inhabited

/-- Where a short command stands: at the front of a tenancy's reflex queue, or next in a CMD well (R116). -/
inductive ShortOrigin where
  | reflex (n : Fin 8)
  | well (w : Fin 256)
deriving DecidableEq, Repr, Inhabited

/-- The result of an output calibration measurement (R321): the differential voltage at code 0 of an AOUT channel, the measured code
of a CV channel (kind 0), or the difference m_hi - m_lo of its two codes (kind 2). -/
structure OutputCal where
  value : BitVec 32
  disturbed : Bool
  loaded : Bool
deriving DecidableEq, Repr, Inhabited

/-- How the ECC of a line read back (R279). -/
inductive EccView where
  | clean | corrected | uncorrectable
deriving DecidableEq, Repr, Inhabited

/-- Sequencer register form (class 0b000 of Table 2 of chapter 09). zero is the field marked 0. -/
structure RegF where
  rd : BitVec 5
  rs1 : BitVec 5
  rs2 : BitVec 5
  zero : BitVec 9
deriving DecidableEq, Repr, Inhabited

/-- Sequencer immediate form with imm14 (class 0b001). -/
structure ImmF where
  rd : BitVec 5
  rs1 : BitVec 5
  imm : BitVec 14
deriving DecidableEq, Repr, Inhabited

/-- Sequencer immediate form with imm19 (LUI, J, CALL). -/
structure LongF where
  rd : BitVec 5
  imm : BitVec 19
deriving DecidableEq, Repr, Inhabited

/-- Vector form (class 0b010), or with imm the vector immediate form (class 0b011) and its second word. -/
structure VecF where
  imm : Option Word
  vd : BitVec 5
  va : BitVec 5
  vb : BitVec 5
  vc : BitVec 5
  km : BitVec 3
deriving DecidableEq, Repr, Inhabited

/-- Vector memory form (class 0b100). field is bits [15:3]: the offset, or the stride register in its upper five bits. -/
structure VMemF where
  v : BitVec 5
  base : BitVec 5
  field : BitVec 13
  km : BitVec 3
deriving DecidableEq, Repr, Inhabited

/-- Tile and reduction form (class 0b101). -/
structure TileF where
  mt : BitVec 2
  vd : BitVec 5
  va : BitVec 5
  vb : BitVec 5
  r : BitVec 5
  km : BitVec 3
deriving DecidableEq, Repr, Inhabited

/-- Mask and summary form (class 0b110). -/
structure MaskF where
  rd : BitVec 5
  ra : BitVec 5
  ka : BitVec 3
  kb : BitVec 3
  va : BitVec 5
  km : BitVec 3
deriving DecidableEq, Repr, Inhabited

/-- Spore apply form (class 0b111). zero is the bit marked 0. -/
structure SporeF where
  pid : BitVec 5
  vd : BitVec 5
  va : BitVec 5
  vb : BitVec 5
  vc : BitVec 5
  zero : BitVec 1
  km : BitVec 3
deriving DecidableEq, Repr, Inhabited

/-- A USB control request (R343), with the recipient's number in index. -/
structure UsbSetup where
  requestType : Byte
  request : Byte
  value : BitVec 16
  index : BitVec 16
  length : BitVec 16
deriving DecidableEq, Repr, Inhabited

/-- A received character with the line errors its receiver found (R362). -/
structure RxChar where
  data : BitVec 9
  noise : Bool
  framing : Bool
  parity : Bool
deriving DecidableEq, Repr, Inhabited

/-- A received Ethernet frame (R330, R340) without its FCS: whether its FCS was good, and its receive time in device time. -/
structure RxFrame where
  bytes : List Byte
  fcsGood : Bool
  time : DWord
deriving DecidableEq, Repr, Inhabited

/-- A received Sync message (R331, R332): its source, sequence number and receive time in nanoseconds of device time. -/
structure GptpSync where
  source : DWord
  seq : BitVec 16
  rxTime : Nat
deriving DecidableEq, Repr, Inhabited

/-- A received Follow_Up (R331): the precise origin time and the corrections, in nanoseconds. -/
structure GptpFollowUp where
  source : DWord
  seq : BitVec 16
  origin : Nat
  correction : Int
deriving DecidableEq, Repr, Inhabited

/-- A received Announce (R331): the fields of its system identity, its steps and its source; inPath says that its path trace holds
this port's own identity. -/
structure GptpAnnounce where
  priority1 : Byte
  clockClass : Byte
  accuracy : Byte
  variance : BitVec 16
  priority2 : Byte
  gm : DWord
  steps : BitVec 16
  source : DWord
  inPath : Bool
deriving DecidableEq, Repr, Inhabited

/-- A received peer-delay message (R331). Times are nanoseconds: of device time for rxTime and txTime, of the peer for t2 and t3;
requester is the identity a response answers. -/
inductive GptpPdelay where
  | request (source : DWord) (seq : BitVec 16) (rxTime : Nat)
  | response (requester : DWord) (seq : BitVec 16) (t2 : Nat) (txTime rxTime : Nat)
  | responseFollowUp (requester : DWord) (seq : BitVec 16) (t3 : Nat)
deriving DecidableEq, Repr, Inhabited

/-- A received AAF packet (R338): its header fields and its payload words, channel by channel within each frame. -/
structure AafPacket where
  streamId : DWord
  tv : Bool
  subtype : Byte
  format : Byte
  bitDepth : Byte
  nsr : BitVec 4
  channels : Nat
  seq : Byte
  timestamp : Word
  words : List Word
deriving DecidableEq, Repr, Inhabited

/-- A received CRF PDU (R333): its stream, base frequency, pull and timestamps. -/
structure CrfPdu where
  streamId : DWord
  base : Nat
  pull : Nat
  stamps : List DWord
deriving DecidableEq, Repr, Inhabited

/-- How an I2C entry ended on the bus (R369 to R371): whole, with the bytes read; refused with a NACK after some bytes; or with its
arbitration lost. -/
inductive I2cResult where
  | done (data : List Byte)
  | nack (sent : Nat)
  | arbLost
deriving DecidableEq, Repr, Inhabited

/-- How a bus clear found the bus (R370): SDA high at once, freed by the pulses, or held low. -/
inductive BusClear where
  | idle | cleared | stuck
deriving DecidableEq, Repr, Inhabited

/-- The head of a received Adeder packet (R400): whether its CRC held, and its sequence number. -/
structure LinkHead where
  good : Bool
  seq : BitVec 16
deriving DecidableEq, Repr, Inhabited

/-- A FRAME packet (Table 2 of chapter 17). -/
structure FramePkt where
  head : LinkHead
  frame : DWord
  signature : Word
  digest : Word
deriving DecidableEq, Repr, Inhabited

/-- A SAMPLE packet: 32 words. -/
structure SamplePkt where
  head : LinkHead
  words : List Word
deriving DecidableEq, Repr, Inhabited

/-- An EVENT packet: the 128-bit event word of R133 as four words, and the render frame index. -/
structure EventPkt where
  head : LinkHead
  event : List Word
  render : DWord
deriving DecidableEq, Repr, Inhabited

/-- A REVERT packet: the hand-back boundary. -/
structure RevertPkt where
  head : LinkHead
  frame : DWord
deriving DecidableEq, Repr, Inhabited

/-- A SYNC packet: words of the state of R205. -/
structure SyncPkt where
  head : LinkHead
  words : List Word
deriving DecidableEq, Repr, Inhabited

/-- A MIRROR packet: cistern, offset and 64 bytes. -/
structure MirrorPkt where
  head : LinkHead
  cistern : Fin 24
  ofs : Nat
  data : List Byte
deriving DecidableEq, Repr, Inhabited

/-- What a referee sees in an AON cycle (Table 4 of chapter 17): an SP_FRAME edge within 2 fr + 1 µs, the two request lines, pulses
on SP_HB, and MATCH in every frame for the revert hold. -/
structure RefereeIn where
  frameRecent : Bool
  primaryReq : Bool
  standbyReq : Bool
  hbPulsing : Bool
  matchHeld : Bool
deriving DecidableEq, Repr, Inhabited

end Sys2Proof
end

