-- ==== Sys2Proof/Syntax.lean ====
section
/-! DEFINITION. The commands of the KX848: one constructor for each row of spec/opcode_table.json, in its order, with the row's
operands. Operand t is the tenancy whose function or chip select made a register access (R84, R91). The rows ADD to SPORE_APPLY
are the instructions of a Truffle engine e with the fields of their words (R210). -/

namespace Sys2Proof

/-- A command. -/
inductive Instr where
  | porstNAssert
  | startup (boot : Fin 8) (xa xb : Bool) (aquiferMiB : Nat)
  | xaTimeoutRestart
  | audioPllLock
  | firstFrame (i : FrameIn)
  | resetNAssert (boot : Fin 8)
  | stewardReset (t : Fin 8) (v : Word)
  | functionLevelReset (fn : Fin 8)
  | pcieConfigRequest (fn : Fin 8) (reg : CfgReg) (write : Option Word)
  | pcieMemoryRequest (fn : Fin 8) (bar : Bar) (ofs : Nat) (req : MemReq)
  | poisonedWrite (fn : Fin 8) (ofs : Nat)
  | bar2Write (fn : Fin 8) (ofs : Nat) (data : List Byte)
  | pcieLinkDown
  | pcieLinkUp
  | msixPendingSend (fn : Fin 8) (vector : Fin 64)
  | frameBoundary (i : FrameIn)
  | spoutNomajSafe
  | talkerPacketTx (stream : Fin 16)
  | spawnCtrlStart (t : Fin 8) (v : Word)
  | spawnDataWrite (t : Fin 8) (v : Word)
  | fullSpawnLoad (src : ImageSource)
  | spawnApplied
  | spawnTenancy (t : Fin 8)
  | respawnValidate (n : Fin 8)
  | respawnQuiesce (n : Fin 8)
  | respawnFadeEnd (n : Fin 8)
  | respawnWrite (n : Fin 8)
  | respawnCommit (n : Fin 8)
  | clockTimeRead (t : Fin 8)
  | clockFrameRead (t : Fin 8)
  | trfdivWrite (t : Fin 8) (n : Fin 4) (v : Word)
  | trfdivApply (n : Fin 4)
  | mediaClockClamp
  | mediaClockLost
  | mediaClockReturn
  | crystalLost (x : Crystal)
  | pllLockLoss (p : Pll)
  | crystalReturn (x : Crystal)
  | dormantRequest (t : Fin 8) (v : Word)
  | dormantEntryComplete
  | wakeUartMatch (n : Fin 8) (c : BitVec 9)
  | wakeAnyKey (first second : BitVec 32)
  | wakeRtc
  | wakeUsbResume
  | wakeSensor (code : BitVec 16)
  | wakeNLow
  | wakePcie
  | wakeComplete (ecc : Bool) (i : FrameIn)
  | tenancyHalt (t n : Fin 8) (v : Word)
  | haltEnd (n : Fin 8)
  | lifecycleTransition (t : Fin 8) (v : Word)
  | keyHashFuse (t : Fin 8) (v : Word)
  | fuseProgramDone (verified : Bool)
  | xspiRead (f : XspiFrame) (addr : Word) (late : List Bool)
  | xspiWrite (f : XspiFrame) (addr : Word) (data : List Byte)
  | xspiStatus (f : XspiFrame)
  | setConfig (f : XspiFrame) (v : Word)
  | interfaceReset (f : XspiFrame)
  | eventAccept (g : Ingress)
  | scheduledEventRelease (n : Fin 8)
  | foragerCommit (p : Fin 32) (vote : Vote)
  | noteOn (p : Fin 32)
  | noteOff (p : Fin 32)
  | sustainChange (p : Fin 32)
  | channelController (p : Fin 32)
  | perNoteManagement (p : Fin 32)
  | allNotesOff (p : Fin 32)
  | allSoundOff (p : Fin 32)
  | resetAllControllers (p : Fin 32)
  | forPanicAllNotesOff (t : Fin 8) (p : Fin 32)
  | forPanicAllSoundOff (t : Fin 8) (p : Fin 32)
  | voiceEnd (g : Fin 48) (slot : Fin 16)
  | silenceEnd (g : Fin 48) (slot : Fin 16)
  | shadowFadeEnd (g : Fin 48) (h : Fin 2)
  | cutEnd (g : Fin 48)
  | tickBoundary (t : Fin 8) (structure_ : Fin 64)
  | mycArm (t : Fin 8) (structure_ : Fin 64) (v : Word)
  | mycMacroWrite (t : Fin 8) (m : Fin 4) (v : Word)
  | mycGlfoRateWrite (t : Fin 8) (g : Fin 8) (v : Word)
  | setMacro (o : ShortOrigin)
  | setBusGain (o : ShortOrigin)
  | setRouteDepth (o : ShortOrigin)
  | setBypass (o : ShortOrigin)
  | emitEvent (o : ShortOrigin)
  | postHost (o : ShortOrigin)
  | event (w : Fin 256)
  | wellPidxWrite (t : Fin 8) (w : Fin 256) (v : Word)
  | wellCidxWrite (t : Fin 8) (w : Fin 256) (v : Word)
  | completionPost (handle : Word)
  | completionDrain (t : Fin 8)
  | qpCplPop (t : Fin 8) (v : Word)
  | qpAbort (t : Fin 8) (v : Word)
  | cisternHandover (t : Fin 8)
  | handoverCommit (c : Fin 24)
  | handoverWipeDone (c : Fin 24)
  | cisternWipe (t : Fin 8)
  | cisternWipeDone (handle : Word)
  | pumpBulk (t : Fin 8)
  | sampleLoad (t : Fin 8)
  | bulkDone (handle : Word)
  | calibrate (t : Fin 8)
  | ainCalMeasureEnd (c : Fin 8) (mean : BitVec 32)
  | senCalMeasureEnd (c : Fin 32)
  | outputCalMeasureEnd (handle : Word) (o : OutputCal)
  | aquiferTrain (t : Fin 8)
  | truffleJob (t : Fin 8)
  | sealKeyInstall (t : Fin 8)
  | checkpoint (t : Fin 8)
  | pairSync (t : Fin 8)
  | pairSyncCommit
  | powerPark (t : Fin 8)
  | permitGrant
  | permitDeadline (handle : Word)
  | permitPoolUpdate
  | frameWindowOpen (n : Fin 4)
  | frameWindowClose (n : Fin 4)
  | trfRestart (t : Fin 8) (n : Fin 4) (v : Word)
  | trfBypWrite (t : Fin 8) (n : Fin 4) (hi : Bool) (v : Word)
  | add (e : Fin 4) (f : RegF)
  | sub (e : Fin 4) (f : RegF)
  | and (e : Fin 4) (f : RegF)
  | or (e : Fin 4) (f : RegF)
  | xor (e : Fin 4) (f : RegF)
  | sll (e : Fin 4) (f : RegF)
  | srl (e : Fin 4) (f : RegF)
  | sra (e : Fin 4) (f : RegF)
  | mul (e : Fin 4) (f : RegF)
  | mulhu (e : Fin 4) (f : RegF)
  | slt (e : Fin 4) (f : RegF)
  | sltu (e : Fin 4) (f : RegF)
  | movsr (e : Fin 4) (f : RegF)
  | movrs (e : Fin 4) (f : RegF)
  | jr (e : Fin 4) (f : RegF)
  | callr (e : Fin 4) (f : RegF)
  | addi (e : Fin 4) (f : ImmF)
  | andi (e : Fin 4) (f : ImmF)
  | ori (e : Fin 4) (f : ImmF)
  | xori (e : Fin 4) (f : ImmF)
  | slli (e : Fin 4) (f : ImmF)
  | srli (e : Fin 4) (f : ImmF)
  | srai (e : Fin 4) (f : ImmF)
  | slti (e : Fin 4) (f : ImmF)
  | lui (e : Fin 4) (f : LongF)
  | ldw (e : Fin 4) (f : ImmF)
  | stw (e : Fin 4) (f : ImmF)
  | beqz (e : Fin 4) (f : ImmF)
  | bnez (e : Fin 4) (f : ImmF)
  | bltz (e : Fin 4) (f : ImmF)
  | bgez (e : Fin 4) (f : ImmF)
  | j (e : Fin 4) (f : LongF)
  | call (e : Fin 4) (f : LongF)
  | ret (e : Fin 4) (f : ImmF)
  | trapi (e : Fin 4) (f : ImmF)
  | tret (e : Fin 4) (f : ImmF)
  | halt (e : Fin 4) (f : ImmF)
  | fret (e : Fin 4) (f : ImmF)
  | signal (e : Fin 4) (f : ImmF)
  | nop (e : Fin 4) (f : ImmF)
  | vadd (e : Fin 4) (f : VecF)
  | vsub (e : Fin 4) (f : VecF)
  | vmul (e : Fin 4) (f : VecF)
  | vdiv (e : Fin 4) (f : VecF)
  | vfma (e : Fin 4) (f : VecF)
  | vfms (e : Fin 4) (f : VecF)
  | vfnma (e : Fin 4) (f : VecF)
  | vmin (e : Fin 4) (f : VecF)
  | vmax (e : Fin 4) (f : VecF)
  | vsqrt (e : Fin 4) (f : VecF)
  | vabs (e : Fin 4) (f : VecF)
  | vneg (e : Fin 4) (f : VecF)
  | vcpsgn (e : Fin 4) (f : VecF)
  | vrint (e : Fin 4) (f : VecF)
  | vcvti (e : Fin 4) (f : VecF)
  | vcvtf (e : Fin 4) (f : VecF)
  | vmov (e : Fin 4) (f : VecF)
  | vsel (e : Fin 4) (f : VecF)
  | vand (e : Fin 4) (f : VecF)
  | vor (e : Fin 4) (f : VecF)
  | vxor (e : Fin 4) (f : VecF)
  | vcmpeq (e : Fin 4) (f : VecF)
  | vcmplt (e : Fin 4) (f : VecF)
  | vcmple (e : Fin 4) (f : VecF)
  | vcmpun (e : Fin 4) (f : VecF)
  | vcompress (e : Fin 4) (f : VecF)
  | vexpand (e : Fin 4) (f : VecF)
  | vslideup (e : Fin 4) (f : VecF)
  | vslidedn (e : Fin 4) (f : VecF)
  | vlaneid (e : Fin 4) (f : VecF)
  | vld (e : Fin 4) (f : VMemF)
  | vst (e : Fin 4) (f : VMemF)
  | vlds (e : Fin 4) (f : VMemF)
  | vsts (e : Fin 4) (f : VMemF)
  | trowld (e : Fin 4) (f : TileF)
  | trowst (e : Fin 4) (f : TileF)
  | tcolld (e : Fin 4) (f : TileF)
  | tcolst (e : Fin 4) (f : TileF)
  | tzero (e : Fin 4) (f : TileF)
  | touter (e : Fin 4) (f : TileF)
  | rsumRows (e : Fin 4) (f : TileF)
  | rsumColumns (e : Fin 4) (f : TileF)
  | rmaxRows (e : Fin 4) (f : TileF)
  | rmaxColumns (e : Fin 4) (f : TileF)
  | rminRows (e : Fin 4) (f : TileF)
  | rminColumns (e : Fin 4) (f : TileF)
  | rsumv (e : Fin 4) (f : TileF)
  | rmaxv (e : Fin 4) (f : TileF)
  | kand (e : Fin 4) (f : MaskF)
  | kor (e : Fin 4) (f : MaskF)
  | kxor (e : Fin 4) (f : MaskF)
  | knot (e : Fin 4) (f : MaskF)
  | kfromy (e : Fin 4) (f : MaskF)
  | yfromk (e : Fin 4) (f : MaskF)
  | kflag (e : Fin 4) (f : MaskF)
  | scnt (e : Fin 4) (f : MaskF)
  | sany (e : Fin 4) (f : MaskF)
  | sall (e : Fin 4) (f : MaskF)
  | sfirst (e : Fin 4) (f : MaskF)
  | vxtr (e : Fin 4) (f : MaskF)
  | vins (e : Fin 4) (f : MaskF)
  | sporeApply (e : Fin 4) (f : SporeF)
  | directoryGets (e : Fin 4) (addr : Nat)
  | directoryGetm (e : Fin 4) (addr : Nat)
  | directoryPutm (e : Fin 4) (addr : Nat)
  | pumpCoherentRead (p : Fin 32) (addr : Nat)
  | pumpCoherentWrite (p : Fin 32) (addr : Nat) (data : List Byte)
  | scrubCycle
  | cisReleaseWrite (t : Fin 8) (c : Fin 24) (v : Word)
  | tamper
  | sealedWipeDone
  | aquiferRefresh (patrol : EccView) (trainOk : Bool)
  | zqCalibration
  | dqsDriftCheck
  | aqCtrlWrite (t : Fin 8) (v : Word)
  | pumpStreamFill (p : Fin 32)
  | streamContextWaitEnd (p : Fin 32)
  | puFlush (t : Fin 8) (p : Fin 32) (v : Word)
  | ainSample (c : Fin 8) (raw : BitVec 32)
  | senConversion (c : Fin 32) (code : BitVec 16)
  | supConversion (c : Fin 4) (code : BitVec 16)
  | modReset (c : Fin 8)
  | dcFreezeExpire (c : Fin 44)
  | fcPhaseWrite (t : Fin 8) (c : Fin 44) (v : Word)
  | fcTrigWrite (t : Fin 8) (c : Fin 44) (v : Word)
  | swtrig (t : Fin 8) (c : Fin 44) (v : Word)
  | fcFreezeWrite (t : Fin 8) (c : Fin 44) (v : Word)
  | driftStep (spareOffset : BitVec 32)
  | spBgainWrite (t : Fin 8) (b : Fin 64) (v : Word)
  | cvDataWrite (t : Fin 8) (h : Fin 2) (k : Fin 8) (v : Word)
  | cvStrobeLatch (h : Fin 2)
  | ldacNFall
  | cvStrobeWrite (t : Fin 8) (h : Fin 2) (v : Word)
  | cvSeqStep (t : Fin 8) (h : Fin 2) (v : Word)
  | aoutPrechargeDone (g : Fin 4)
  | sapCtrlWrite (t : Fin 8) (p : Fin 8) (v : Word)
  | sapCfgWrite (t : Fin 8) (p : Fin 8) (v : Word)
  | sapSlip (p : Fin 8) (late : Bool)
  | sapNoclk (p : Fin 8)
  | phyPoll (p : Fin 2) (reg1 : BitVec 16) (clockGood gigabit : Bool)
  | netMdioCmd (t : Fin 8) (v : Word) (answer : BitVec 16)
  | rxFrame (p : Fin 2) (fr : RxFrame)
  | gptpSync (p : Fin 2) (m : GptpSync)
  | gptpFollowUp (p : Fin 2) (m : GptpFollowUp)
  | gptpAnnounce (p : Fin 2) (m : GptpAnnounce)
  | gptpPdelay (p : Fin 2) (m : GptpPdelay)
  | gptpSyncTx (p : Fin 2)
  | gptpAnnounceTx (p : Fin 2)
  | gptpSyncTimeout (p : Fin 2)
  | listenerPacket (i : Fin 16) (m : AafPacket)
  | crfPduRx (m : CrfPdu)
  | crfTimeout
  | crfPduTx
  | pktWellTx (w : Fin 256)
  | usbVbusChange (level : Bool)
  | usbBusReset (highSpeed : Bool)
  | usbSuspend
  | usbResume
  | getDescriptor (r : UsbSetup)
  | setAddress (r : UsbSetup)
  | setConfiguration (r : UsbSetup)
  | getConfiguration (r : UsbSetup)
  | setInterface (r : UsbSetup)
  | getInterface (r : UsbSetup)
  | getStatus (r : UsbSetup)
  | setFeature (r : UsbSetup)
  | clearFeature (r : UsbSetup)
  | usbUnsupportedRequest (r : UsbSetup)
  | usbOutData (data : List Word)
  | usbTxdataWrite (t n : Fin 8) (v : Word)
  | usbInSend
  | usbCtrlWrite (t : Fin 8) (v : Word)
  | timerTick (u : Fin 24) (k : Fin 4)
  | captureEdge (u : Fin 24) (k : Fin 4) (level : Bool)
  | tuCmpWrite (t : Fin 8) (u : Fin 24) (k : Fin 4) (v : Word)
  | tuCtrlWrite (t : Fin 8) (u : Fin 24) (k : Fin 4) (v : Word)
  | timerStart
  | keybedSlotSample (slot : Fin 16) (sense : BitVec 16)
  | uartRxChar (n : Fin 8) (c : RxChar)
  | uartRxIdle (n : Fin 8)
  | uartRxRead (t n : Fin 8)
  | uartTxWrite (t n : Fin 8) (v : Word)
  | uartTxChar (n : Fin 8) (error : Bool)
  | uCtrlWrite (t n : Fin 8) (v : Word)
  | uFmtWrite (t n : Fin 8) (card : Bool) (v : Word)
  | i2cCmdWrite (t : Fin 8) (c : Fin 2) (v : Word)
  | i2cDataWrite (t : Fin 8) (c : Fin 2) (v : Word)
  | i2cDataRead (t : Fin 8) (c : Fin 2)
  | i2cEnable (t : Fin 8) (c : Fin 2) (v : Word) (bus : BusClear)
  | i2cEntryDone (c : Fin 2) (r : I2cResult)
  | i2cTimeout (c : Fin 2) (bus : BusClear)
  | flCtrlWrite (t : Fin 8) (v : Word)
  | flRaddrWrite (t : Fin 8) (v : Word)
  | flReadDone (data : Option Word)
  | tmonSample (r : List (BitVec 32 × Bool))
  | capStep
  | vmonSample (v : List (BitVec 32))
  | railCauseClear
  | pmonSample (v : List (BitVec 32))
  | supWindowEnd (c : Fin 4)
  | supDetectorHoldoffEnd (c d : Fin 4)
  | pfailAssert
  | pfailRelease
  | parkStart
  | parkFadeEnd
  | parkComplete
  | supCtrlUnpark (t : Fin 8) (v : Word)
  | unpark
  | adederLinkUp (digest : Word)
  | adederLinkDown
  | framePacket (m : FramePkt)
  | samplePacket (m : SamplePkt)
  | eventPacket (m : EventPkt)
  | revertPacket (m : RevertPkt)
  | syncPacket (m : SyncPkt)
  | mirrorPacket (m : MirrorPkt)
  | idlePacket
  | spFramePulse
  | spOwnInRise
  | oeSet
  | refereeEvaluate (i : RefereeIn)
  | evsCfgWrite (t : Fin 8) (i : Fin 1024) (v : Word)
  | evsPendWrite (t : Fin 8) (k : Fin 32) (v : Word)
  | evtOutPulseEnd (p : Fin 4)
  | pcSnap (t n : Fin 8) (v : Word)
  | pcClear (t n : Fin 8) (v : Word)
  | tracePacketEmit
  | tapIdcode
  | tapSample (levels : List Bool)
  | tapBypass
  | rcRead (t : Fin 8) (ofs : Nat)
  | registerWrite (t : Fin 8) (ofs : Nat) (v : Word)
  | ainCoarseSample (c : Fin 8) (code : BitVec 12)
  | spFrameMissing
  | sapFsReturn (p : Fin 8)
  | tamperRelease
deriving DecidableEq, Repr

end Sys2Proof
end

