-- ==== Sys2Proof/Decode.lean ====
section
/-! DEFINITION. Words that spell commands. No row of the opcode table gives bits: a command reaches the block over its links and
pins, in the forms that its operands carry, and the words of a Truffle program are decoded in Machine/TruffleWords.lean. -/

namespace Sys2Proof

/-- The command that a word of the opcode table spells: none of its rows gives bits, so no word spells one. -/
def decodeTableWord (_nbits _w : Nat) : Option Instr := none

end Sys2Proof
end

