-- ==== Sys2Proof/Machine/Records.lean ====
section
/-! DEFINITION. The applied configuration: the records of the spawn image (Table 4 of chapter 02) as data. The two banks of the
spawn store (R48) hold one of these each. Codes whose values the meanings match on are inductive types; masks, indexes and
counts are numbers; binary32 values stay bit patterns. -/

namespace Sys2Proof.Machine

/-- Element types (Table 5 of chapter 02). -/
inductive ElemKind where
  | blep | wavetable | sample | fm | pd | noise | svf | ladder | comb | shaper | mix | amp | env | lfo
deriving DecidableEq, Repr, Inhabited

/-- Pool modes (FORAGER POOL +1). -/
inductive PoolMode where
  | poly | mono | legato | unison
deriving DecidableEq, Repr, Inhabited

/-- Steal policies (FORAGER POOL +3). -/
inductive StealPolicy where
  | oldest | quietest | priority | sameNote
deriving DecidableEq, Repr, Inhabited

/-- Note priority (FORAGER POOL +4 [3:2]). -/
inductive NotePriority where
  | highest | lowest | last
deriving DecidableEq, Repr, Inhabited

/-- Well types (Table 7 of chapter 05). -/
inductive WellType where
  | cmd | cpl | evt | strm | pkt
deriving DecidableEq, Repr, Inhabited

/-- CV strobe sources (SPOUT LOAD_GROUP +1 for LGC). -/
inductive StrobeSrc where
  | frame | timer | ldac | software
deriving DecidableEq, Repr, Inhabited

/-- Character-port modes (CHARACTER_PORTS UART +1). -/
inductive UartMode where
  | midi | panel9 | async | card
deriving DecidableEq, Repr, Inhabited

/-- Timer modes (TIMERS_KEYBED TIMER +2). -/
inductive TimerMode where
  | off | capture | paired | compare | autoAdd | pwm
deriving DecidableEq, Repr, Inhabited

/-- Supply detectors (WINDLASS SUPPLY +1). -/
inductive Detector where
  | sag | dip | surge | ripple
deriving DecidableEq, Repr, Inhabited

/-- Stage-pair roles (STAGE_PAIR ROLE +0). -/
inductive PairRole where
  | single | primary | standby | referee
deriving DecidableEq, Repr, Inhabited

/-- DEVICE PIN_FUNC entry. -/
structure PinFuncRec where
  ball : Nat
  func : Nat
  pad : Nat
deriving DecidableEq, Repr, Inhabited

/-- TENANCY records: what the tenancy owns. Masks are numbers read bit by bit. -/
structure OwnRec where
  gills : Nat
  cisterns : Nat
  pumps : Nat
  engines : Nat
  periph : List (Nat × Nat)
  name : List Byte
  permitClass : Nat
deriving DecidableEq, Repr, Inhabited

/-- STRUCTURE ELEMENT entry. -/
structure ElemRec where
  kind : ElemKind
  options : Nat
deriving DecidableEq, Repr, Inhabited

/-- STRUCTURE CONNECT entry; sources are (element, output) in listed order. -/
structure ConnRec where
  dest : Nat
  input : Nat
  sources : List (Nat × Nat)
deriving DecidableEq, Repr, Inhabited

/-- STRUCTURE PARAM entry. -/
structure ParamRec where
  elem : Nat
  id : Nat
  value : F32
deriving DecidableEq, Repr, Inhabited

/-- One STRUCTURE section. -/
structure StructRec where
  id : Nat
  slots : Nat
  gills : Nat
  elems : List ElemRec
  conns : List ConnRec
  params : List ParamRec
deriving DecidableEq, Repr, Inhabited

/-- MYCELIUM ROUTE entry. -/
structure MycRouteRec where
  structId : Nat
  source : Nat
  dest : Nat
  curve : Nat
  audioRate : Bool
  viaEnable : Bool
  via : Nat
  depth : F32
deriving DecidableEq, Repr, Inhabited

/-- MYCELIUM GLFO entry. -/
structure GlfoRec where
  lfo : Nat
  shape : Nat
  rate : F32
  phase : F32
deriving DecidableEq, Repr, Inhabited

/-- A MYCELIUM section; ticks are (structure, log2 of tick frames), sensors (source, FC channel). -/
structure MycRec where
  ticks : List (Nat × Nat)
  routes : List MycRouteRec
  glfos : List GlfoRec
  sensors : List (Nat × Nat)
deriving DecidableEq, Repr, Inhabited

/-- FORAGER POOL entry. -/
structure PoolRec where
  pool : Nat
  mode : PoolMode
  unison : Nat
  steal : StealPolicy
  preferRelease : Bool
  newVoice : Bool
  priority : NotePriority
  choke : Nat
  gills : Nat
deriving DecidableEq, Repr, Inhabited

/-- FORAGER VELCURVE record. -/
structure VelCurveRec where
  pool : Nat
  fastest : Nat
  slowest : Nat
  velocity : List Nat
deriving DecidableEq, Repr, Inhabited

/-- A FORAGER section; tunings are (pool, 128 pitches in pu). -/
structure ForagerRec where
  pools : List PoolRec
  tunings : List (Nat × List Int)
  velcurves : List VelCurveRec
deriving DecidableEq, Repr, Inhabited

/-- WELLS WELL entry. -/
structure WellRec where
  well : Nat
  type : WellType
  k : Nat
  ring : Nat
deriving DecidableEq, Repr, Inhabited

/-- CISTERNS REGION entry. -/
structure RegionRec where
  cistern : Nat
  mirror : Bool
  wipeOnRespawn : Bool
  offset : Nat
  length : Nat
deriving DecidableEq, Repr, Inhabited

/-- CISTERNS SEALED record. -/
structure SealedRec where
  bytes : Nat
  firstSlot : Nat
  slotCount : Nat
deriving DecidableEq, Repr, Inhabited

/-- A CISTERNS section. -/
structure CisternsRec where
  regions : List RegionRec
  sealedRec : Option SealedRec
deriving DecidableEq, Repr, Inhabited

/-- PUMPS PUMP entry. -/
structure PumpRec where
  pump : Nat
  slots : Nat
  keySlot : Option Nat
  rootInCistern : Bool
  root : Nat
deriving DecidableEq, Repr, Inhabited

/-- FILTER_CHAIN CHANNEL entry. -/
structure ChannelRec where
  channel : Nat
  preset : Nat
  pend1 : Bool
  dcBlock : Bool
deriving DecidableEq, Repr, Inhabited

/-- SPOUT BUS_IN entry. -/
structure BusInRec where
  bus : Nat
  cls : Nat
  index : Nat
  gain : F32
deriving DecidableEq, Repr, Inhabited

/-- SPOUT BUS_OUT entry. -/
structure BusOutRec where
  bus : Nat
  cls : Nat
  index : Nat
deriving DecidableEq, Repr, Inhabited

/-- SPOUT LOAD_GROUP entry: groups 0-3 are LGA0-3 (code is the preset), 4-5 are LGC0-1 (code is the strobe). -/
structure LoadGroupRec where
  group : Nat
  code : Nat
  timer : Nat
deriving DecidableEq, Repr, Inhabited

/-- A SPOUT section. -/
structure SpoutRec where
  busIn : List BusInRec
  busOut : List BusOutRec
  groups : List LoadGroupRec
deriving DecidableEq, Repr, Inhabited

/-- CHARACTER_PORTS UART entry. -/
structure UartRec where
  port : Nat
  mode : UartMode
  wake : Bool
  inverse : Bool
  trigger : Nat
  rate : Nat
  matchVal : Nat
deriving DecidableEq, Repr, Inhabited

/-- CHARACTER_PORTS I2C entry. -/
structure I2cRec where
  ctl : Nat
  speed : Nat
  timeout : Nat
deriving DecidableEq, Repr, Inhabited

/-- TIMERS_KEYBED TIMER entry. -/
structure TimerRec where
  unit : Nat
  chan : Nat
  mode : TimerMode
  prescale : Nat
  compare : Nat
deriving DecidableEq, Repr, Inhabited

/-- TIMERS_KEYBED KEYBED record. -/
structure KeybedRec where
  keys : Nat
  firstNote : Nat
  pool : Nat
  dwell : Nat
deriving DecidableEq, Repr, Inhabited

/-- NETWORK PORT entry (device scope). -/
structure NetPortRec where
  port : Nat
  mdio : Nat
  role : Nat
  priority1 : Nat
deriving DecidableEq, Repr, Inhabited

/-- NETWORK STREAM entry (tenancy scope). -/
structure StreamRec where
  listener : Bool
  stream : Nat
  port : Nat
  channels : Nat
  streamId : DWord
  format : Nat
  offset : Nat
deriving DecidableEq, Repr, Inhabited

/-- USB MIDI_MAP entry. -/
structure MidiMapRec where
  iface : Nat
  group : Nat
  tenancy : Nat
deriving DecidableEq, Repr, Inhabited

/-- WINDLASS SUPPLY entry. -/
structure SupplyRec where
  channel : Nat
  detector : Detector
  level : Nat
  windows : Nat
  threshold : F32
  holdoff : Nat
deriving DecidableEq, Repr, Inhabited

/-- EVENT_ROUTES ROUTE entry; group 255 is any, pool 255 is the tap only. -/
structure RouteRec where
  route : Nat
  source : Nat
  group : Nat
  fold : Bool
  channels : Nat
  pool : Nat
deriving DecidableEq, Repr, Inhabited

/-- REFLEX RULE entry. -/
structure ReflexRec where
  source : Nat
  status : Nat
  lo : Nat
  hi : Nat
  opcode : Nat
  arg0 : Word
  arg1 : Word
deriving DecidableEq, Repr, Inhabited

/-- One micro-op of a spore program (R226). -/
structure MicroOp where
  op : Nat
  dest : Nat
  a : Nat
  b : Nat
  imm : F32
deriving DecidableEq, Repr, Inhabited

/-- SPORE PROGRAM record. -/
structure ProgramRec where
  engine : Nat
  id : Nat
  offset : Nat
  ops : List MicroOp
deriving DecidableEq, Repr, Inhabited

/-- SPORE SEQ_CODE record. -/
structure SeqCodeRec where
  engine : Nat
  load : Nat
  words : List Word
deriving DecidableEq, Repr, Inhabited

/-- SPORE FRAME_CHAIN entry. -/
structure ChainRec where
  engine : Nat
  position : Nat
  busIn : Nat
  busOut : Nat
  address : Nat
  block : Bool
deriving DecidableEq, Repr, Inhabited

/-- SPORE SPILL entry. -/
structure SpillRec where
  engine : Nat
  cistern : Nat
  offset : Nat
deriving DecidableEq, Repr, Inhabited

/-- A SPORE section. -/
structure SporeRec where
  programs : List ProgramRec
  code : List SeqCodeRec
  chain : List ChainRec
  spills : List SpillRec
deriving DecidableEq, Repr, Inhabited

/-- TRACE FILTER entry. -/
structure TraceFilterRec where
  first : Nat
  last : Nat
  classes : Nat
deriving DecidableEq, Repr, Inhabited

/-- The device-scope configuration. -/
structure DeviceCfg where
  fs : Nat
  clock : Nat
  present : Nat
  ioBanks : Nat
  pins : List PinFuncRec
  seeds : List Word
  cs1 : Option Nat
  channels : List ChannelRec
  ports : List NetPortRec
  usbPresent : Bool
  usbDesc : List Byte
  midiMap : List MidiMapRec
  budget : Nat
  supply : List SupplyRec
  parkFade : Nat
  role : PairRole
  revertHold : Nat
  traceOn : Bool
  traceDiv : Nat
  traceFilters : List TraceFilterRec
deriving DecidableEq, Repr, Inhabited

/-- The configuration of one tenancy. -/
structure TenancyCfg where
  own : OwnRec
  structs : List StructRec
  myc : MycRec
  forager : ForagerRec
  wells : List WellRec
  cisterns : CisternsRec
  pumps : List PumpRec
  channels : List ChannelRec
  spout : SpoutRec
  uarts : List UartRec
  i2cs : List I2cRec
  timers : List TimerRec
  keybed : Option KeybedRec
  streams : List StreamRec
  routes : List RouteRec
  reflex : List ReflexRec
  spore : SporeRec
deriving DecidableEq, Repr, Inhabited

/-- A section as the spawn store keeps it: type, scope (255 is the device) and its words, header first. -/
structure RawSection where
  type : Nat
  scope : Nat
  words : List Word
deriving DecidableEq, Repr, Inhabited

/-- An applied configuration (R48). raw holds its sections but for payload and signatures (DEDUCED, log entry 30), used the bytes of the
bank in use, digest the CRC-32 with the ROLE record left out (R398), reserve the spawn reservation Q in du (R380). -/
structure AppliedCfg where
  dev : DeviceCfg
  ten : Bank TenancyCfg 8
  raw : List RawSection
  buildId : Word
  used : Nat
  digest : Word
  reserve : Nat
deriving DecidableEq, Repr, Inhabited

/-- The defaults of Table 4 of chapter 02 for the device scope. -/
def DeviceCfg.default : DeviceCfg :=
  { fs := 0, clock := 0, present := 0, ioBanks := 0, pins := [], seeds := [1#32, 2#32, 3#32, 4#32], cs1 := none,
    channels := [], ports := [], usbPresent := false, usbDesc := [], midiMap := [], budget := 1100, supply := [],
    parkFade := 256, role := .single, revertHold := 2000, traceOn := false, traceDiv := 1, traceFilters := [] }

/-- The defaults of Table 4 of chapter 02 for a tenancy. -/
def TenancyCfg.default : TenancyCfg :=
  { own := { gills := 0, cisterns := 0, pumps := 0, engines := 0, periph := [], name := [], permitClass := 2 },
    structs := [], myc := { ticks := [], routes := [], glfos := [], sensors := [] },
    forager := { pools := [], tunings := [], velcurves := [] }, wells := [],
    cisterns := { regions := [], sealedRec := none }, pumps := [], channels := [],
    spout := { busIn := [], busOut := [], groups := [] }, uarts := [], i2cs := [], timers := [], keybed := none,
    streams := [], routes := [], reflex := [], spore := { programs := [], code := [], chain := [], spills := [] } }

/-- The empty configuration: a cleared bank of the spawn store (R48). -/
def AppliedCfg.empty : AppliedCfg :=
  { dev := DeviceCfg.default, ten := ⟨Vector.replicate 8 TenancyCfg.default⟩, raw := [], buildId := 0#32, used := 0, digest := 0#32,
    reserve := 0 }

end Sys2Proof.Machine
end

