-- ==== Sys2Proof/Config.lean ====
section
/-! DEFINITION. What the manual leaves open, as constants without a body: no proof can see their value, so a
statement holds whatever they are. Each is named in the assumption log. -/

namespace Sys2Proof.Config

/-- A fresh undefined word: the registers of a fresh window (R219), bytes whose content the manual does not state
(R125 CHECKPOINT). Applied to the counter State.free. DESIGN CHOICE, log entry 5. -/
opaque freeWord : Nat → BitVec 32

/-- How far a gill's sin of a binary32 lies from the rounded value, which R178 bounds by 2 ulp: 0 to 4 stand for -2 to +2 ulp. DESIGN
CHOICE, log entry 12. -/
opaque sinErr : BitVec 32 → Fin 5

/-- How far a gill's cos of a binary32 lies from the rounded value, which R178 bounds by 2 ulp: 0 to 4 stand for -2 to +2 ulp. DESIGN
CHOICE, log entry 12. -/
opaque cosErr : BitVec 32 → Fin 5

/-- How far a gill's tan of a binary32 lies from the rounded value, which R178 bounds by 2 ulp: 0 to 4 stand for -2 to +2 ulp. DESIGN
CHOICE, log entry 12. -/
opaque tanErr : BitVec 32 → Fin 5

/-- How far a gill's tanh of a binary32 lies from the rounded value, which R178 bounds by 2 ulp: 0 to 4 stand for -2 to +2 ulp. DESIGN
CHOICE, log entry 12. -/
opaque tanhErr : BitVec 32 → Fin 5

/-- How far a gill's 2^x of a binary32 lies from the rounded value, which R178 bounds by 2 ulp: 0 to 4 stand for -2 to +2 ulp. DESIGN
CHOICE, log entry 12. -/
opaque exp2Err : BitVec 32 → Fin 5

/-- The error of the frequency word of R163 ("accurate to within ±1") for a pitch and a rate: 0, 1 and 2 stand for
-1, 0 and +1. DEDUCED, log entry 13. -/
opaque freqError : Int → Nat → Fin 3

/-- The fixed filter of pink noise (R169), which the manual bounds but does not give, as first-order sections: the pole and the gain of
section k, and the gain of the white noise that goes straight through. DESIGN CHOICE, log entry 14. -/
opaque pinkPole : Nat → BitVec 32

/-- See pinkPole. -/
opaque pinkGain : Nat → BitVec 32

/-- See pinkPole. -/
opaque pinkThrough : BitVec 32

/-- What the noise generator of a FREE slot yields to a free-running LFO of shape 5 or 6 (R177): gill, slot, element, draw and frame. No rule
says how that generator stands. DESIGN CHOICE, log entry 121. -/
opaque idleDraw : Nat → Nat → Nat → Nat → BitVec 64 → BitVec 32

/-- Output calibration, ADC and gain trims read from fuses (R62 S2, R303): AIN gain of channel c. DESIGN CHOICE, log entry 6. -/
opaque ainTrim : Nat → BitVec 32

/-- The fused MAC address of a network port (R330). DESIGN CHOICE, log entry 6. -/
opaque fusedMac : Nat → BitVec 48

/-- Whether a fitted aquifer trains at start-up (R266 says what a failure leaves, not when one happens). Applied to State.free. DESIGN CHOICE, log entry 5. -/
opaque aqTrains : Nat → Bool

/-- The way that a full set of an engine's L1 gives up for a line filled at a device time (R235, log entry 123). -/
opaque l1Victim : BitVec 64 → Nat → Nat → Nat

end Sys2Proof.Config
end

