-- ==== Sys2Proof/Machine/Bank.lean ====
section
/-! DEFINITION. Reading and writing a bank of like things and the sparse byte memory. A bank entry out of range reads as
the default and a write there changes nothing; every command names instances inside their range. -/

namespace Sys2Proof

/-- Entry i of a bank. -/
def Bank.get {α : Type} {n : Nat} [Inhabited α] (b : Bank α n) (i : Nat) : α :=
  b.cells.toArray.toList.getD i default

/-- The bank with entry i replaced. -/
def Bank.put {α : Type} {n : Nat} (b : Bank α n) (i : Nat) (v : α) : Bank α n :=
  ⟨b.cells.setIfInBounds i v⟩

/-- The bank with entry i changed by f. -/
def Bank.upd {α : Type} {n : Nat} [Inhabited α] (b : Bank α n) (i : Nat) (f : α → α) : Bank α n :=
  b.put i (f (b.get i))

/-- A bank with the same value everywhere. -/
def Bank.all {α : Type} (n : Nat) (v : α) : Bank α n := ⟨Vector.replicate n v⟩

/-- The bank whose entry i is f i. -/
def Bank.make {α : Type} (n : Nat) (f : Nat → α) : Bank α n :=
  ⟨⟨⟨(List.range n).map f⟩, by simp⟩⟩

/-- The entries in ascending number. -/
def Bank.toList {α : Type} {n : Nat} (b : Bank α n) : List α := b.cells.toArray.toList

/-- Every entry changed by f, which also sees its number. -/
def Bank.mapi {α β : Type} {n : Nat} (b : Bank α n) (f : Nat → α → β) : Bank β n :=
  ⟨⟨⟨(List.range b.cells.toArray.toList.length).zipWith f b.cells.toArray.toList⟩, by simp⟩⟩

/-- The numbers of the entries for which f holds, in ascending order. -/
def Bank.indices {α : Type} {n : Nat} (b : Bank α n) (f : α → Bool) : List Nat :=
  (b.toList.zipIdx.filter (fun x => f x.1)).map Prod.snd

/-- Bits [hi:lo] of a word as a number (R2). -/
def bits {w : Nat} (x : BitVec w) (hi lo : Nat) : Nat := x.toNat / 2 ^ lo % 2 ^ (hi + 1 - lo)

/-- A field value v placed at bit lo of a word. -/
def fld (v lo : Nat) : Nat := v * 2 ^ lo

/-- A Bool as a bit at position lo. -/
def flag (b : Bool) (lo : Nat) : Nat := if b then 2 ^ lo else 0

/-- A number as a word. -/
def w32 (n : Nat) : Word := BitVec.ofNat 32 n

/-- A number as a 64-bit double word. -/
def w64 (n : Nat) : DWord := BitVec.ofNat 64 n

/-- Byte k of a word, little-endian (R2). -/
def byteOf (x : Word) (k : Nat) : Byte := BitVec.ofNat 8 (x.toNat / 2 ^ (8 * k))

/-- The word of four bytes, little-endian (R2). -/
def wordOf (b0 b1 b2 b3 : Byte) : Word :=
  w32 (b0.toNat + b1.toNat * 256 + b2.toNat * 65536 + b3.toNat * 16777216)

/-- The 64-bit value of two words, low word first (R2). -/
def dwordOf (lo hi : Word) : DWord := w64 (lo.toNat + hi.toNat * 4294967296)

/-- Bits [31:0] of a double word. -/
def lo32 (x : DWord) : Word := w32 x.toNat

/-- Bits [63:32] of a double word. -/
def hi32 (x : DWord) : Word := w32 (x.toNat / 4294967296)

/-- The signed value of the low n bits of x. -/
def signed (n x : Nat) : Int :=
  let v := x % 2 ^ n
  if v < 2 ^ (n - 1) then (v : Int) else (v : Int) - (2 ^ n : Nat)

/-- The round-up quotient. -/
def ceilDiv (a b : Nat) : Nat := (a + b - 1) / b

/-- An integer clamped to a range. -/
def clampInt (lo hi x : Int) : Int := if x < lo then lo else if hi < x then hi else x

/-- The 16-bit error counter of R422, R423: adds k and saturates at 0xFFFF. -/
def errCount (c : Nat) (k : Nat) : Nat := min 65535 (c + k)

end Sys2Proof
end

