-- ==== Sys2Proof/Machine/Float.lean ====
section
/-! DEFINITION. IEEE 754 binary32 arithmetic by exact integers: the Truffle arithmetic of R239 to R251 with its modes
and flags, and over it the gill arithmetic of R178. -/

namespace Sys2Proof.Machine

/-- The flags of one lane, R217: NV bit 0, DZ bit 1, OF bit 2, UF bit 3, NX bit 4, DI bit 5. -/
abbrev FFlags := BitVec 6

/-- The arithmetic modes of CTRL, R218: rz rounds toward zero, ftz flushes subnormals. -/
structure FMode where
  rz : Bool
  ftz : Bool
deriving DecidableEq, Repr, Inhabited

/-- A result with its flags. -/
abbrev FRes := F32 × FFlags

/-- Flag NV, invalid operation (R245). -/
def flNV : FFlags := 1#6
/-- Flag DZ, division by zero (R244). -/
def flDZ : FFlags := 2#6
/-- Flag OF, overflow (R243). -/
def flOF : FFlags := 4#6
/-- Flag UF, underflow (R242). -/
def flUF : FFlags := 8#6
/-- Flag NX, inexact (R242). -/
def flNX : FFlags := 16#6
/-- Flag DI, subnormal input flushed (R241). -/
def flDI : FFlags := 32#6

/-- The default NaN dN, 0x7FC0_0000. -/
def fDefaultNaN : F32 := 0x7FC00000#32
/-- +0.0. -/
def fZero : F32 := 0#32
/-- 1.0. -/
def fOne : F32 := 0x3F800000#32
/-- -1.0. -/
def fMinusOne : F32 := 0xBF800000#32

/-- The sign bit. -/
def fSign (x : F32) : Bool := x.getLsbD 31
/-- The exponent field. -/
def fExpo (x : F32) : Nat := bits x 30 23
/-- The fraction field. -/
def fFrac (x : F32) : Nat := bits x 22 0
/-- Any NaN. -/
def fIsNaN (x : F32) : Bool := fExpo x == 255 && fFrac x != 0
/-- A signalling NaN: fraction bit 22 clear. -/
def fIsSNaN (x : F32) : Bool := fIsNaN x && !x.getLsbD 22
/-- An infinity. -/
def fIsInf (x : F32) : Bool := fExpo x == 255 && fFrac x == 0
/-- A zero of either sign. -/
def fIsZero (x : F32) : Bool := fExpo x == 0 && fFrac x == 0
/-- A subnormal. -/
def fIsSub (x : F32) : Bool := fExpo x == 0 && fFrac x != 0
/-- Neither NaN nor infinity. -/
def fIsFinite (x : F32) : Bool := fExpo x != 255

/-- The zero of a sign. -/
def fSignedZero (s : Bool) : F32 := if s then 0x80000000#32 else 0#32
/-- The infinity of a sign. -/
def fSignedInf (s : Bool) : F32 := if s then 0xFF800000#32 else 0x7F800000#32
/-- The largest finite value M of a sign, 0x7F7F_FFFF. -/
def fSignedMax (s : Bool) : F32 := if s then 0xFF7FFFFF#32 else 0x7F7FFFFF#32
/-- Sign bit flipped (quiet, R239). -/
def fNeg (x : F32) : F32 := x ^^^ 0x80000000#32
/-- Sign bit cleared (quiet, R239). -/
def fAbs (x : F32) : F32 := x &&& 0x7FFFFFFF#32
/-- |a| with the sign of b (quiet, R239). -/
def fCopySign (a b : F32) : F32 := fAbs a ||| (b &&& 0x80000000#32)

/-- The significand of a finite value: value = significand × 2^(fScale x). -/
def fMant (x : F32) : Nat := if fExpo x == 0 then fFrac x else fFrac x + 8388608
/-- The power of two that scales the significand of a finite value. -/
def fScale (x : F32) : Int := if fExpo x == 0 then -149 else (fExpo x : Int) - 150

/-- n / 2^sh rounded to an integer, with whether it was inexact; sticky says a positive part below n's last bit
was dropped. Nearest even, or toward zero when rz. -/
def roundShift (rz : Bool) (n sh : Nat) (sticky : Bool) : Nat × Bool :=
  let q := n / 2 ^ sh
  let r := n % 2 ^ sh
  let inexact := r != 0 || sticky
  let up := !rz && (2 * r > 2 ^ sh || (2 * r == 2 ^ sh && (sticky || q % 2 == 1)))
  (if up then q + 1 else q, inexact)

/-- A binary32 of sign s and magnitude q × 2^e, q below 2^24, exactly representable. -/
def fPack (s : Bool) (q : Nat) (e : Int) : F32 :=
  if q == 0 then fSignedZero s
  else if q < 8388608 then fSignedZero s ||| w32 q
  else fSignedZero s ||| w32 ((e + 150).toNat * 8388608 + (q - 8388608))

/-- R240 to R243: the exact magnitude (n, plus a part below its last bit when sticky) × 2^e rounded once to binary32,
with overflow, underflow after rounding, and flushing of tiny results. When sticky, n has more than 25 bits. -/
def fRound (m : FMode) (s : Bool) (n : Nat) (e : Int) (sticky : Bool) : FRes :=
  if n == 0 && !sticky then (fSignedZero s, 0#6) else
  let len := Nat.log2 n + 1
  let sh := len - 24
  let up := 24 - len
  let (q0, ix) := roundShift m.rz (n * 2 ^ up) sh sticky
  let e0 : Int := e + (sh : Int) - (up : Int)
  let carry := q0 == 16777216
  let q := if carry then 8388608 else q0
  let eU : Int := if carry then e0 + 1 else e0
  if eU + 23 > 127 then
    (if m.rz then fSignedMax s else fSignedInf s, flOF ||| flNX)
  else if eU + 23 < -126 then
    if m.ftz then (fSignedZero s, flUF ||| flNX)
    else
      let d : Int := -149 - e
      let (q', ix') := if d ≤ 0 then (n * 2 ^ (-d).toNat, sticky) else roundShift m.rz n d.toNat sticky
      (fPack s q' (-149), if ix' then flUF ||| flNX else 0#6)
  else (fPack s q eU, if ix then flNX else 0#6)

/-- R241: an input of an arithmetic operation, flushed with DI under FTZ. -/
def fIn (m : FMode) (x : F32) : FRes :=
  if m.ftz && fIsSub x then (fSignedZero (fSign x), flDI) else (x, 0#6)

/-- R245: the result of an operation that has a NaN among its inputs: dN, with NV for a signalling one. -/
def fNaNRes (sn : Bool) : FRes := (fDefaultNaN, if sn then flNV else 0#6)

/-- The signed integer significand of a finite value at scale e (e no larger than its own scale). -/
def fAligned (x : F32) (e : Int) : Int :=
  let v : Int := (fMant x * 2 ^ (fScale x - e).toNat : Nat)
  if fSign x then -v else v

/-- An exact signed sum v × 2^e rounded; an exact zero takes the sign zs (R246). -/
def fRoundInt (m : FMode) (v : Int) (e : Int) (zs : Bool) : FRes :=
  if v == 0 then (fSignedZero zs, 0#6) else fRound m (v < 0) v.natAbs e false

/-- The sum of two values that are flushed already and not NaN. -/
def fAddCore (m : FMode) (a b : F32) : FRes :=
  if fIsInf a then
    if fIsInf b && fSign a != fSign b then (fDefaultNaN, flNV) else (a, 0#6)
  else if fIsInf b then (b, 0#6)
  else
    let e := min (fScale a) (fScale b)
    fRoundInt m (fAligned a e + fAligned b e) e (fSign a && fSign b)

/-- R240, R245, R246: a + b. -/
def fAdd (m : FMode) (a0 b0 : F32) : FRes :=
  let (a, da) := fIn m a0
  let (b, db) := fIn m b0
  let (r, f) := if fIsNaN a || fIsNaN b then fNaNRes (fIsSNaN a || fIsSNaN b) else fAddCore m a b
  (r, f ||| da ||| db)

/-- a - b, computed as a + (-b). -/
def fSub (m : FMode) (a b : F32) : FRes := fAdd m a (fNeg b)

/-- R240, R245, R246: a × b. -/
def fMul (m : FMode) (a0 b0 : F32) : FRes :=
  let (a, da) := fIn m a0
  let (b, db) := fIn m b0
  let s := fSign a != fSign b
  let (r, f) : FRes :=
    if fIsNaN a || fIsNaN b then fNaNRes (fIsSNaN a || fIsSNaN b)
    else if fIsInf a || fIsInf b then
      if fIsZero a || fIsZero b then (fDefaultNaN, flNV) else (fSignedInf s, 0#6)
    else fRound m s (fMant a * fMant b) (fScale a + fScale b) false
  (r, f ||| da ||| db)

/-- R240, R245: a × b + c with one rounding. 0 × ∞ raises NV even when c is a NaN. -/
def fFma (m : FMode) (a0 b0 c0 : F32) : FRes :=
  let (a, da) := fIn m a0
  let (b, db) := fIn m b0
  let (c, dc) := fIn m c0
  let s := fSign a != fSign b
  let invalid := (fIsInf a && fIsZero b) || (fIsZero a && fIsInf b)
  let (r, f) : FRes :=
    if fIsNaN a || fIsNaN b || fIsNaN c then fNaNRes (fIsSNaN a || fIsSNaN b || fIsSNaN c || invalid)
    else if invalid then (fDefaultNaN, flNV)
    else if fIsInf a || fIsInf b then
      if fIsInf c && fSign c != s then (fDefaultNaN, flNV) else (fSignedInf s, 0#6)
    else if fIsInf c then (c, 0#6)
    else
      let ep := fScale a + fScale b
      let e := min ep (fScale c)
      let p : Int := (fMant a * fMant b * 2 ^ (ep - e).toNat : Nat)
      fRoundInt m ((if s then -p else p) + fAligned c e) e (s && fSign c)
  (r, f ||| da ||| db ||| dc)

/-- R240, R244, R245: a / b, correctly rounded. -/
def fDiv (m : FMode) (a0 b0 : F32) : FRes :=
  let (a, da) := fIn m a0
  let (b, db) := fIn m b0
  let s := fSign a != fSign b
  let (r, f) : FRes :=
    if fIsNaN a || fIsNaN b then fNaNRes (fIsSNaN a || fIsSNaN b)
    else if fIsInf a then
      if fIsInf b then (fDefaultNaN, flNV) else (fSignedInf s, 0#6)
    else if fIsInf b then (fSignedZero s, 0#6)
    else if fIsZero b then
      if fIsZero a then (fDefaultNaN, flNV) else (fSignedInf s, flDZ)
    else
      let n := fMant a * 2 ^ 64
      fRound m s (n / fMant b) (fScale a - fScale b - 64) (n % fMant b != 0)
  (r, f ||| da ||| db)

/-- The integer square root of n, one result bit per step from bit k down. -/
def isqrtFrom : Nat → Nat → Nat → Nat
  | 0, _, r => r
  | k + 1, n, r =>
    let t := r + 2 ^ k
    isqrtFrom k n (if t * t ≤ n then t else r)

/-- R240, R245, R246: the square root, correctly rounded. -/
def fSqrt (m : FMode) (a0 : F32) : FRes :=
  let (a, da) := fIn m a0
  let (r, f) : FRes :=
    if fIsNaN a then fNaNRes (fIsSNaN a)
    else if fIsZero a then (a, 0#6)
    else if fSign a then (fDefaultNaN, flNV)
    else if fIsInf a then (a, 0#6)
    else
      let odd : Nat := (fScale a % 2).toNat
      let n := fMant a * 2 ^ (64 + odd)
      let r := isqrtFrom 46 n 0
      fRound m false r ((fScale a - 64 - (odd : Int)) / 2) (r * r != n)
  (r, f ||| da)

/-- a < b for values that are not NaN, with -0 and +0 equal. -/
def fLtCore (a b : F32) : Bool :=
  if fIsZero a && fIsZero b then false
  else if fSign a && !fSign b then true
  else if !fSign a && fSign b then false
  else if fSign a then decide (b.toNat < a.toNat) else decide (a.toNat < b.toNat)

/-- a = b for values that are not NaN. -/
def fEqCore (a b : F32) : Bool := (fIsZero a && fIsZero b) || a == b

/-- a < b with -0 taken as less than +0 (R247). -/
def fLtTotal (a b : F32) : Bool :=
  if fIsZero a && fIsZero b then fSign a && !fSign b else fLtCore a b

/-- R247: the minimum (lt) or the maximum (not lt). -/
def fMinMax (isMin : Bool) (m : FMode) (a0 b0 : F32) : FRes :=
  let (a, da) := fIn m a0
  let (b, db) := fIn m b0
  let nv := if fIsSNaN a || fIsSNaN b then flNV else 0#6
  let r :=
    if fIsNaN a && fIsNaN b then fDefaultNaN
    else if fIsNaN a then b
    else if fIsNaN b then a
    else if isMin then (if fLtTotal b a then b else a) else (if fLtTotal a b then b else a)
  (r, nv ||| da ||| db)

/-- VMIN (R247). -/
def fMin (m : FMode) (a b : F32) : FRes := fMinMax true m a b
/-- VMAX (R247). -/
def fMax (m : FMode) (a b : F32) : FRes := fMinMax false m a b

/-- The four compares of Table 3 of chapter 09. -/
inductive FCmp where
  | eq | lt | le | un
deriving DecidableEq, Repr, Inhabited

/-- R248: a compare with its flags. -/
def fCompare (c : FCmp) (m : FMode) (a0 b0 : F32) : Bool × FFlags :=
  let (a, da) := fIn m a0
  let (b, db) := fIn m b0
  let nan := fIsNaN a || fIsNaN b
  let sn := fIsSNaN a || fIsSNaN b
  let (r, f) : Bool × FFlags :=
    match c with
    | .eq => (!nan && fEqCore a b, if sn then flNV else 0#6)
    | .lt => (!nan && fLtCore a b, if nan then flNV else 0#6)
    | .le => (!nan && (fLtCore a b || fEqCore a b), if nan then flNV else 0#6)
    | .un => (nan, if sn then flNV else 0#6)
  (r, f ||| da ||| db)

/-- Which integer a value is rounded to: nearest even, toward zero, or toward minus infinity (FLOOR). -/
inductive FIntMode where
  | nearest | zero | floor
deriving DecidableEq, Repr, Inhabited

/-- The integer a finite value rounds to, and whether that was inexact. -/
def fToInt (im : FIntMode) (x : F32) : Int × Bool :=
  let e := fScale x
  if 0 ≤ e then
    let v : Int := (fMant x * 2 ^ e.toNat : Nat)
    (if fSign x then -v else v, false)
  else
    let sh := (-e).toNat
    let (q, ix) := roundShift (im != .nearest) (fMant x) sh false
    let v : Int := (q : Int)
    match im with
    | .floor => (if fSign x then -v - (if ix then 1 else 0) else v, ix)
    | _ => (if fSign x then -v else v, ix)

/-- An integer as binary32, rounded (R249 VCVTF). -/
def fOfInt (m : FMode) (v : Int) : FRes := fRoundInt { m with ftz := false } v 0 false

/-- R249: VRINT and FLOOR: never NX; zeros and infinities come back unchanged. -/
def fRint (im : FIntMode) (m : FMode) (a0 : F32) : FRes :=
  let (a, da) := fIn m a0
  let (r, f) : FRes :=
    if fIsNaN a then fNaNRes (fIsSNaN a)
    else if fIsInf a || fIsZero a then (a, 0#6)
    else
      let v := (fToInt im a).1
      (if v == 0 then fSignedZero (fSign a) else (fOfInt { rz := true, ftz := false } v).1, 0#6)
  (r, f ||| da)

/-- The rounding of VRINT and VCVTI in a mode (R240). -/
def fIntModeOf (m : FMode) : FIntMode := if m.rz then .zero else .nearest

/-- R249: VCVTI, binary32 to int32 with saturation. -/
def fCvtI (m : FMode) (a0 : F32) : FRes :=
  let (a, da) := fIn m a0
  let (r, f) : FRes :=
    if fIsNaN a then (0#32, flNV)
    else if fIsInf a then (if fSign a then 0x80000000#32 else 0x7FFFFFFF#32, flNV)
    else
      let (v, ix) := fToInt (fIntModeOf m) a
      if v > 2147483647 then (0x7FFFFFFF#32, flNV)
      else if v < -2147483648 then (0x80000000#32, flNV)
      else (BitVec.ofInt 32 v, if ix then flNX else 0#6)
  (r, f ||| da)

/-- R249: VCVTF, int32 to binary32. -/
def fCvtF (m : FMode) (a : Word) : FRes := fOfInt m a.toInt

/-! Gill arithmetic (R178): nearest even, every subnormal input and result replaced by a zero of its sign, no flags. -/

/-- The gill rounding mode before flushing. -/
def gMode : FMode := { rz := false, ftz := false }

/-- A subnormal replaced by a zero of its sign. -/
def gFlush (x : F32) : F32 := if fIsSub x then fSignedZero (fSign x) else x

/-- Gill a + b. -/
def gAdd (a b : F32) : F32 := gFlush (fAdd gMode (gFlush a) (gFlush b)).1
/-- Gill a - b. -/
def gSub (a b : F32) : F32 := gFlush (fSub gMode (gFlush a) (gFlush b)).1
/-- Gill a × b. -/
def gMul (a b : F32) : F32 := gFlush (fMul gMode (gFlush a) (gFlush b)).1
/-- Gill a / b. -/
def gDiv (a b : F32) : F32 := gFlush (fDiv gMode (gFlush a) (gFlush b)).1
/-- Gill square root. -/
def gSqrt (a : F32) : F32 := gFlush (fSqrt gMode (gFlush a)).1
/-- Gill negation. -/
def gNeg (a : F32) : F32 := fNeg a
/-- Gill a < b; false for a NaN. -/
def gLt (a b : F32) : Bool := (fCompare .lt gMode (gFlush a) (gFlush b)).1
/-- Gill a ≤ b; false for a NaN. -/
def gLe (a b : F32) : Bool := (fCompare .le gMode (gFlush a) (gFlush b)).1
/-- Gill equality; false for a NaN. -/
def gEq (a b : F32) : Bool := (fCompare .eq gMode (gFlush a) (gFlush b)).1
/-- Gill minimum. -/
def gMin (a b : F32) : F32 := (fMin gMode (gFlush a) (gFlush b)).1
/-- Gill maximum. -/
def gMax (a b : F32) : F32 := (fMax gMode (gFlush a) (gFlush b)).1
/-- A value clamped to a range (R161). -/
def gClamp (lo hi x : F32) : F32 := gMin hi (gMax lo x)
/-- An integer as binary32, nearest even. -/
def gOfInt (v : Int) : F32 := (fOfInt gMode v).1
/-- The ratio of two integers as binary32, rounded once, nearest even. -/
def gRatio (n : Int) (d : Nat) : F32 :=
  if n == 0 || d == 0 then fZero
  else
    let k := n.natAbs * 2 ^ 64
    gFlush (fRound gMode (n < 0) (k / d) (-64) (k % d != 0)).1
/-- The integer nearest to a finite value, ties to even; 0 for a NaN or an infinity. -/
def gToInt (x : F32) : Int := if fIsFinite x then (fToInt .nearest x).1 else 0
/-- The largest integer no greater than a finite value; 0 for a NaN or an infinity. -/
def gFloor (x : F32) : Int := if fIsFinite x then (fToInt .floor x).1 else 0
/-- v × 2^k rounded to the nearest integer, ties to even; 0 for a NaN or an infinity. -/
def gScaledInt (x : F32) (k : Nat) : Int :=
  if fIsFinite x then
    let e := fScale x + (k : Int)
    let q : Nat := if 0 ≤ e then fMant x * 2 ^ e.toNat else (roundShift false (fMant x) (-e).toNat false).1
    if fSign x then -(q : Int) else (q : Int)
  else 0

end Sys2Proof.Machine
end

