-- ==== Sys2Proof/Machine/Transcend.lean ====
section
/-! DEFINITION. The functions of R178, R175, R195 and R359 that are no single IEEE operation: sin, cos, tan, tanh, exp2, e^x and logarithms,
by their series in integers scaled by 2^384, rounded once to binary32. -/

namespace Sys2Proof.Machine

/-! ### Series at scale 2^384 -/

/-- The scale. -/
def fxOne : Nat := 2 ^ 384

/-- π at the scale. -/
def fxPi : Nat :=
  123785053203292407819553701039137184435442376711719744927844101526111311422332618694237111830548352286187237239491692

/-- ln 2 at the scale. -/
def fxLn2 : Nat :=
  27311389503436327984859642001965014295881604093268141717219425985154158335678826923825841039545353940567474963094288

/-- The terms of a series y^n / n!, from one term on: n is the power of the term given, step how far a term moves on, and alternate whether
signs alternate. power is y to the step. -/
def fxSeries (alternate : Bool) (step power : Nat) : Nat → Nat → Nat → Bool → Int → Int
  | 0, _, _, _, sum => sum
  | k + 1, n, term, neg, sum =>
    let d := if step = 1 then n + 1 else (n + 1) * (n + 2)
    let t := term * power / fxOne / d
    fxSeries alternate step power k (n + step) t (if alternate then !neg else neg) (if neg then sum - t else sum + t)

/-- sin of a scaled angle up to π/2. -/
def fxSin (r : Nat) : Int := fxSeries true 2 (r * r / fxOne) 48 1 r true r

/-- cos of a scaled angle up to π/2. -/
def fxCos (r : Nat) : Int := fxSeries true 2 (r * r / fxOne) 48 0 fxOne true fxOne

/-- e^r of a scaled r up to ln 2. -/
def fxExp (r : Nat) : Nat := (fxSeries false 1 r 80 0 fxOne false fxOne).toNat

/-- The terms z^n / n for odd n, from the one after the term given on. -/
def fxOdd (square : Nat) : Nat → Nat → Nat → Nat → Nat
  | 0, _, _, sum => sum
  | k + 1, n, term, sum =>
    let t := term * square / fxOne
    fxOdd square k (n + 2) t (sum + t / (n + 2))

/-- ln (n / d) at the scale, for positive n and d: 2 artanh z + j ln 2 with n / d = 2^j (1 + z) / (1 - z). -/
def fxLn (n d : Nat) : Int :=
  let j : Int := (Nat.log2 n : Int) - Nat.log2 d
  let a := n * 2 ^ (-j).toNat
  let b := d * 2 ^ j.toNat
  let z := (if b ≤ a then a - b else b - a) * fxOne / (a + b)
  let artanh := fxOdd (z * z / fxOne) 128 1 z z
  (if b ≤ a then 2 * (artanh : Int) else -(2 * (artanh : Int))) + j * fxLn2

/-- The magnitude of a finite value at the scale, exact. -/
def fxMag (x : F32) : Nat := fMant x * 2 ^ (fScale x + 384).toNat

/-- The quadrant of a scaled angle and what is left of it. -/
def fxQuadrant (a : Nat) : Nat × Nat := (a / (fxPi / 2) % 4, a - a / (fxPi / 2) * fxPi / 2)

/-- sin and cos of a finite value's magnitude. -/
def fxSinCos (x : F32) : Int × Int :=
  let q := fxQuadrant (fxMag x)
  match q.1 with
  | 0 => (fxSin q.2, fxCos q.2)
  | 1 => (fxCos q.2, -fxSin q.2)
  | 2 => (-fxSin q.2, -fxCos q.2)
  | _ => (-fxCos q.2, fxSin q.2)

/-- 2^(v / 2^384) for a scaled v: the significand at the scale, from 1 to 2, and the power of two. -/
def fxExp2 (v : Int) : Nat × Int := (fxExp ((v % fxOne).toNat * fxLn2 / fxOne), v / fxOne)

/-- e^(v / 2^384), in the same form. -/
def fxExpE (v : Int) : Nat × Int := (fxExp (v % fxLn2).toNat, v / fxLn2)

/-! ### Rounded to binary32 -/

/-- A scaled value that is not exact, rounded. -/
def gOfFx (v : Int) (e : Int) : F32 := gFlush (fRound gMode (v < 0) v.natAbs (e - 384) true).1

/-- A result that a free error moves by up to two units in the last place (R178); a zero, an infinity and a NaN are as they are. -/
def gNear (err : Fin 5) (r : F32) : F32 :=
  if fIsZero r || !fIsFinite r then r else gFlush (w32 (r.toNat + err.val - 2))

/-- sin x rounded. -/
def sinRound (x : F32) : F32 :=
  if !fIsFinite x then fDefaultNaN
  else if fIsZero x then x
  else gOfFx (if fSign x then -(fxSinCos x).1 else (fxSinCos x).1) 0

/-- cos x rounded. -/
def cosRound (x : F32) : F32 :=
  if !fIsFinite x then fDefaultNaN else if fIsZero x then fOne else gOfFx (fxSinCos x).2 0

/-- tan x rounded. -/
def tanRound (x : F32) : F32 :=
  if !fIsFinite x then fDefaultNaN
  else if fIsZero x then x
  else
    let t := (fxSinCos x).1 * fxOne / (fxSinCos x).2
    gOfFx (if fSign x then -t else t) 0

/-- tanh x rounded: (1 - e^(-2|x|)) / (1 + e^(-2|x|)) with the sign of x; beyond 64 it is 1. -/
def tanhRound (x : F32) : F32 :=
  if fIsNaN x then fDefaultNaN
  else if fIsZero x then x
  else if gLt (gOfInt 64) (fAbs x) then fCopySign fOne x
  else
    let p := fxExpE (-(2 * (fxMag x : Int)))
    let e := p.1 / 2 ^ (-p.2).toNat
    fCopySign (gOfFx ((fxOne - e : Nat) * fxOne / (fxOne + e) : Nat) 0) x

/-- An exponential of a value limited to ±256, rounded; exact says that it is a power of two. -/
def expRound (p : Nat × Int) (exact : Bool) : F32 := gFlush (fRound gMode false p.1 (p.2 - 384) (!exact)).1

/-- A finite value at the scale, limited to ±256. -/
def fxLimited (x : F32) : Int :=
  let m : Int := (min (fxMag (gMin (gOfInt 256) (fAbs x))) (256 * fxOne) : Nat)
  if fSign x then -m else m

/-- 2^x rounded. -/
def exp2Round (x : F32) : F32 :=
  if fIsNaN x then fDefaultNaN else expRound (fxExp2 (fxLimited x)) (decide (fxLimited x % fxOne = 0))

/-- e^x rounded. -/
def gExpRound (x : F32) : F32 := if fIsNaN x then fDefaultNaN else expRound (fxExpE (fxLimited x)) (fIsZero x)

/-- log2 x rounded: of a zero minus infinity, of a negative value NaN. -/
def log2Round (x : F32) : F32 :=
  if fIsNaN x then fDefaultNaN
  else if fIsZero x then fSignedInf true
  else if fSign x then fDefaultNaN
  else if fIsInf x then x
  else if 2 ^ Nat.log2 (fMant x) = fMant x then gOfInt ((Nat.log2 (fMant x) : Int) + fScale x)
  else gOfFx ((fxLn (fMant x * 2 ^ (fScale x).toNat) (2 ^ (-fScale x).toNat)) * fxOne / fxLn2) 0

/-! ### The gill's functions (R178) -/

/-- sin of R178: within two units in the last place of the rounded value, which of them free (log entry 12). -/
def gSin (x : F32) : F32 := gNear (Config.sinErr (gFlush x)) (sinRound (gFlush x))
/-- cos, see gSin. -/
def gCos (x : F32) : F32 := gNear (Config.cosErr (gFlush x)) (cosRound (gFlush x))
/-- tan, see gSin. -/
def gTan (x : F32) : F32 := gNear (Config.tanErr (gFlush x)) (tanRound (gFlush x))
/-- tanh, see gSin. -/
def gTanh (x : F32) : F32 := gNear (Config.tanhErr (gFlush x)) (tanhRound (gFlush x))
/-- 2^x, see gSin. -/
def gExp2 (x : F32) : F32 := gNear (Config.exp2Err (gFlush x)) (exp2Round (gFlush x))
/-- e^x (R175, R290, R294, R295), an operation that rounds to nearest even like any other (R178). -/
def gExp (x : F32) : F32 := gExpRound (gFlush x)
/-- log2 (R195 curve LOG), rounded to nearest even. -/
def gLog2 (x : F32) : F32 := log2Round (gFlush x)

/-- k × ln (a / b) / ln (c / d) at the scale: a position on a logarithmic scale (R359), whose second ratio exceeds 1. -/
def logPosition (k a b c d : Nat) : Nat := (fxLn a b * (k * fxOne) / fxLn c d).toNat

end Sys2Proof.Machine
end

