-- ==== Sys2Proof/Machine/Elements.lean ====
section
/-! DEFINITION. The tables of the voice elements: costs and counts (Table 1 of chapter 07), inputs and outputs (Table 2),
parameters and options (Table 3). -/

namespace Sys2Proof.Machine

/-- A parameter of an element: range, default, whether only integers are values, and whether it is a mycelium destination. -/
structure ParamInfo where
  lo : F32
  hi : F32
  dflt : F32
  integral : Bool
  dest : Bool
deriving DecidableEq, Repr, Inhabited

/-- A parameter with rational bounds and default over a common denominator. -/
def param (den : Nat) (lo hi dflt : Int) (integral dest : Bool) : ParamInfo :=
  { lo := gRatio lo den, hi := gRatio hi den, dflt := gRatio dflt den, integral := integral, dest := dest }

/-- Whether an element type is an oscillator with PITCH, KEYTRACK and LEVEL. -/
def ElemKind.isOsc : ElemKind → Bool
  | .blep | .wavetable | .sample | .fm | .pd => true
  | _ => false

/-- Whether an element type is one of the filters counted together. -/
def ElemKind.isFilter : ElemKind → Bool
  | .svf | .ladder | .comb => true
  | _ => false

/-- The cost of an element in gill cycles for each voice and frame (Table 1). -/
def ElemKind.cost : ElemKind → Nat
  | .blep => 18 | .wavetable => 26 | .sample => 30 | .fm => 12 | .pd => 14 | .noise => 4 | .svf => 16 | .ladder => 40
  | .comb => 14 | .shaper => 10 | .mix => 5 | .amp => 6 | .env => 6 | .lfo => 5

/-- How many inputs an element has (Table 2). -/
def ElemKind.inputs : ElemKind → Nat
  | .blep | .pd | .wavetable | .mix => 2
  | .fm | .svf | .ladder | .comb | .shaper | .amp => 1
  | .sample | .noise | .env | .lfo => 0

/-- How many outputs an element has (Table 2). -/
def ElemKind.outputs : ElemKind → Nat
  | .blep | .pd | .wavetable | .fm | .sample | .ladder => 2
  | .svf | .amp => 4
  | .noise | .comb | .shaper | .mix | .env | .lfo => 1

/-- The parameters of Table 3 by id. SAMPLE's RING_BYTES and ZONE_BYTES, and WAVETABLE's POSITION, have the further limits that
the loader checks. -/
def ElemKind.param (k : ElemKind) (id : Nat) : Option ParamInfo :=
  match k, id with
  | .noise, 0 => some (Machine.param 1 0 4 1 false true)
  | .svf, 0 => some (Machine.param 1 0 8388607 491520 false true)
  | .svf, 1 => some (Machine.param 1 (-2) 2 0 false false)
  | .svf, 2 => some (Machine.param 10000 5000 400000 7071 false true)
  | .ladder, 0 => some (Machine.param 1 0 8388607 491520 false true)
  | .ladder, 1 => some (Machine.param 1 (-2) 2 0 false false)
  | .ladder, 2 => some (Machine.param 10 0 12 0 false true)
  | .ladder, 3 => some (Machine.param 10 1 160 10 false true)
  | .comb, 0 => some (Machine.param 1 0 8388607 282624 false true)
  | .comb, 1 => some (Machine.param 1 (-2) 2 1 false false)
  | .comb, 2 => some (Machine.param 1000 (-999) 999 500 false true)
  | .comb, 3 => some (Machine.param 1 0 1 0 false true)
  | .comb, 4 => some (Machine.param 1 0 2047 0 true false)
  | .comb, 5 => some (Machine.param 1 16 4096 1024 true false)
  | .shaper, 0 => some (Machine.param 10 1 640 10 false true)
  | .shaper, 1 => some (Machine.param 1 (-4) 4 0 false true)
  | .shaper, 2 => some (Machine.param 1 0 1 1 false true)
  | .mix, 0 => some (Machine.param 2 0 2 1 false true)
  | .amp, 0 => some (Machine.param 1 0 16 1 false true)
  | .amp, 1 => some (Machine.param 1 (-1) 1 0 false true)
  | .amp, 2 => some (Machine.param 1 0 4 0 false true)
  | .env, 0 => some (Machine.param 10000 625 160000 10000 false true)
  | .env, 1 => some (Machine.param 1 (-1) 1 1 false true)
  | .env, 2 => some (Machine.param 1 0 1 0 false false)
  | .env, 3 => some (Machine.param 1 (-1) 1 0 false false)
  | .env, 4 => some (Machine.param 1 (-1) 6 (-1) true false)
  | .env, i =>
    if 8 ≤ i ∧ i < 16 then some (Machine.param 1 (-1) 1 0 false false)
    else if 16 ≤ i ∧ i < 24 then some (Machine.param 1 0 16777216 0 false false)
    else if 24 ≤ i ∧ i < 32 then some (Machine.param 1 (-16) 16 0 false false)
    else none
  | .lfo, 0 => some (Machine.param 1000 1 1000000 1000 false true)
  | .lfo, 1 => some (Machine.param 1 0 1 1 false true)
  | .lfo, 2 => some (Machine.param 1 0 1 0 false false)
  | .lfo, 3 => some (Machine.param 1 0 16777216 0 false false)
  | .noise, _ | .svf, _ | .ladder, _ | .comb, _ | .shaper, _ | .mix, _ | .amp, _ | .lfo, _ => none
  | .blep, 3 => some (Machine.param 100 1 99 50 false true)
  | .wavetable, 3 => some (Machine.param 1 0 15 0 false true)
  | .wavetable, 4 => some (Machine.param 1 0 16383 0 true false)
  | .wavetable, 5 => some (Machine.param 1 0 31 0 true false)
  | .wavetable, 6 => some (Machine.param 1 1 16 1 true false)
  | .sample, 3 => some (Machine.param 1 0 16383 0 true false)
  | .sample, 4 => some (Machine.param 1 64 65536 64 true false)
  | .sample, 5 => some (Machine.param 1 0 2047 0 true false)
  | .sample, 6 => some (Machine.param 1 256 4096 1024 true false)
  | .sample, 7 => some (Machine.param 1 0 2047 0 true false)
  | .sample, 8 => some (Machine.param 1 0 31 0 true false)
  | .fm, 3 => some (Machine.param 10000 625 320000 10000 false true)
  | .fm, 4 => some (Machine.param 1 0 8 1 false true)
  | .fm, 5 => some (Machine.param 1 0 1 0 false true)
  | .pd, 3 => some (Machine.param 1 0 1 0 false true)
  | _, 0 => some (Machine.param 1 (-1048576) 1048576 0 false true)
  | _, 1 => some (Machine.param 1 (-2) 2 1 false false)
  | _, 2 => some (Machine.param 1 0 4 1 false true)
  | _, _ => none

/-- Whether an element's option bits are defined and in range (Table 3). -/
def ElemKind.optionsOk (k : ElemKind) (o : Nat) : Bool :=
  match k with
  | .blep | .shaper => decide (o < 4)
  | .noise => decide (o < 2)
  | .mix => decide (o < 3)
  | .amp => decide (o < 6) || o == 15
  | .env => decide (o < 32) && decide (1 ≤ o % 16) && decide (o % 16 ≤ 8)
  | .lfo => decide (o < 32)
  | .wavetable | .sample | .fm | .pd | .svf | .ladder | .comb => o == 0

/-- The mycelium destinations of a structure: (element, parameter id) in destination order (R161). -/
def StructRec.dests (st : StructRec) : List (Nat × Nat) :=
  st.elems.zipIdx.flatMap (fun e =>
    ((List.range 32).filter (fun id => match e.1.kind.param id with
      | some i => i.dest
      | none => false)).map (fun id => (e.2, id)))

/-- The number of the destination of a parameter, if it is one. -/
def StructRec.destOf (st : StructRec) (e id : Nat) : Option Nat := st.dests.findIdx? (· == (e, id))

/-- The base value of a parameter: its PARAM entry, or its default (R161). -/
def StructRec.base (st : StructRec) (e id : Nat) : F32 :=
  match st.params.find? (fun p => p.elem == e && p.id == id) with
  | some p => p.value
  | none => match st.elems[e]? with
    | some r => match r.kind.param id with
      | some i => i.dflt
      | none => 0#32
    | none => 0#32

/-- The base value of an integral parameter, as a number. -/
def StructRec.baseNat (st : StructRec) (e id : Nat) : Nat := (gToInt (st.base e id)).toNat

/-- The range of a parameter: WAVETABLE's POSITION ends at WAVES - 1. -/
def StructRec.range (st : StructRec) (e id : Nat) : F32 × F32 :=
  match st.elems[e]? with
  | some r => match r.kind.param id with
    | some i =>
      if r.kind == .wavetable && id == 3 then (0#32, gOfInt ((st.baseNat e 6 : Int) - 1)) else (i.lo, i.hi)
    | none => (0#32, 0#32)
  | none => (0#32, 0#32)

/-- The effective value of a parameter (R161): base plus modulation, clamped; a parameter that is no destination takes its base.
dest holds the destination values of the frame. -/
def StructRec.value (st : StructRec) (dest : List F32) (e id : Nat) : F32 :=
  match st.destOf e id with
  | some d =>
    let r := st.range e id
    gClamp r.1 r.2 (gAdd (st.base e id) (dest.getD d 0#32))
  | none => st.base e id

/-- The indexes of the elements of one kind, in element order. -/
def StructRec.ofKind (st : StructRec) (k : ElemKind) : List Nat :=
  (st.elems.zipIdx.filter (fun e => e.1.kind == k)).map Prod.snd

/-- The ENV (element index) that gates AMP0, if it names one (R158, R174). -/
def StructRec.gateEnv (st : StructRec) : Option Nat :=
  match st.ofKind .amp with
  | [] => none
  | a :: _ => match st.elems[a]? with
    | some r => (st.ofKind .env)[r.options]?
    | none => none

/-- The per-frame cycle count of a gill of the structure (R42). -/
def StructRec.cycles (st : StructRec) : Nat :=
  300 + st.slots * (20 + (st.elems.map (fun e => e.kind.cost)).sum)

end Sys2Proof.Machine
end

