-- ==== Sys2Proof/Machine/Mem.lean ====
section
/-! DEFINITION. The sparse byte memories (R76, R90, R256, R266: every byte reads as zero until written). A memory is a list of
(address, byte) cells with strictly rising addresses and no cell equal to 0. -/

namespace Sys2Proof.Machine

/-- A byte memory. -/
abbrev Memory := List Host.Cell

/-- What an address that no cell lists reads as: a wiped byte (R76, R90). -/
def Memory.blank : Byte := 0#8

/-- The canonical form from address lo on: addresses strictly rising, and no cell that reads as a blank. -/
def Memory.wfFrom (lo : Nat) : Memory → Bool
  | [] => true
  | (a, b) :: m => decide (lo ≤ a) && (b != Memory.blank) && Memory.wfFrom (a + 1) m

/-- The canonical form. -/
def Memory.wf (m : Memory) : Bool := Memory.wfFrom 0 m

/-- The byte at an address. -/
def Memory.get : Memory → Nat → Byte
  | [], _ => Memory.blank
  | (a, b) :: m, x => if x = a then b else if x < a then Memory.blank else Memory.get m x

/-- A cell in front of a memory, left out when it reads as a blank. -/
def Memory.cons (a : Nat) (b : Byte) (m : Memory) : Memory := if b = Memory.blank then m else (a, b) :: m

/-- The memory with one byte written. -/
def Memory.put : Memory → Nat → Byte → Memory
  | [], x, v => Memory.cons x v []
  | (a, b) :: m, x, v =>
    if x = a then Memory.cons x v m
    else if x < a then Memory.cons x v ((a, b) :: m)
    else (a, b) :: Memory.put m x v

/-- The memory with consecutive bytes written from an address up. -/
def Memory.putBytes (m : Memory) (x : Nat) : List Byte → Memory
  | [] => m
  | b :: bs => Memory.putBytes (m.put x b) (x + 1) bs

/-- n consecutive bytes from an address up. -/
def Memory.getBytes (m : Memory) (x n : Nat) : List Byte := (List.range n).map (fun i => m.get (x + i))

/-- The memory with n bytes from an address up made blank. -/
def Memory.wipe (m : Memory) (x n : Nat) : Memory := m.filter (fun c => decide (c.1 < x) || decide (x + n ≤ c.1))

/-- The little-endian word at an address (R2). -/
def Memory.word (m : Memory) (x : Nat) : Word := wordOf (m.get x) (m.get (x + 1)) (m.get (x + 2)) (m.get (x + 3))

/-- The four bytes of a word, little-endian (R2). -/
def wordBytes (v : Word) : List Byte := [byteOf v 0, byteOf v 1, byteOf v 2, byteOf v 3]

/-- The bytes of a list of words. -/
def wordsBytes (ws : List Word) : List Byte := ws.flatMap wordBytes

/-- The memory with a word written at an address. -/
def Memory.putWord (m : Memory) (x : Nat) (v : Word) : Memory := m.putBytes x (wordBytes v)

end Sys2Proof.Machine
end

