-- ==== Sys2Proof/Machine/PartsVoice.lean ====
section
/-! DEFINITION. The state of the event front, the Forager, the gills and the mycelium (chapters 06 to 08). -/

namespace Sys2Proof.Machine

/-- An accepted event word (R133) with its full times; body words are the UMP words 0 and 1. render is the frame at which a mirrored
event is rendered (R401). -/
structure EventWord where
  time : DWord
  sched : Bool
  src : Byte
  ten : Nat
  pool : Nat
  fold : Bool
  mirror : Bool
  tapOnly : Bool
  w0 : Word
  w1 : Word
  render : Option DWord
deriving DecidableEq, Repr, Inhabited

/-- Where a mirrored event belongs (R401): the frame at which it is rendered and the pool of the copy. -/
structure MirrorRef where
  render : DWord
  pool : Nat
deriving DecidableEq, Repr, Inhabited

/-- What the message of an ingress event is: a UMP packet of at most 64 bits, or a MIDI 1.0 channel message with its group. -/
inductive Msg where
  | ump (w0 w1 : Word)
  | midi1 (group : Nat) (status data1 data2 : Byte)
deriving DecidableEq, Repr, Inhabited

/-- An event waiting in an ingress queue (R130). playAt is 0 for at once; value is the scaled value v that a reflex rule takes
from it where the message does not give one (R113); mirrored events carry where they belong. -/
structure RawEvent where
  msg : Msg
  playAt : DWord
  value : Option F32
  mirror : Option MirrorRef
  ten : Nat
deriving DecidableEq, Repr, Inhabited

/-- A scheduled event (R135) with the ingress code it came from. -/
structure SchedEvent where
  ev : RawEvent
  src : Byte
deriving DecidableEq, Repr, Inhabited

/-- The event front: its ingress queues, schedule queues, taps and counters (R130 to R137, R153). -/
structure FrontState where
  keybed : List RawEvent
  uarts : Bank (List RawEvent) 8
  usb1 : List RawEvent
  usb2 : List RawEvent
  host : Bank (List RawEvent) 8
  timers : List RawEvent
  sensors : List RawEvent
  reflex : Bank (List RawEvent) 8
  adeder : List RawEvent
  sched : Bank (List SchedEvent) 8
  tap : Bank Word 8
  schedDrop : Bank Nat 8
  unrouted : Nat
  hits : Bank Nat 64
  commitSeq : Nat
deriving DecidableEq, Repr, Inhabited

/-- States of a gill slot (Table 5 of chapter 07). -/
inductive SlotState where
  | free | pending | sounding | releasing | silencing | faulted | fading | cutting
deriving DecidableEq, Repr, Inhabited

/-- The key state the Forager keeps for a voice (Table 4 of chapter 06). -/
inductive KeyState where
  | held | sustained | released
deriving DecidableEq, Repr, Inhabited

/-- A zone entry of a SAMPLE element (Table 4 of chapter 07). -/
structure Zone where
  root : Int
  source : DWord
  length : Nat
  loopStart : Nat
  loopEnd : Nat
  format : Nat
  channels : Nat
  fsCode : Nat
  head : Nat
  headAt : Nat
deriving DecidableEq, Repr, Inhabited

/-- What an element carries from frame to frame (R163 to R183). -/
inductive ElemState where
  | osc (acc : BitVec 48) (u1 u2 tri pend : F32)
  | sample (zone : Option Zone) (pos : Nat) (filled : Nat) (left right : F32) (sounded : Bool) (stopped : Bool)
  | svf (ic1 ic2 : F32)
  | ladder (s1 s2 s3 s4 : F32)
  | comb (at_ : Nat) (z : F32)
  | pink (sections : List F32)
  | env (seg : Nat) (n : Nat) (start level : F32) (hold done : Bool)
  | lfo (acc : BitVec 48) (old new : F32)
  | still
deriving DecidableEq, Repr, Inhabited

/-- A voice, in a slot, a shadow slot or the cut lane. tickOld, tickNew and tickPos the ramp of R198; dest the destination values of the last frame; fadeJ, fadeC and fadeG the fade or
cut under way; left the frames of a SILENCING ramp still to run; moved the commit order of the voice that took its slot. src is the ingress
code of its note-on, by which its folding route is known (R138). -/
structure Voice where
  state : SlotState
  key : KeyState
  pool : Nat
  group : Nat
  channel : Nat
  note : Nat
  folded : Bool
  src : Byte
  commitTime : DWord
  commitSeq : Nat
  velocity : Nat
  relVel : Nat
  keyPitch : Int
  random : F32
  alternate : F32
  unisonIdx : Nat
  unisonCount : Nat
  gen : BitVec 32
  store : Nat
  frames : Nat
  elems : List ElemState
  envOuts : List F32
  lfoOuts : List F32
  tickPart : List F32
  tickOld : List F32
  tickNew : List F32
  tickPos : Nat
  tickLen : Nat
  dest : List F32
  fadeJ : Nat
  fadeC : Nat
  fadeG : F32
  left : Nat
  moved : Nat
  starving : Bool
  level : F32
  ended : Bool
deriving DecidableEq, Repr, Inhabited

/-- A free-running LFO of a slot, by its element: its accumulator and the two values it holds in shapes 5 and 6 (R177). -/
structure FreeLfo where
  elem : Nat
  acc : BitVec 48
  old : F32
  new : F32
deriving DecidableEq, Repr, Inhabited

/-- A slot S00 to S15: the voice it renders, and the voice committed to it that the next boundary starts (R13, R149).
free holds its free-running LFOs (R177). -/
structure Slot where
  cur : Voice
  next : Option Voice
  free : List FreeLfo
deriving DecidableEq, Repr, Inhabited

/-- A gill (R154 to R188): its slots, shadow slots, cut lane, trough with its ECC marks (8-byte word number, uncorrectable),
outputs of the last frame and registers. snap is the snapshot of the last boundary that its slot registers show: a state word and a level for
each of the 19 places, then the three gains. -/
structure Gill where
  slots : Bank Slot 16
  shadows : Bank Voice 2
  cut : Voice
  trough : List (Nat × Byte)
  ecc : List (Nat × Bool)
  out : Bank F32 4
  snap : Bank Word 41
  status : BitVec 6
  fault : Word
  clampCnt : Nat
  starveCnt : Nat
  faultCnt : Nat
  headMissCnt : Nat
  eccCnt : Nat
deriving DecidableEq, Repr, Inhabited

/-- Sources of one channel of a pool (R139): bend, pressure, CC1, the eight assigned controllers and CC64. src is none for the channel
itself, and the ingress of a folding route for what its voices on this member channel have, the master channel's messages among it
(R138). -/
structure ChanSrc where
  group : Nat
  channel : Nat
  src : Option Byte
  bend : Word
  press : Word
  mod : Word
  cc : Bank Word 8
  sustain : Word
deriving DecidableEq, Repr, Inhabited

/-- Per-note sources of one (group, channel, note) (R139); for a folded member channel note is none and they apply to every voice
of that channel (R138). -/
structure NoteSrc where
  group : Nat
  channel : Nat
  note : Option Nat
  bend : Word
  press : Word
  timbre : Word
  ctl : Bank Word 4
deriving DecidableEq, Repr, Inhabited

/-- A held note of a mono stack (R144), with what it needs to sound. -/
structure HeldNote where
  note : Nat
  pitch : Int
  velocity : Nat
deriving DecidableEq, Repr, Inhabited

/-- The mono stack of one (group, channel), oldest first. -/
structure MonoStack where
  group : Nat
  channel : Nat
  held : List HeldNote
deriving DecidableEq, Repr, Inhabited

/-- A slot claimed in the commit pipeline (R148): the gill, slot and voice, and whether it steals. -/
structure Claim where
  gill : Nat
  slot : Nat
  voice : Voice
  steal : Bool
deriving DecidableEq, Repr, Inhabited

/-- A Forager pool (R139 to R153). lane holds the copies delivered to the pool, oldest first; claims the commits under way, one
list for each note. -/
structure Pool where
  lane : List EventWord
  claims : List (List Claim)
  gen : BitVec 32
  alternate : Bool
  monoStacks : List MonoStack
  chans : List ChanSrc
  notes : List NoteSrc
  ccmap0 : Word
  ccmap1 : Word
  steals : Nat
  shcut : Nat
  hardcut : Nat
  status : BitVec 3
deriving DecidableEq, Repr, Inhabited

/-- A global LFO (R193). -/
structure Glfo where
  acc : BitVec 48
  gen : BitVec 32
  old : F32
  new : F32
  rate : F32
  out : F32
  running : Bool
deriving DecidableEq, Repr, Inhabited

/-- The mycelium of one structure (R202, R206): the depth banks, ARM, the macros in force and those of the next tick boundary,
whether the coming boundary is a tick boundary whose targets are due, and the macros and routes that a CMD well has set for it,
which a reflex command no longer changes (R116). -/
structure MycStruct where
  id : Nat
  active : List F32
  pend : List F32
  arm : Bool
  status : BitVec 2
  nanCnt : Nat
  satCnt : Nat
  swapFrame : Word
  macros : Bank F32 4
  macrosNext : Bank F32 4
  wellMacros : List Nat
  wellDepths : List Nat
  tickDue : Bool
deriving DecidableEq, Repr, Inhabited

/-- The mycelium of one tenancy (R193, R207). -/
structure MycTen where
  structs : List MycStruct
  glfos : Bank Glfo 8
  macros : Bank F32 4
  sensors : Bank F32 8
deriving DecidableEq, Repr, Inhabited

/-- A voice slot that holds no voice. -/
def Voice.none : Voice :=
  { state := .free, key := .held, pool := 0, group := 0, channel := 0, note := 0, folded := false, src := 0#8, commitTime := 0#64,
    commitSeq := 0, velocity := 0, relVel := 0, keyPitch := 0, random := 0#32, alternate := 0#32, unisonIdx := 0,
    unisonCount := 0, gen := 0#32, store := 0, frames := 0, elems := [], envOuts := [], lfoOuts := [],
    tickPart := [], tickOld := [], tickNew := [], tickPos := 0, tickLen := 0, dest := [], fadeJ := 0, fadeC := 0,
    fadeG := 0#32, left := 0, moved := 0, starving := false, level := 0#32, ended := false }

/-- A trough range written: a mark of R187 on one of its words is gone. -/
def Gill.healed (x : Gill) (a n : Nat) : Gill :=
  { x with ecc := x.ecc.filter (fun e => !(decide (a < 8 * e.1 + 8) && decide (8 * e.1 < a + n))) }

/-- A gill after reset. -/
def Gill.reset : Gill :=
  { slots := Bank.all 16 { cur := Voice.none, next := Option.none, free := [] }, shadows := Bank.all 2 Voice.none, cut := Voice.none,
    trough := [], ecc := [], out := Bank.all 4 0#32, snap := Bank.all 41 0#32, status := 0#6, fault := 0#32, clampCnt := 0, starveCnt := 0,
    faultCnt := 0, headMissCnt := 0, eccCnt := 0 }

/-- A pool after reset. -/
def Pool.reset : Pool :=
  { lane := [], claims := [], gen := 0#32, alternate := false, monoStacks := [], chans := [], notes := [],
    ccmap0 := 0x07050402#32, ccmap1 := 0x4948470B#32, steals := 0, shcut := 0, hardcut := 0, status := 0#3 }

/-- The event front after reset. -/
def FrontState.reset : FrontState :=
  { keybed := [], uarts := Bank.all 8 [], usb1 := [], usb2 := [], host := Bank.all 8 [], timers := [], sensors := [],
    reflex := Bank.all 8 [], adeder := [], sched := Bank.all 8 [], tap := Bank.all 8 0#32, schedDrop := Bank.all 8 0,
    unrouted := 0, hits := Bank.all 64 0, commitSeq := 0 }

/-- The mycelium of a tenancy after reset. -/
def MycTen.reset : MycTen :=
  { structs := [],
    glfos := Bank.all 8
      { acc := 0#48, gen := 1#32, old := 0#32, new := 0#32, rate := 0x3F800000#32, out := 0#32, running := false },
    macros := Bank.all 4 0#32, sensors := Bank.all 8 0#32 }

end Sys2Proof.Machine
end

