-- ==== Sys2Proof/Machine/Gill.lean ====
section
/-! DEFINITION. The voice elements of chapter 07: one frame of one voice (R154 to R183). The commands that render gills stand in
Frame.lean. -/

namespace Sys2Proof.Machine

/-- The master rate in Hz of an Fs code (RATE record of chapter 02). -/
def fsHz (code : Nat) : Nat :=
  match code with
  | 0 => 44100 | 1 => 48000 | 2 => 88200 | 3 => 96000 | 4 => 176400 | _ => 192000

/-- 2 pi, pi, pi/4 and pi/2 as binary32. -/
def gTwoPi : F32 := 0x40C90FDB#32
/-- pi as binary32. -/
def gPi : F32 := 0x40490FDB#32
/-- pi/4 as binary32. -/
def gQuarterPi : F32 := 0x3F490FDB#32
/-- pi/2 as binary32. -/
def gHalfPi : F32 := 0x3FC90FDB#32
/-- 0.5, 2.0 and 4.0 as binary32. -/
def gHalf : F32 := 0x3F000000#32
/-- 2.0 as binary32. -/
def gTwo : F32 := 0x40000000#32
/-- 4.0 as binary32. -/
def gFour : F32 := 0x40800000#32

/-- The pitch of a pitched element (R162): 282,624 + KEYTRACK × (p_key - 282,624) + base, rounded and clamped to 24 bits. -/
def pitchOf (keytrack base : F32) (pkey : Int) : Int :=
  clampInt (-8388608) 8388607
    (gToInt (gAdd (gAdd (gOfInt 282624) (gMul keytrack (gOfInt (pkey - 282624)))) base))

/-- f(p) of R162 in Hz, as a gill value. -/
def pitchHz (p : Int) : F32 := gMul (gOfInt 440) (gExp2 (gDiv (gOfInt (p - 282624)) (gOfInt 49152)))

/-- num/den × f(p) / fs × 2^48 to the nearest integer (R162, R163). -/
def wordNear (num den : Nat) (p : Int) (fs : Nat) : Nat :=
  let d := p - 282624
  let q := d / 49152
  let r := (d % 49152).toNat
  let top := num * 440 * 2 ^ 48 * fxExp (r * fxLn2 / 49152) * 2 ^ q.toNat
  let bot := den * fs * fxOne * 2 ^ (-q).toNat
  (2 * top + bot) / (2 * bot)

/-- The numerator and denominator of a non-negative finite binary32; 0 for others. -/
def gFraction (x : F32) : Nat × Nat :=
  if fSign x || !fIsFinite x then (0, 1)
  else
    let e := fScale x
    (fMant x * 2 ^ e.toNat, 2 ^ (-e).toNat)

/-- A frequency word limited to 2^47 - 1 and carrying the free error of R163 (DEDUCED, log entry 13). -/
def wordOpen (near : Nat) (key : Int) (fs : Nat) : Nat :=
  let w := near + (Config.freqError key fs).1 - 1
  if 2 ^ 47 ≤ w then 2 ^ 47 - 1 else w

/-- The frequency word of an oscillator at pitch p, with FM's RATIO (R163). -/
def oscWord (ratio : F32) (p : Int) (fs : Nat) : Nat :=
  let f := gFraction ratio
  wordOpen (wordNear f.1 f.2 p fs) (p * 4294967296 + ratio.toNat) fs

/-- The frequency word of an LFO from a RATE in Hz (R163, R177, R193). -/
def lfoWord (rate : F32) (fs : Nat) : Nat :=
  let f := gFraction rate
  wordOpen ((2 * (f.1 * 2 ^ 48) + f.2 * fs) / (2 * (f.2 * fs))) (-1 - (rate.toNat : Int)) fs

/-- The phase fraction of an accumulator value. -/
def phaseOf (acc : Nat) : F32 := gRatio (acc % 2 ^ 48) (2 ^ 48)

/-- One step of the 32-bit xorshift generator (R169). -/
def xorshift (x : BitVec 32) : BitVec 32 :=
  let a := x ^^^ (x <<< 13)
  let b := a ^^^ (a >>> 17)
  b ^^^ (b <<< 5)

/-- One sample through the sections of pink noise: the output and the sections after it (R169; the coefficients are free, log entry 14). -/
def pinkStep (white : F32) (sections : List F32) : F32 × List F32 :=
  let next := sections.zipIdx.map (fun z => gAdd (gMul (gFlush (Config.pinkPole z.2)) z.1) (gMul (gFlush (Config.pinkGain z.2)) white))
  (next.foldl gAdd (gMul (gFlush Config.pinkThrough) white), next)

/-- x / 2^31 - 1 (R169, R194). -/
def noiseValue (x : BitVec 32) : F32 := gRatio ((x.toNat : Int) - 2147483648) 2147483648

/-- The residual r(t) of R165. -/
def blepRes (t dt : F32) : F32 :=
  if gLt t dt then
    let x := gDiv t dt
    gSub (gSub (gMul gTwo x) (gMul x x)) fOne
  else if gLt (gSub fOne dt) t then
    let x := gDiv (gSub t fOne) dt
    gAdd (gAdd (gMul x x) (gMul gTwo x)) fOne
  else 0#32

/-- (t - w) mod 1 for t in [0, 1) and w in [0, 1]. -/
def phaseSub (t w : F32) : F32 :=
  let d := gSub t w
  if gLt d 0#32 then gAdd d fOne else d

/-- The pulse wave of R165. -/
def pulseWave (t pw dt : F32) : F32 :=
  gSub (gAdd (if gLt t pw then fOne else fMinusOne) (blepRes t dt)) (blepRes (phaseSub t pw) dt)

/-- What a frame of a voice has gathered so far: the outputs of the elements done, the element states to keep, the generator,
the trough, what was raised, and the trough words written. -/
structure Work where
  outs : List (List F32)
  keep : List ElemState
  gen : BitVec 32
  trough : Memory
  envs : List F32
  lfos : List F32
  starved : Bool
  headMiss : Bool
  ecc : Nat
  wrote : List Nat
deriving Repr, Inhabited

/-- What a frame of a voice reads that does not change in it. -/
structure VoiceEnv where
  st : StructRec
  fs : Nat
  eccBad : List Nat
deriving Repr, Inhabited

/-- Input i of element e (R159): the sum of its valid sources in the order listed, 0.0 without an entry. -/
def inputOf (st : StructRec) (outs : List (List F32)) (e i : Nat) : F32 :=
  match st.conns.find? (fun c => c.dest == e && c.input == i) with
  | none => 0#32
  | some c => match c.sources.map (fun s => (outs.getD s.1 []).getD s.2 0#32) with
    | [] => 0#32
    | x :: xs => xs.foldl gAdd x

/-- The phase that is read under phase modulation m (R163). -/
def readPhase (acc : Nat) (m : F32) : F32 := phaseOf ((((acc : Int) + gScaledInt m 48) % 281474976710656).toNat)

/-- The sync output of an accumulator that adds w: the fraction of the frame elapsed at its wrap, or -1.0 (R164). DEDUCED: a fraction that
rounds to 1.0 is the binary32 below it, because s lies in [0, 1) (log entry 17). -/
def syncOut (acc w : Nat) : F32 := if 2 ^ 48 ≤ acc + w then gMin 0x3F7FFFFF#32 (gRatio (2 ^ 48 - acc : Nat) w) else fMinusOne

/-- The accumulator after the frame, reset at a sync input of 0 or more (R164). -/
def accNext (acc w : Nat) (sync : F32) : BitVec 48 :=
  if gLe 0#32 sync then BitVec.ofNat 48 (gScaledInt (gMul (gSub fOne sync) (gRatio w (2 ^ 48))) 48).toNat
  else BitVec.ofNat 48 (acc + w)

/-- The residual of a sync reset at fraction s in its own frame and the next, for a step of height h (R164, R165, log 17). -/
def syncRes (s h : F32) : F32 × F32 :=
  let half := gMul h gHalf
  let a := gSub fOne s
  (gMul half (gMul a a), gMul half (gNeg (gMul s s)))

/-- The phase fraction at fraction s of a frame that reads t and adds dt. -/
def phaseAt (t dt s : F32) : F32 :=
  let u := gAdd t (gMul s dt)
  if gLe fOne u then gSub u fOne else u

/-- The residuals of the step that a sync input makes in a waveform, from its value where the reset falls to its value at the phase m that
is read of an accumulator at 0; none without a reset. -/
def syncStep (naive : F32 → F32) (t dt sync m : F32) : F32 × F32 :=
  if gLe 0#32 sync then syncRes sync (gSub (naive (readPhase 0 m)) (naive (phaseAt t dt sync))) else (0#32, 0#32)

/-- Whether a trough range touches a marked 8-byte word (R187). -/
def eccHit (bad : List Nat) (a n : Nat) : Bool := bad.any (fun w => decide (a < 8 * w + 8) && decide (8 * w < a + n))

/-- A sample of a wavetable level: 16-bit code / 32,768 (R166). -/
def code16 (m : Memory) (a : Nat) : F32 := gRatio (signed 16 ((m.get a).toNat + (m.get (a + 1)).toNat * 256)) 32768

/-- Linear interpolation. -/
def lerp (a b f : F32) : F32 := gAdd a (gMul f (gSub b a))

/-- The first byte of level l of a wave: 2 × (1024 + 512 + …). -/
def waveLevelAt (l : Nat) : Nat := 4096 - 2 ^ (12 - l)

/-- The two samples of a wave read at phase acc in level l: their addresses. -/
def waveReads (base l acc : Nat) : Nat × Nat :=
  let n := 1024 / 2 ^ l
  let i := acc * n / 2 ^ 48
  (base + waveLevelAt l + 2 * (i % n), base + waveLevelAt l + 2 * ((i + 1) % n))

/-- A wave read at phase acc in level l (R166). -/
def waveAt (m : Memory) (base l acc : Nat) : F32 :=
  let r := waveReads base l acc
  lerp (code16 m r.1) (code16 m r.2) (gRatio (acc * (1024 / 2 ^ l) % 2 ^ 48 : Nat) (2 ^ 48))

/-- The wavetable level for a frequency: the smallest m with (512 >> m) × f < Fs/2, or 5 (R166). -/
def waveLevel (f : F32) (fs : Nat) : Nat :=
  ((List.range 5).find? (fun m => gLt (gMul (gOfInt (512 / 2 ^ m : Nat)) f) (gRatio fs 2))).getD 5

/-- Bytes of one sample of a zone format. -/
def zoneSampleBytes (z : Zone) : Nat := if z.format = 0 then 2 else 4

/-- Bytes of one frame of a zone. -/
def zoneFrameBytes (z : Zone) : Nat := zoneSampleBytes z * z.channels

/-- One sample at a trough address (Table 4 of chapter 07). DEDUCED: int24 in 32 bits stands in bits [31:8], as in R336 (log entry 97). -/
def zoneSample (z : Zone) (m : Memory) (a : Nat) : F32 :=
  match z.format with
  | 0 => code16 m a
  | 1 => gRatio (signed 24 (bits (m.word a) 31 8)) 8388608
  | _ => gFlush (m.word a)

/-- The zone frame that stream index u plays, through the loop; none past the end without a loop (R182). -/
def zoneFrame (z : Zone) (u : Nat) : Option Nat :=
  if z.loopStart < z.loopEnd then
    if u < z.loopEnd then some u else some (z.loopStart + (u - z.loopEnd) % (z.loopEnd - z.loopStart))
  else if u < z.length then some u else none

/-- Where a stream index is read: its trough address, none past the end, or missing. -/
inductive ZoneRead where
  | at_ (a : Nat)
  | past
  | missing
deriving DecidableEq, Repr, Inhabited

/-- The read of stream index u (R182, R183): head data below the zone's head frames, else the ring. -/
def zoneRead (z : Zone) (region ring ringBytes filled u : Nat) : ZoneRead :=
  match zoneFrame z u with
  | none => .past
  | some k =>
    if k < z.head then .at_ (region + z.headAt + k * zoneFrameBytes z)
    else
      let frames := ringBytes / zoneFrameBytes z
      if u < filled ∧ filled ≤ u + frames then .at_ (ring + u % frames * zoneFrameBytes z) else .missing

/-- 4-point cubic Hermite interpolation at fraction f between b and c (R182). -/
def hermite (a b c d f : F32) : F32 :=
  let c1 := gMul gHalf (gSub c a)
  let c2 := gSub (gAdd (gSub a (gMul (gRatio 5 2) b)) (gMul gTwo c)) (gMul gHalf d)
  let c3 := gAdd (gMul gHalf (gSub d a)) (gMul (gRatio 3 2) (gSub b c))
  gAdd (gMul (gAdd (gMul (gAdd (gMul c3 f) c2) f) c1) f) b

/-- The value of channel ch at a read; 0.0 past the end. -/
def zoneValue (z : Zone) (m : Memory) (ch : Nat) : ZoneRead → F32
  | .at_ a => zoneSample z m (a + ch * zoneSampleBytes z)
  | _ => 0#32

/-- The loop level of an envelope in frame n of a segment of T frames (R175). -/
def envLevel (l0 target curve x : F32) : F32 :=
  let h := if gEq curve 0#32 then x
    else gDiv (gSub fOne (gExp (gMul curve x))) (gSub fOne (gExp curve))
  gAdd l0 (gMul (gSub target l0) h)

/-- Frame n of a segment of T frames: min(n / T, 1), and whether n lies below T, both exact in n (R175). -/
def envPhase (n : Nat) (t : F32) : F32 × Bool :=
  let d := gFraction t
  if n * d.2 < d.1 then (gRatio (n * d.2 : Nat) d.1, true) else (fOne, false)

/-- One frame of an ENV (R175, R176): the state after it. released says that the voice is RELEASED. -/
def envStep (st : StructRec) (val : Nat → F32) (e opts : Nat) (released : Bool) : ElemState → ElemState
  | .env seg n start level hold done =>
    if done then .env seg n start level hold done
    else
      let segs := opts % 16
      let s := gToInt (st.base e 4)
      let holdAttack := decide (opts / 16 % 2 = 1)
      let jump := released && decide (0 ≤ s) && (hold || decide ((seg : Int) ≤ s)) && !(holdAttack && seg == 0 && !hold)
      let seg1 := if jump then s.toNat + 1 else seg
      let n1 := if jump then 0 else n
      let start1 := if jump then level else start
      let hold1 := if jump then false else hold
      if hold1 then .env seg1 n1 start1 level true false
      else
        let t := gMax fOne (gMul (st.base e (16 + seg1)) (val 0))
        let n2 := n1 + 1
        let x := envPhase n2 t
        let lv := envLevel start1 (st.base e (8 + seg1)) (st.base e (24 + seg1)) x.1
        if x.2 then .env seg1 n2 start1 lv false false
        else if decide ((seg1 : Int) = s) && !released then .env seg1 n2 start1 lv true false
        else if segs ≤ seg1 + 1 then .env seg1 n2 start1 lv false true
        else .env (seg1 + 1) 0 lv lv false false
  | s => s

/-- The output of an ENV at a level (R175). -/
def envOut (st : StructRec) (val : Nat → F32) (e velocity : Nat) (level : F32) : F32 :=
  let vs := st.base e 2
  gMul (gMul (val 1) (gAdd (gSub fOne vs) (gMul vs (gRatio velocity 65535)))) level

/-- The shape of an LFO at a phase (R177, DEDUCED, log entry 17). -/
def lfoShape (shape acc : Nat) (old new : F32) : F32 :=
  let t := phaseOf acc
  match shape with
  | 0 => gSin (gMul gTwoPi t)
  | 1 => gSub fOne (gMul gFour (fAbs (gSub t gHalf)))
  | 2 => gSub (gMul gTwo t) fOne
  | 3 => gSub fOne (gMul gTwo t)
  | 4 => if acc < 2 ^ 47 then fOne else fMinusOne
  | 5 => new
  | 6 => gAdd old (gMul (gSub new old) t)
  | _ => gSub (gMul (fAbs (gSin (gMul gTwoPi t))) gTwo) fOne

/-- The output of an LFO n frames after note start (R177). -/
def lfoOut (st : StructRec) (val : Nat → F32) (e opts n acc : Nat) (old new : F32) : F32 :=
  let delay := st.base e 3
  let f := if gEq delay 0#32 then fOne else gMin fOne (gDiv (gOfInt n) delay)
  let y := gMul (gMul (val 1) (lfoShape (opts % 8) acc old new)) f
  if opts / 16 % 2 = 1 then gMul (gAdd y fOne) gHalf else y

/-- A filter's g = tan(π f_c / Fs) with f_c clamped to 10 Hz to 0.45 Fs. -/
def filterG (p : Int) (fs : Nat) : F32 :=
  let fc := gClamp (gOfInt 10) (gMul (gRatio 45 100) (gOfInt fs)) (pitchHz p)
  gTan (gDiv (gMul gPi fc) (gOfInt fs))

/-- An element's result: its outputs, the state to keep, and the work record with what else it changed. -/
structure ElemRes where
  outs : List F32
  keep : ElemState
  work : Work
deriving Repr, Inhabited

/-- A BLEP waveform without residuals at phase t (R165); that of a triangle is the pulse wave it integrates. -/
def blepNaive (shape : Nat) (pw t : F32) : F32 :=
  match shape with
  | 0 => gSub (gMul gTwo t) fOne
  | 3 => gSin (gMul gTwoPi t)
  | _ => if gLt t pw then fOne else fMinusOne

/-- BLEP (R164, R165). -/
def runBlep (env : VoiceEnv) (v : Voice) (val : Nat → F32) (w : Work) (e opts acc : Nat) (tri pend : F32) : ElemRes :=
  let word := oscWord fOne (pitchOf (env.st.base e 1) (val 0) v.keyPitch) env.fs
  let sync := inputOf env.st w.outs e 1
  let t := readPhase acc (inputOf env.st w.outs e 0)
  let dt := gRatio word (2 ^ 48)
  let pw := if opts % 4 = 1 then val 3 else gHalf
  let plain := match opts % 4 with
    | 0 => gSub (blepNaive 0 pw t) (blepRes t dt)
    | 3 => blepNaive 3 pw t
    | _ => pulseWave t pw dt
  let res := syncStep (blepNaive (opts % 4) pw) t dt sync (inputOf env.st w.outs e 0)
  let wave := gAdd (gAdd plain res.1) pend
  let tri1 := gAdd (gMul tri (gSub fOne (gRatio 1 1024))) (gMul (gMul gFour dt) wave)
  { outs := [gMul (val 2) (if opts % 4 = 2 then tri1 else wave), syncOut acc word],
    keep := .osc (accNext acc word sync) 0#32 0#32 tri1 res.2, work := w }

/-- WAVETABLE (R166). -/
def runWavetable (env : VoiceEnv) (v : Voice) (val : Nat → F32) (w : Work) (e acc : Nat) : ElemRes :=
  let p := pitchOf (env.st.base e 1) (val 0) v.keyPitch
  let word := oscWord fOne p env.fs
  let read := (((acc : Int) + gScaledInt (inputOf env.st w.outs e 0) 48) % 281474976710656).toNat
  let base := env.st.baseNat e 5 * 4096
  let waves := env.st.baseNat e 6
  let k := (gFloor (val 3)).toNat
  let lvl := waveLevel (pitchHz p) env.fs
  let waves2 := [base + k * 4096, base + min (k + 1) (waves - 1) * 4096]
  let bad := waves2.any (fun x => eccHit env.eccBad (waveReads x lvl read).1 2 || eccHit env.eccBad (waveReads x lvl read).2 2)
  let a := waveAt w.trough (base + k * 4096) lvl read
  let b := waveAt w.trough (base + min (k + 1) (waves - 1) * 4096) lvl read
  let y := if bad then 0#32 else gMul (val 2) (lerp a b (gSub (val 3) (gOfInt k)))
  { outs := [y, syncOut acc word],
    keep := .osc (accNext acc word (inputOf env.st w.outs e 1)) 0#32 0#32 0#32 0#32,
    work := { w with ecc := w.ecc + if bad then 1 else 0 } }

/-- FM (R163, R167). -/
def runFm (env : VoiceEnv) (v : Voice) (val : Nat → F32) (w : Work) (e acc : Nat) (u1 u2 : F32) : ElemRes :=
  let word := oscWord (val 3) (pitchOf (env.st.base e 1) (val 0) v.keyPitch) env.fs
  let fb := gMul (gMul (val 5) (gAdd u1 u2)) gHalf
  let t := gAdd (gAdd (phaseOf acc) (gMul (val 4) (inputOf env.st w.outs e 0))) fb
  let u := gSin (gMul gTwoPi t)
  { outs := [gMul (val 2) u, syncOut acc word], keep := .osc (BitVec.ofNat 48 (acc + word)) u u1 0#32 0#32, work := w }

/-- PD (R164, R168). -/
def runPd (env : VoiceEnv) (v : Voice) (val : Nat → F32) (w : Work) (e acc : Nat) (pend : F32) : ElemRes :=
  let p := pitchOf (env.st.base e 1) (val 0) v.keyPitch
  let word := oscWord fOne p env.fs
  let sync := inputOf env.st w.outs e 1
  let t := readPhase acc (inputOf env.st w.outs e 0)
  let fade := gMin fOne (gMax 0#32 (gSub fOne (gDiv (pitchHz p) (gMul (gRatio 1 4) (gOfInt env.fs)))))
  let d := gSub gHalf (gMul (gRatio 49 100) (gMul (val 3) fade))
  let shape (x : F32) : F32 := gNeg (gCos (gMul gTwoPi (if gLt x d then gDiv x (gMul gTwo d)
    else gAdd gHalf (gDiv (gSub x d) (gMul gTwo (gSub fOne d))))))
  let res := syncStep shape t (gRatio word (2 ^ 48)) sync (inputOf env.st w.outs e 0)
  { outs := [gMul (val 2) (gAdd (gAdd (shape t) res.1) pend), syncOut acc word],
    keep := .osc (accNext acc word sync) 0#32 0#32 0#32 res.2, work := w }

/-- The number of the first zone of a region whose key and velocity ranges take a note (R182). -/
def zoneIndex (m : Memory) (region note velocity : Nat) : Option Nat :=
  (List.range (min (m.word region).toNat 2047)).find? (fun i =>
    let a := region + 4 + 32 * i
    decide ((m.get a).toNat ≤ note) && decide (note ≤ (m.get (a + 1)).toNat)
      && decide ((m.get (a + 2)).toNat ≤ velocity / 256) && decide (velocity / 256 ≤ (m.get (a + 3)).toNat))

/-- The zone of a SAMPLE element's region that a note plays (R182). DESIGN CHOICE: a root outside the 24 bits of a pitch (R5) is used as its
32 bits stand (log entry 120). -/
def pickZone (m : Memory) (region note velocity : Nat) : Option Zone :=
  (zoneIndex m region note velocity).map (fun i =>
    let a := region + 4 + 32 * i
    let flags := (m.get (a + 29)).toNat
    let headWord := (m.get (a + 30)).toNat + (m.get (a + 31)).toNat * 256
    { root := signed 32 (m.word (a + 4)).toNat, source := dwordOf (m.word (a + 8)) (m.word (a + 12)),
      length := (m.word (a + 16)).toNat, loopStart := (m.word (a + 20)).toNat, loopEnd := (m.word (a + 24)).toNat,
      format := (m.get (a + 28)).toNat, channels := flags % 4, fsCode := flags / 4, head := headWord / 1024 * 16,
      headAt := headWord % 1024 * 64 })

/-- Whether the pick of a zone reads a marked word (R182, R187): the count, or an entry up to the one picked. -/
def zoneEcc (bad : List Nat) (m : Memory) (region note velocity : Nat) : Bool :=
  let count := min (m.word region).toNat 2047
  eccHit bad region 4 || eccHit bad (region + 4) (32 * ((zoneIndex m region note velocity).getD (count - 1) + 1))

/-- SAMPLE (R182, R183). The pick of its zone counts as read in the first frame. -/
def runSample (env : VoiceEnv) (v : Voice) (val : Nat → F32) (w : Work) (e : Nat) (z : Zone)
    (pos filled : Nat) (l r : F32) (sounded stopped : Bool) : ElemRes :=
  let p := pitchOf (env.st.base e 1) (val 0) v.keyPitch
  let region := env.st.baseNat e 5 * 64
  let ringBytes := env.st.baseNat e 6
  let ring := env.st.baseNat e 7 * 64 + v.store * ringBytes
  let ratio := gMin (gOfInt 8) (gMul (gDiv (pitchHz p) (pitchHz z.root)) (gRatio (fsHz z.fsCode) env.fs))
  let u := pos / 2 ^ 32
  let f := gRatio (pos % 2 ^ 32 : Nat) (2 ^ 32)
  let reads := [u - 1, u, u + 1, u + 2].map (zoneRead z region ring ringBytes filled)
  let past := zoneRead z region ring ringBytes filled u == .past
  let miss := reads.any (· == .missing)
  let bad := reads.any (fun x => match x with
    | .at_ a => eccHit env.eccBad a (zoneFrameBytes z)
    | _ => false) || (v.frames == 0 && zoneEcc env.eccBad w.trough region v.note v.velocity)
  let value := fun ch => match reads.map (zoneValue z w.trough ch) with
    | [a, b, c, d] => hermite a b c d f
    | _ => 0#32
  let raw := if past then (0#32, 0#32) else (value 0, if z.channels = 2 then value 1 else value 0)
  let held := miss && !past
  let out := if bad then (0#32, 0#32) else if held then (l, r) else raw
  let pos1 := pos + (gScaledInt ratio 32).toNat
  { outs := [gMul (val 2) out.1, gMul (val 2) out.2],
    keep := .sample (some z) pos1 filled out.1 out.2 (sounded || !held) stopped,
    work := { w with starved := w.starved || (held && sounded), headMiss := w.headMiss || (held && !sounded),
                     ecc := w.ecc + if bad then 1 else 0 } }

/-- SVF (R170). -/
def runSvf (env : VoiceEnv) (v : Voice) (val : Nat → F32) (w : Work) (e : Nat) (ic1 ic2 : F32) : ElemRes :=
  let x := inputOf env.st w.outs e 0
  let g := filterG (pitchOf (env.st.base e 1) (val 0) v.keyPitch) env.fs
  let k := gDiv fOne (val 2)
  let a1 := gDiv fOne (gAdd fOne (gMul g (gAdd g k)))
  let a2 := gMul g a1
  let a3 := gMul g a2
  let v3 := gSub x ic2
  let v1 := gAdd (gMul a1 ic1) (gMul a2 v3)
  let v2 := gAdd (gAdd ic2 (gMul a2 ic1)) (gMul a3 v3)
  let hp := gSub (gSub x (gMul k v1)) v2
  { outs := [v2, v1, hp, gSub x (gMul k v1)],
    keep := .svf (gSub (gMul gTwo v1) ic1) (gSub (gMul gTwo v2) ic2), work := w }

/-- One stage of the ladder: (output, next state) (R171). -/
def ladderStage (g u s : F32) : F32 × F32 :=
  let d := gMul g (gSub u s)
  let y := gAdd d s
  (y, gAdd y d)

/-- LADDER (R171). -/
def runLadder (env : VoiceEnv) (v : Voice) (val : Nat → F32) (w : Work) (e : Nat) (s1 s2 s3 s4 : F32) : ElemRes :=
  let x := inputOf env.st w.outs e 0
  let g := filterG (pitchOf (env.st.base e 1) (val 0) v.keyPitch) env.fs
  let gg := gDiv g (gAdd fOne g)
  let b := gDiv fOne (gAdd fOne g)
  let g2 := gMul gg gg
  let g3 := gMul g2 gg
  let g4 := gMul g3 gg
  let r := gMul gFour (val 2)
  let sum := gAdd (gAdd (gAdd (gMul g3 s1) (gMul g2 s2)) (gMul gg s3)) s4
  let est := gDiv (gAdd (gMul g4 x) (gMul b sum)) (gAdd fOne (gMul r g4))
  let u := gDiv (gTanh (gMul (val 3) (gSub x (gMul r est)))) (val 3)
  let y1 := ladderStage gg u s1
  let y2 := ladderStage gg y1.1 s2
  let y3 := ladderStage gg y2.1 s3
  let y4 := ladderStage gg y3.1 s4
  { outs := [y4.1, y2.1], keep := .ladder y1.2 y2.2 y3.2 y4.2, work := w }

/-- COMB (R172): its line lies in the trough. -/
def runComb (env : VoiceEnv) (v : Voice) (val : Nat → F32) (w : Work) (e at_ : Nat) (z : F32) : ElemRes :=
  let x := inputOf env.st w.outs e 0
  let len := env.st.baseNat e 5
  let line := env.st.baseNat e 4 * 64 + v.store * len * 4
  let p := pitchOf (env.st.base e 1) (val 0) v.keyPitch
  let d := gClamp gTwo (gOfInt ((len : Int) - 2)) (gDiv (gOfInt env.fs) (pitchHz p))
  let k := (gFloor d).toNat
  let spot (n : Nat) : Nat := line + (at_ + len - n) % len * 4
  let read := fun n => w.trough.word (spot n)
  let bad := eccHit env.eccBad (spot k) 4 || eccHit env.eccBad (spot (k + 1)) 4
  let tap := if bad then 0#32 else lerp (read k) (read (k + 1)) (gSub d (gOfInt k))
  let z1 := gAdd (gMul (gSub fOne (val 3)) tap) (gMul (val 3) z)
  let y := gAdd x (gMul (val 2) z1)
  { outs := [y], keep := .comb ((at_ + 1) % len) z1,
    work := { w with trough := w.trough.putWord (line + at_ % len * 4) y, ecc := w.ecc + if bad then 1 else 0,
                     wrote := (line + at_ % len * 4) :: w.wrote } }

/-- The curve of SHAPER (R173). -/
def shaperCurve (c : Nat) (x : F32) : F32 :=
  match c with
  | 0 => gTanh x
  | 1 => gClamp fMinusOne fOne x
  | 2 => gSin (gMul gHalfPi x)
  | _ =>
    if gLe (fAbs x) fOne then gSub (gMul (gRatio 3 2) x) (gMul gHalf (gMul x (gMul x x)))
    else fCopySign fOne x

/-- MIX (R173). -/
def mixOf (mode : Nat) (amount a b : F32) : F32 :=
  match mode with
  | 0 => gAdd (gMul (gSub fOne amount) a) (gMul (gMul amount a) b)
  | 1 => gAdd (gMul (gSub fOne amount) a) (gMul amount b)
  | _ => gAdd a b

/-- AMP (R174): its gating ENV gives this frame's output where the ENV comes before it, else the last frame's. -/
def runAmp (env : VoiceEnv) (v : Voice) (val : Nat → F32) (w : Work) (e opts : Nat) : ElemRes :=
  let gate := match (env.st.ofKind .env)[opts]? with
    | none => fOne
    | some ix => if ix < e then (w.outs.getD ix []).getD 0 0#32 else v.envOuts.getD opts 0#32
  let d := gMul (gMul (inputOf env.st w.outs e 0) (val 0)) gate
  let angle := gMul gQuarterPi (gAdd (val 1) fOne)
  let l := gMul d (gCos angle)
  let r := gMul d (gSin angle)
  { outs := [l, r, gMul l (val 2), gMul r (val 2)], keep := .still, work := w }

/-- LFO (R163, R177): it gives its output, then advances, drawing from the slot's generator at a wrap for shapes 5 and 6. -/
def runLfo (env : VoiceEnv) (v : Voice) (val : Nat → F32) (w : Work) (e opts acc : Nat) (old new : F32) : ElemRes :=
  let y := lfoOut env.st val e opts v.frames acc old new
  let word := lfoWord (val 0) env.fs
  let draws := decide (2 ^ 48 ≤ acc + word) && (opts % 8 == 5 || opts % 8 == 6)
  let gen := if draws then xorshift w.gen else w.gen
  { outs := [y],
    keep := .lfo (BitVec.ofNat 48 (acc + word)) (if draws then new else old) (if draws then noiseValue gen else new),
    work := { w with gen := gen, lfos := w.lfos ++ [y] } }

/-- One element of one frame, from the state it carries. -/
def runElem (env : VoiceEnv) (v : Voice) (w : Work) (e : Nat) (r : ElemRec) (s : ElemState) : ElemRes :=
  let val := env.st.value v.dest e
  match r.kind, s with
  | .blep, .osc acc _ _ tri pend => runBlep env v val w e r.options acc.toNat tri pend
  | .wavetable, .osc acc _ _ _ _ => runWavetable env v val w e acc.toNat
  | .fm, .osc acc u1 u2 _ _ => runFm env v val w e acc.toNat u1 u2
  | .pd, .osc acc _ _ _ pend => runPd env v val w e acc.toNat pend
  | .sample, .sample (some z) pos filled l q sounded stopped => runSample env v val w e z pos filled l q sounded stopped
  | .sample, .sample none _ _ _ _ _ _ =>
    let bad := v.frames == 0 && zoneEcc env.eccBad w.trough (env.st.baseNat e 5 * 64) v.note v.velocity
    { outs := [0#32, 0#32], keep := s, work := { w with ecc := w.ecc + if bad then 1 else 0 } }
  | .noise, .pink z =>
    let gen := xorshift w.gen
    let y := pinkStep (noiseValue gen) z
    { outs := [gMul (val 0) y.1], keep := .pink y.2, work := { w with gen := gen } }
  | .noise, _ =>
    let gen := xorshift w.gen
    { outs := [gMul (val 0) (noiseValue gen)], keep := s, work := { w with gen := gen } }
  | .svf, .svf a b => runSvf env v val w e a b
  | .ladder, .ladder a b c d => runLadder env v val w e a b c d
  | .comb, .comb at_ z => runComb env v val w e at_ z
  | .shaper, _ =>
    let x := inputOf env.st w.outs e 0
    let c := shaperCurve (r.options % 4) (gAdd (gMul (val 0) x) (val 1))
    { outs := [gAdd (gMul (val 2) c) (gMul (gSub fOne (val 2)) x)], keep := s, work := w }
  | .mix, _ =>
    { outs := [mixOf (r.options % 4) (val 0) (inputOf env.st w.outs e 0) (inputOf env.st w.outs e 1)], keep := s, work := w }
  | .amp, _ => runAmp env v val w e r.options
  | .env, .env a b c d h o =>
    let s1 := envStep env.st val e r.options (v.key == .released) (.env a b c d h o)
    let lv := match s1 with
      | .env _ _ _ l _ _ => l
      | _ => 0#32
    let y := envOut env.st val e v.velocity lv
    { outs := [y], keep := s1, work := { w with envs := w.envs ++ [y] } }
  | .lfo, .lfo acc old new => runLfo env v val w e r.options acc.toNat old new
  | _, _ => { outs := List.replicate r.kind.outputs 0#32, keep := s, work := w }

/-- Every element of one frame, in element order (R154). -/
def runElems (env : VoiceEnv) (v : Voice) : List (Nat × ElemRec × ElemState) → Work → Work
  | [], w => w
  | (e, r, s) :: rest, w =>
    let x := runElem env v w e r s
    runElems env v rest { x.work with outs := x.work.outs ++ [x.outs], keep := x.work.keep ++ [x.keep] }

/-- The first NaN or infinity: its element (0x1F is VOICE OUT) and whether it is an infinity (R180). -/
def firstFault (outs : List (List F32)) (voice : List F32) : Option (Nat × Bool) :=
  match outs.zipIdx.find? (fun o => o.1.any (fun x => !fIsFinite x)) with
  | some o => some (o.2, !((o.1.find? (fun x => !fIsFinite x)).any fIsNaN))
  | none => (voice.find? (fun x => !fIsFinite x)).map (fun x => (31, !fIsNaN x))

/-- What one frame of a voice gives (R154, R179, R180, R183): the voice after it, the trough, its four outputs before any fade,
and what it raised. -/
structure VoiceFrame where
  voice : Voice
  trough : Memory
  outs : List F32
  clamps : Nat
  starved : Bool
  headMiss : Bool
  ecc : Nat
  wrote : List Nat
  fault : Option (Nat × Bool)
deriving Repr, Inhabited

/-- ±64.0, the bound of a voice output (R179). -/
def voiceLimit : F32 := 0x42800000#32

/-- One frame of a voice on its destination values v.dest. -/
def renderVoice (env : VoiceEnv) (trough : Memory) (v : Voice) : VoiceFrame :=
  let items := (env.st.elems.zip v.elems).zipIdx.map (fun x => (x.2, x.1.1, x.1.2))
  let w := runElems env v items
    { outs := [], keep := [], gen := v.gen, trough := trough, envs := [], lfos := [], starved := false, headMiss := false,
      ecc := 0, wrote := [] }
  let raw := (List.range 4).map (inputOf env.st w.outs 31)
  let fault := firstFault w.outs raw
  let clamps := (raw.filter (fun x => gLt voiceLimit (fAbs x))).length
  let outs := match fault with
    | some _ => List.replicate 4 0#32
    | none => raw.map (gClamp (fNeg voiceLimit) voiceLimit)
  let gateEnd := match env.st.gateEnv with
    | some e => match w.keep.getD e .still with
      | .env _ _ _ _ _ d => d
      | _ => false
    | none => false
  let level := match env.st.gateEnv with
    | some e => (w.outs.getD e []).getD 0 0#32
    | none => 0#32
  { voice := { v with elems := w.keep, gen := w.gen, envOuts := w.envs, lfoOuts := w.lfos, frames := v.frames + 1,
                      level := level, ended := v.ended || gateEnd, starving := w.starved || w.headMiss },
    trough := w.trough, outs := outs, clamps := if fault.isSome then 0 else clamps, starved := w.starved,
    headMiss := w.headMiss, ecc := w.ecc, wrote := w.wrote, fault := fault }

/-- An element's clean state at note start (R176, R177, R182). gen is the slot's generator; free the slot's free-running LFO of this
element, if it has one: that is never reset. -/
def startElem (st : StructRec) (m : Memory) (note velocity e : Nat) (free : Option FreeLfo) (gen : BitVec 32)
    (r : ElemRec) : ElemState × BitVec 32 :=
  match r.kind with
  | .blep | .wavetable | .fm | .pd => (.osc 0#48 0#32 0#32 0#32 0#32, gen)
  | .sample =>
    let z := pickZone m (st.baseNat e 5 * 64) note velocity
    (.sample z 0 (match z with | some x => x.head | none => 0) 0#32 0#32 false false, gen)
  | .svf => (.svf 0#32 0#32, gen)
  | .ladder => (.ladder 0#32 0#32 0#32 0#32, gen)
  | .comb => (.comb 0 0#32, gen)
  | .env => (.env 0 0 (st.base e 3) (st.base e 3) false false, gen)
  | .lfo =>
    let acc := BitVec.ofNat 48 (gScaledInt (st.base e 2) 48).toNat
    let g1 := xorshift gen
    let g2 := xorshift g1
    match free with
    | some f => (.lfo f.acc f.old f.new, gen)
    | none =>
      if r.options % 8 = 5 then (.lfo acc 0#32 (noiseValue g1), g1)
      else if r.options % 8 = 6 then (.lfo acc (noiseValue g1) (noiseValue g2), g2)
      else (.lfo acc 0#32 0#32, gen)
  | .noise => (if r.options % 2 = 1 then .pink (List.replicate 16 0#32) else .still, gen)
  | .shaper | .mix | .amp => (.still, gen)

/-- The lines of a structure's COMB elements in one voice store: their trough ranges (R172, R181). -/
def combLines (st : StructRec) (store : Nat) : List (Nat × Nat) :=
  (st.ofKind .comb).map (fun e => (st.baseNat e 4 * 64 + store * st.baseNat e 5 * 4, st.baseNat e 5 * 4))

/-- A gill with the COMB lines of a voice store cleared, as every memory of a starting voice (R180; DEDUCED, log entry 18). -/
def Gill.linesCleared (x : Gill) (st : StructRec) (store : Nat) : Gill :=
  (combLines st store).foldl (fun x r => { x with trough := Memory.wipe x.trough r.1 r.2 }.healed r.1 r.2) x

/-- The element states of a voice at note start, and its generator after the draws. -/
def startElems (st : StructRec) (m : Memory) (note velocity : Nat) (free : List FreeLfo) (gen : BitVec 32) :
    List ElemState × BitVec 32 :=
  st.elems.zipIdx.foldl (fun acc x =>
    let y := startElem st m note velocity x.2 (free.find? (fun f => f.elem == x.2)) acc.2 x.1
    (acc.1 ++ [y.1], y.2)) ([], gen)

/-- The start values of the ENVs and LFOs (R191). -/
def startOuts (st : StructRec) (velocity : Nat) (states : List ElemState) : List F32 × List F32 :=
  ((st.ofKind .env).map (fun e => envOut st (fun id => st.base e id) e velocity (st.base e 3)),
   (st.ofKind .lfo).map (fun e => match states.getD e .still, st.elems[e]? with
      | .lfo acc old new, some r => lfoOut st (fun id => st.base e id) e r.options 0 acc.toNat old new
      | _, _ => 0#32))

/-- The envelopes of a voice restarted at segment 0 from their current level (R176 RETRIGGER). -/
def restartEnvs (states : List ElemState) : List ElemState :=
  states.map (fun s => match s with
    | .env _ _ _ l _ _ => .env 0 0 l l false false
    | x => x)

end Sys2Proof.Machine
end

