-- ==== Sys2Proof/Machine/PartsFilter.lean ====
section
/-! DEFINITION. The state of the filter chain (chapter 12). -/

namespace Sys2Proof.Machine

/-- Where a change of FC_PHASE stands (R286), with the samples left of its stage. -/
inductive PhaseRamp where
  | idle
  | down (left : Nat)
  | wait (left : Nat)
  | up (left : Nat)
deriving DecidableEq, Repr, Inhabited

/-- A burst of a triggered SEN channel (R297): conversions left. Their codes stand in the moving average's register (R289). -/
structure Burst where
  left : Nat
deriving DecidableEq, Repr, Inhabited

/-- The steps of a calibration (Table 6 of chapter 12), with the samples left of C2, C3 and the two parts of C7. A SEN calibration has
the measurement alone. -/
inductive CalStep where
  | beside (left : Nat)
  | cross (left : Nat)
  | measure
  | settle (left : Nat)
  | back (left : Nat)
deriving DecidableEq, Repr, Inhabited

/-- A calibration a channel takes part in (R299 to R301): the operation's handle, or none for a drift step; its kind; the attempts
begun; whether the running attempt is disturbed; the codes a SEN measurement has gathered, newest first; and its step. -/
structure ChanCal where
  handle : Option Word
  kind : Nat
  tries : Nat
  disturbed : Bool
  codes : List Nat
  step : CalStep
deriving DecidableEq, Repr, Inhabited

/-- One filter-chain channel (R283 to R306). sum and history are the moving average's register and its last values, newest first;
d the DC estimate; ovlFreeze says that an overload still freezes it; start counts the samples since the channel turned on. -/
structure FcChan where
  freeze : Bool
  trig : Word
  status : BitVec 5
  ovlCnt : Nat
  driftSkip : Nat
  phase : BitVec 7
  delay : BitVec 7
  ramp : PhaseRamp
  dcCut : F32
  coef0 : F32
  coef1 : F32
  value : F32
  coarse : BitVec 12
  peak : F32
  rms : F32
  env : F32
  detCfg : Word
  detThr : F32
  pkDec : F32
  envAtk : F32
  envRel : F32
  evt : Word
  evtLev : F32
  evtHys : F32
  zWin : Word
  sWin : Word
  calNoise : Word
  calCoup : F32
  on : Bool
  start : Nat
  sum : BitVec 24
  history : List (BitVec 24)
  lp : F32
  d : F32
  dValid : Bool
  ovlFreeze : Bool
  fine : F32
  norm : F32
  out : F32
  rmsAcc : Nat
  rmsCount : Nat
  detArmed : Bool
  lastSent : F32
  evArmed : Bool
  burst : Option Burst
  held : Bool
  fullRun : Nat
  modHold : Nat
  cal : Option ChanCal
deriving DecidableEq, Repr, Inhabited

/-- The filter chain. driftLast is the AIN channel that the last drift step served, and drift the one under way. -/
structure FilterState where
  chans : Bank FcChan 44
  driftPer : BitVec 16
  driftLast : Nat
  drift : Option Nat
  spareFault : Bool
deriving DecidableEq, Repr, Inhabited

/-- The span of a SEN channel after reset, 65,535.0 (R303). -/
def senSpanReset : F32 := 0x477FFF00#32

/-- A channel after reset (R303, R306): an AIN channel's gain is its fused trim. -/
def FcChan.reset (c : Nat) : FcChan :=
  { freeze := false, trig := 0#32, status := 0#5, ovlCnt := 0, driftSkip := 0, phase := 0#7, delay := 0#7, ramp := .idle,
    dcCut := 0x40000000#32, coef0 := 0#32, coef1 := if c < 8 then Config.ainTrim c else senSpanReset,
    value := 0#32, coarse := 0#12, peak := 0#32, rms := 0#32, env := 0#32, detCfg := 0x300#32, detThr := 0#32,
    pkDec := 0x42C80000#32, envAtk := 0x3F800000#32, envRel := 0x42C80000#32, evt := 0#32, evtLev := 0x3F000000#32,
    evtHys := 0x3D800000#32, zWin := 0x40000000#32, sWin := 0xFFFFC000#32, calNoise := 0x40#32,
    calCoup := 0x3A83126F#32, on := false, start := 0, sum := 0#24, history := [], lp := 0#32, d := 0#32, dValid := false,
    ovlFreeze := false, fine := 0#32, norm := 0#32, out := 0#32, rmsAcc := 0, rmsCount := 0, detArmed := true,
    lastSent := 0#32, evArmed := true, burst := none, held := false, fullRun := 0, modHold := 0, cal := none }

/-- The filter chain after reset. -/
def FilterState.reset : FilterState :=
  { chans := Bank.make 44 FcChan.reset, driftPer := 0x3E8#16, driftLast := 7, drift := none, spareFault := false }

end Sys2Proof.Machine
end

