-- ==== Sys2Proof/Machine/FilterCore.lean ====
section
/-! DEFINITION. One sample of a filter-chain channel (R285 to R296): moving average, low-pass, DC blocker, detectors,
normalisation. The commands that use it stand in Filter.lean. -/

namespace Sys2Proof.Machine

/-- 1 - exp(x), the coefficient form of R290, R294 and R295. -/
def oneMinusExp (x : F32) : F32 := gSub fOne (gExp x)

/-- The window N = 2^m of a sensor or supply preset (Table 4 of chapter 12), as m. -/
def presetM (preset : Nat) : Nat :=
  match preset with
  | 0x10 => 2 | 0x11 => 5 | 0x12 => 8 | 0x13 => 8 | 0x20 => 1 | _ => 6

/-- The output rate of a channel in Hz: Fs for AIN, 250,000 for SEN and SUP, 250,000 / N in bursts (R294, R295). -/
def fcRate (c preset fs : Nat) (triggered : Bool) : F32 :=
  if c < 8 then gOfInt fs else if triggered then gRatio 250000 (2 ^ presetM preset) else gOfInt 250000

/-- The moving average on one code (R289): the register, its last 256 values, and the output in codes. The first conversion of a
channel fills the history so that the output equals it (R303). -/
def movingAverage (m : Nat) (ch : FcChan) (code : Nat) : FcChan × F32 :=
  let n := 2 ^ m
  if ch.history.isEmpty then
    let s := BitVec.ofNat 24 (n * code)
    let hist := (List.range 257).map (fun i => s - BitVec.ofNat 24 (i * code))
    ({ ch with sum := s, history := hist }, gRatio (n * code * 2 ^ (8 - m) : Nat) 256)
  else
    let s := ch.sum + BitVec.ofNat 24 code
    let hist := s :: ch.history.take 256
    let window := (s - hist.getD n 0#24).toNat
    ({ ch with sum := s, history := hist }, gRatio (window * 2 ^ (8 - m) : Nat) 256)

/-- The S-DRIFT low-pass (R290). -/
def driftLowPass (ch : FcChan) (first : Bool) (x : F32) : FcChan × F32 :=
  let k := oneMinusExp (gDiv (gNeg gTwoPi) (gOfInt 250000))
  let y := if first then x else gAdd ch.lp (gMul k (gSub x ch.lp))
  ({ ch with lp := y }, y)

/-- Whether the DC estimate is frozen (R294). -/
def FcChan.frozen (ch : FcChan) : Bool := ch.freeze || ch.ovlFreeze

/-- The DC blocker (R294): y = x - d, then d moves unless frozen; d starts at the first value (R303). -/
def dcBlock (rate : F32) (ch : FcChan) (x : F32) : FcChan × F32 :=
  let d := if ch.dValid then ch.d else x
  let k := oneMinusExp (gDiv (gMul (gNeg gTwoPi) ch.dcCut) rate)
  let d1 := if ch.frozen then d else gAdd d (gMul k (gSub x d))
  ({ ch with d := d1, dValid := true }, gSub x d)

/-- The value a detector comparison uses (R295). -/
def detValue (ch : FcChan) : F32 :=
  match bits ch.detCfg 9 8 with
  | 0 => ch.peak | 1 => ch.rms | _ => ch.env

/-- The threshold comparison of R295 on every update of the detector that is selected (an RMS window's end, any sample for the others): the
channel with DET_THRESH (status bit 2) set where it falls due. -/
def detCompare (ch : FcChan) (rmsUpdate : Bool) : FcChan :=
  if bits ch.detCfg 9 8 = 3 ∨ (bits ch.detCfg 9 8 = 1 ∧ rmsUpdate = false) then ch
  else
    let v := detValue ch
    let below := ch.detCfg.getLsbD 10
    let margin := gMul ch.detThr (gRatio 1 16)
    let passed := if below then gLt v ch.detThr else gLt ch.detThr v
    let back := if below then gLe (gAdd ch.detThr margin) v else gLe v (gSub ch.detThr margin)
    if ch.detArmed && passed then { ch with detArmed := false, status := ch.status ||| 4#5 }
    else if !ch.detArmed && back then { ch with detArmed := true }
    else ch

/-- The three detectors on one value q (R295). -/
def detectors (rate : F32) (ch : FcChan) (q : F32) : FcChan :=
  let a := fAbs q
  let ms := fun t => gMul (gMul t (gRatio 1 1000)) rate
  let p := gMax a (gMul ch.peak (gExp (gDiv fMinusOne (ms ch.pkDec))))
  let tau := if gLt ch.env a then ch.envAtk else ch.envRel
  let e := gAdd ch.env (gMul (gSub a ch.env) (oneMinusExp (gDiv fMinusOne (ms tau))))
  let w := bits ch.detCfg 4 0
  let on := decide (4 ≤ w)
  let qi := clampInt (-8388608) 8388607 (gScaledInt q 23)
  let acc := ch.rmsAcc + (qi * qi).toNat
  let full := decide (2 ^ w ≤ ch.rmsCount + 1)
  let r := if on && full then gSqrt (gRatio acc (2 ^ (w + 46))) else ch.rms
  detCompare
    { ch with peak := p, env := e, rms := r,
              rmsAcc := if on && !full then acc else 0,
              rmsCount := if on && !full then ch.rmsCount + 1 else 0 }
    (on && full)

/-- The normalised value of a SEN channel (R291). -/
def senNorm (ch : FcChan) (a : F32) : F32 :=
  gClamp 0#32 fOne (gDiv (gSub a ch.coef0) (gSub ch.coef1 ch.coef0))

/-- What a fine value in codes gives a SEN or SUP channel (R288): the DC blocker re-centred to 32,768, the normalisation of SEN and
the detectors. -/
def fineValue (c : Nat) (rate : F32) (dcb triggered : Bool) (ch : FcChan) (x : F32) : FcChan :=
  let y := if dcb && !triggered then
      let r := dcBlock rate ch x
      (r.1, gAdd r.2 (gOfInt 32768))
    else (ch, x)
  let ch1 := { y.1 with fine := y.2, norm := if c < 40 then senNorm ch y.2 else ch.norm }
  detectors rate ch1 (gDiv y.2 (gOfInt 65536))

/-- The gain of the ramps of an AIN output: the start-up ramp (R303) and the phase-change ramp (R286). -/
def ainGain (ch : FcChan) : F32 :=
  let start := if ch.start < 64 then 0#32 else if ch.start < 128 then gRatio (ch.start - 63 : Nat) 64 else fOne
  let phase := match ch.ramp with
    | .idle => fOne
    | .down left => gRatio (left - 1 : Nat) 32
    | .wait _ => 0#32
    | .up left => gRatio (33 - left : Nat) 32
  gMul start phase

/-- The phase-change ramp one sample on (R286); the new delay applies when the ramp down has ended. -/
def phaseStep (ch : FcChan) : FcChan :=
  match ch.ramp with
  | .idle => ch
  | .down left => if left ≤ 1 then { ch with ramp := .wait 64, delay := ch.phase } else { ch with ramp := .down (left - 1) }
  | .wait left => { ch with ramp := if left ≤ 1 then .up 32 else .wait (left - 1) }
  | .up left => { ch with ramp := if left ≤ 1 then .idle else .up (left - 1) }

/-- One decimated AIN sample (R285): calibration, DC blocker, detectors and ramps. After a modulator reset the output holds its last
value for up to 32 samples (R305). -/
def ainSampleStep (fs : Nat) (dcb : Bool) (ch : FcChan) (x : F32) : FcChan :=
  if 0 < ch.modHold then phaseStep { ch with modHold := ch.modHold - 1, start := ch.start + 1 }
  else
    let rate := gOfInt fs
    let y := gMul (gSub (gFlush x) ch.coef0) ch.coef1
    let r := if dcb then dcBlock rate ch y else (ch, y)
    let out := gMul r.2 (ainGain ch)
    let ch1 := detectors rate { r.1 with fine := r.2, out := out } r.2
    phaseStep { ch1 with start := ch1.start + 1 }

/-! ### A channel as a whole -/

/-- A channel turned on (R303): its output 0.0, start-up mute, no history, detectors at 0.0. -/
def FcChan.turnOn (ch : FcChan) : FcChan :=
  { ch with on := true, start := 0, out := 0#32, history := [], lp := 0#32, dValid := false, ovlFreeze := false, peak := 0#32, rms := 0#32,
            env := 0#32, rmsAcc := 0, rmsCount := 0, detArmed := true, evArmed := true, burst := none, held := false, fullRun := 0,
            modHold := 0, ramp := .idle, delay := ch.phase, cal := none }

/-- The end of a burst or a calibration: with no burst left, a held trigger starts one of n conversions (R298). -/
def FcChan.release (ch : FcChan) (n : Nat) : FcChan :=
  if ch.held && ch.burst.isNone then { ch with held := false, burst := some { left := n } } else ch

/-- The samples of 2 ms, rounded up (C2 and C7 of Table 6). DESIGN CHOICE: a calibration's steps but the measurement count the channel's
samples (log entry 124). -/
def calSettle (fs : Nat) : Nat := ceilDiv fs 500

/-- A calibration's step one sample on; none when the channel is back on its own modulator (Table 6). -/
def CalStep.next : CalStep → Option CalStep
  | .beside n => some (if n ≤ 1 then .cross 64 else .beside (n - 1))
  | .cross n => some (if n ≤ 1 then .measure else .cross (n - 1))
  | .measure => some .measure
  | .settle n => some (if n ≤ 1 then .back 64 else .settle (n - 1))
  | .back n => if n ≤ 1 then none else some (.back (n - 1))

/-- A channel's calibration one sample on. -/
def FcChan.calTick (ch : FcChan) : FcChan :=
  { ch with cal := ch.cal.bind (fun k => k.step.next.map (fun x => { k with step := x })) }

/-- An AIN channel in step C7: it leaves the spare (R299, R302). -/
def FcChan.calLeave (ch : FcChan) (fs : Nat) : FcChan := { ch with cal := ch.cal.map (fun k => { k with step := .settle (calSettle fs) }) }

/-- A channel whose calibration with a handle is aborted (R302): an AIN channel goes back to its own modulator, a SEN channel stops
measuring. -/
def FcChan.calAbort (c fs n : Nat) (h : Word) (ch : FcChan) : FcChan :=
  match ch.cal with
  | none => ch
  | some k => if k.handle != some h then ch else if c < 8 then ch.calLeave fs else ({ ch with cal := none }).release n

end Sys2Proof.Machine
end

