-- ==== Sys2Proof/Machine/PartsEngine.lean ====
section
/-! DEFINITION. The state of a Truffle engine (chapter 09). -/

namespace Sys2Proof.Machine

/-- A register window without its exchange registers, which are the parameter registers of the window after it (R219). -/
structure Win where
  p : Bank Word 8
  q : Bank Word 7
  lk : Word
deriving DecidableEq, Repr, Inhabited

/-- A tile register: 32 rows of 32 elements (R208). -/
abbrev Tile := Bank (Bank F32 32) 32

/-- A context of an engine (R208). wins holds the live rotating windows, the current one first, and x the exchange registers of the
current one; trapWin and trapX are the trap window, whose turn inTrap says. laneFlags holds the flags each lane raised in the last
vector or spore instruction (KFLAG). -/
structure Ctx where
  v : Bank (Bank F32 32) 32
  k : Bank Word 8
  m : Bank Tile 4
  y : Bank Word 8
  wins : List Win
  x : Bank Word 8
  spilled : Nat
  trapWin : Win
  trapX : Bank Word 8
  inTrap : Bool
  pc : Nat
  ctrl : BitVec 2
  sticky : BitVec 6
  fte : BitVec 6
  tba : BitVec 12
  aqw : BitVec 3
  width : Nat
  tcause : Nat
  laneFlags : Bank (BitVec 6) 32
deriving DecidableEq, Repr, Inhabited

/-- Which context of an engine runs (R209). -/
inductive Running where
  | idle | frame | job
deriving DecidableEq, Repr, Inhabited

/-- What a chain record carries (R229, R231, R234): its last completed output, none before the first, the last inputs, oldest first, and for
a block position the output block with the frame at which it starts. -/
structure ChainLane where
  y : Option F32
  history : List F32
  block : List F32
  blockAt : Nat
  blockValid : Bool
deriving DecidableEq, Repr, Inhabited

/-- A Truffle engine. opened says that this frame's window has been opened, and resting that a RESTART lets no position run before the next
boundary (R237); bypNext holds the bypass targets of the next boundary for
the positions in bypMask; gain counts the bypass gain in 32nds; over marks positions overrun since their target became 1; queue of
positions left in the open window. -/
structure Engine where
  code : Bank Word 4096
  spore : Bank MicroOp 256
  programs : List (Nat × Nat × Nat)
  loaded : Nat
  frame : Ctx
  job : Ctx
  run : Running
  windowOpen : Bool
  opened : Bool
  resting : Bool
  queue : List Nat
  pos : Nat
  halted : Bool
  status : BitVec 4
  trapLog : Word
  bypTarget : BitVec 64
  bypNext : BitVec 64
  bypMask : BitVec 64
  gain : Bank Nat 64
  overrun : BitVec 64
  doneNow : BitVec 64
  ovr : BitVec 64
  ovrCnt : Nat
  cycles : Nat
  cycLast : Nat
  cycPeak : Nat
  spillPkF : Nat
  spillPkJ : Nat
  jobHandle : Option Word
  jobPaused : Bool
  memLog : Word
  lanes : List ChainLane
  spawnFrame : Nat
deriving DecidableEq, Repr, Inhabited

/-- A window of zeros. -/
def Win.zero : Win := { p := Bank.all 8 0#32, q := Bank.all 7 0#32, lk := 0#32 }

/-- A context cleared as R90 states. -/
def Ctx.zero : Ctx :=
  { v := Bank.all 32 (Bank.all 32 0#32), k := Bank.all 8 0#32, m := Bank.all 4 (Bank.all 32 (Bank.all 32 0#32)),
    y := Bank.all 8 0#32, wins := [Win.zero], x := Bank.all 8 0#32, spilled := 0, trapWin := Win.zero,
    trapX := Bank.all 8 0#32, inTrap := false, pc := 0, ctrl := 0#2, sticky := 0#6, fte := 0#6, tba := 0#12, aqw := 0#3,
    width := 32, tcause := 0, laneFlags := Bank.all 32 0#6 }

/-- An engine after reset. -/
def Engine.reset : Engine :=
  { code := Bank.all 4096 0#32, spore := Bank.all 256 { op := 0, dest := 0, a := 0, b := 0, imm := 0#32 }, programs := [],
    loaded := 0, frame := Ctx.zero, job := Ctx.zero, run := .idle, windowOpen := false, opened := false, resting := false, queue := [], pos := 0,
    halted := false, status := 0#4, trapLog := 0#32, bypTarget := 0#64, bypNext := 0#64, bypMask := 0#64, gain := Bank.all 64 0,
    overrun := 0#64, doneNow := 0#64, ovr := 0#64, ovrCnt := 0, cycles := 0, cycLast := 0, cycPeak := 0, spillPkF := 0,
    spillPkJ := 0, jobHandle := none, jobPaused := false, memLog := 0#32, lanes := [], spawnFrame := 0 }

end Sys2Proof.Machine
end

