-- ==== Sys2Proof/Machine/PartsHost.lean ====
section
/-! DEFINITION. The state of the device, its clocks and fuses, the spawn store, the tenancies, the host links, wells, quick
ports and event sources (chapters 01 to 05 and 18). -/

namespace Sys2Proof.Machine

/-- The device states of Table 6 of chapter 01 (R20). -/
inductive DevPhase where
  | off | aon | loading | unspawned | running | dormantK | dormantL | parked | safe
deriving DecidableEq, Repr, Inhabited

/-- Dormant entry in progress (R78): the kind asked for, and the frames of output fade still to run, none while long operations past their
commit point still have to complete. -/
structure DormantEntry where
  deep : Bool
  fadeLeft : Option Nat
deriving DecidableEq, Repr, Inhabited

/-- A Truffle clock divider (R83): the divider in force minus 1, and the one requested. -/
structure TrfDiv where
  div : BitVec 2
  request : Option (BitVec 2)
deriving DecidableEq, Repr, Inhabited

/-- The device state, clock status, dormancy registers and held pins. -/
structure DevState where
  phase : DevPhase
  boot : BitVec 3
  xbFitted : Bool
  xaGood : Bool
  xbGood : Bool
  coreLock : Bool
  audLock : Bool
  trfLock : Bool
  aqLock : Bool
  mediaLock : Bool
  lockRun : Nat
  holdover : Bool
  clamp : Bool
  crystalLost : Bool
  ppm : Word
  rcause : BitVec 4
  dormKind : Bool
  dormEntry : Option DormantEntry
  wakeEn : BitVec 14
  wakeSrc : BitVec 14
  wakeSen : Word
  rtcCmp : Word
  wakeHeld : Bool
  waking : Bool
  trfdiv : Bank TrfDiv 4
  ftgMask : BitVec 3
  forMask : BitVec 3
  spoutMask : BitVec 3
  tamperLow : Bool
deriving DecidableEq, Repr, Inhabited

/-- Device time and the frame index (R72 to R75). -/
structure TimeState where
  devTime : DWord
  frameIdx : DWord
  frameTime : DWord
  framesRun : Bool
  aonCount : DWord
  timeLatch : Bank DWord 8
  frameLatch : Bank DWord 8
  ftimeLatch : Bank DWord 8
deriving DecidableEq, Repr, Inhabited

/-- Life-cycle states (R59, R97). -/
inductive LifeCycle where
  | make | develop | field | retired
deriving DecidableEq, Repr, Inhabited

/-- A fuse programming in progress (R98, R99). -/
inductive FuseJob where
  | lifecycle (target : LifeCycle)
  | keyHash
deriving DecidableEq, Repr, Inhabited

/-- The fuses and the life-cycle registers (R97 to R103). -/
structure FuseState where
  lc : LifeCycle
  keyHash : Option (List Byte)
  job : Option FuseJob
  lastFailed : Bool
  hashWords : Bank Word 8
deriving DecidableEq, Repr, Inhabited

/-- Phases of a respawn (Table 9 of chapter 02); resume stands from an abort to the boundary at which the old configuration goes on
(Table 10). -/
inductive RespawnPhase where
  | waitPermit | validate | quiesce | write | commit | resume
deriving DecidableEq, Repr, Inhabited

/-- A respawn in progress (R52). cfg and sections are the target's configuration as built for the pending bank and the sections of the
image, and words the image as its first read gave it; validated, faded and written say what has ended; quiesced that the fade has
started. -/
structure Respawn where
  handle : Word
  phase : RespawnPhase
  validated : Bool
  quiesced : Bool
  fadeLeft : Nat
  faded : Bool
  written : Bool
  cfg : TenancyCfg
  sections : List RawSection
  words : List Word
  reserve : Nat
deriving DecidableEq, Repr, Inhabited

/-- A halt in progress (R96). waits names the operations of the tenancy that were past their commit point when it was written. -/
structure Halt where
  started : Bool
  fadeLeft : Nat
  waits : List Word
deriving DecidableEq, Repr, Inhabited

/-- What a tenancy holds beside its configuration (R54, R59, R96, R103, R123). keptPools and keptRoutes are the pool numbers and the event
routes that it had when it was left unspawned: events for it are still known by them, and the pools' RWL fields are its own to write
(R54; DESIGN CHOICE, log entry 106). -/
structure TenancyState where
  spawned : Bool
  gen : BitVec 5
  respawnErr : BitVec 8
  drop : Nat
  denied : Nat
  respawn : Option Respawn
  halt : Option Halt
  dropSeen : Bool
  keptPools : List Nat
  keptRoutes : List RouteRec
deriving DecidableEq, Repr, Inhabited

/-- The deny log (R92, R103). -/
structure DenyLog where
  valid : Bool
  ten : BitVec 3
  write : Bool
  bar2 : Bool
  ofs : Word
deriving DecidableEq, Repr, Inhabited

/-- The spawn registers and the two banks of the spawn store (R48, R49, R59). words is the host delivery, newest first; alt the flash slot
that has not been tried while the other one is being applied: whether it is slot B, its offset and its image (R55). -/
structure SpawnState where
  delivering : Bool
  words : List Word
  count : Nat
  phase : BitVec 2
  slot : Bool
  fromHost : Bool
  sig : BitVec 2
  err : BitVec 8
  errOther : BitVec 8
  errOfs : Word
  errLoc : Word
  build : Word
  active : AppliedCfg
  pend : Option AppliedCfg
  troughsDone : Bool
  written : List Nat
  alt : Option (Bool × Nat × Option (List Word))
deriving DecidableEq, Repr, Inhabited

/-- One MSI-X vector of a function's table (R104). -/
structure MsixEntry where
  addrLo : Word
  addrHi : Word
  data : Word
  masked : Bool
deriving DecidableEq, Repr, Inhabited

/-- The PCIe state of one function (R104, R105, R107). -/
structure PcieFn where
  command : BitVec 16
  bar0 : Word
  bar2lo : Word
  bar2hi : Word
  msixEnable : Bool
  msixMaskAll : Bool
  power : BitVec 2
  aerPoisoned : Bool
  aerLink : Bool
  table : Bank MsixEntry 64
  pba : BitVec 64
deriving DecidableEq, Repr, Inhabited

/-- An entry of the host write-combining buffer (R106): the line number of its 64 bytes, the function that opened it, and the
bytes written so far. -/
structure WcbEntry where
  fn : Nat
  line : Nat
  bytes : List (Option Byte)
deriving DecidableEq, Repr, Inhabited

/-- The state of one xSPI chip select (R109, R110). -/
structure Xspi where
  octal : Bool
  lat : BitVec 5
  badCmd : Bool
  late : Bool
deriving DecidableEq, Repr, Inhabited

/-- The host links. -/
structure HostState where
  linkUp : Bool
  fns : Bank PcieFn 8
  wcb : List WcbEntry
  xspi : Bank Xspi 2
deriving DecidableEq, Repr, Inhabited

/-- A well's indices and status (R117 to R120, R129). lostIdx is the index of the entry stored after the first gap since WELL_LOSTw was
last read, none while there has been none; lostBefore counts the records dropped since the last one stored; part
gathers the samples of a STRM entry being produced, and pos is the next sample of the entry being consumed. -/
structure Well where
  p : BitVec 16
  c : BitVec 16
  trig : BitVec 16
  status : BitVec 5
  lost : Nat
  lostIdx : Option (BitVec 16)
  lostBefore : Nat
  cmdErr : Nat
  part : List Word
  pos : Nat
deriving DecidableEq, Repr, Inhabited

/-- A completion (Table 10 of chapter 05). -/
structure Completion where
  handle : Word
  status : BitVec 16
  opcode : Byte
  done : DWord
  submitted : DWord
  res : List Word
deriving DecidableEq, Repr, Inhabited

/-- A short command waiting in a tenancy's reflex queue (R113): opcode, arguments, value and rule index. -/
structure ShortCmd where
  opcode : Byte
  arg0 : Word
  arg1 : Word
  value : F32
  rule : Nat
deriving DecidableEq, Repr, Inhabited

/-- A quick port (R121 to R124, R128) with its tenancy's completion store and reflex queue. cmdLeft is how many CMD entries
the tenancy may still consume in this frame (R120), and wellSet what its CMD wells have set for the next boundary: opcode and bus, or
engine × 64 + position (R116). -/
structure QPort where
  args : Bank Word 8
  status : Byte
  handle : Word
  abortStatus : BitVec 2
  seq : BitVec 24
  store : List Completion
  reflexDrop : Nat
  reflexRefused : Nat
  reflexQ : List ShortCmd
  cmdLeft : Nat
  wellSet : List (Nat × Nat)
deriving DecidableEq, Repr, Inhabited

/-- The long operations (Table 12 of chapter 05). -/
inductive LongCode where
  | spawnTenancy | cisternHandover | cisternWipe | pumpBulk | sampleLoad | calibrate | aquiferTrain | truffleJob
  | sealKeyInstall | checkpoint | pairSync | powerPark
deriving DecidableEq, Repr, Inhabited

/-- Where an operation stands with its Windlass permit (R382, R384). -/
inductive Permit where
  | notNeeded
  | waiting
  | granted
  | revoked
deriving DecidableEq, Repr, Inhabited

/-- A long operation in flight (R122 to R125). order ranks its permit request, which it made at requestAt;
progress counts what it has done and value carries a running result (a CRC, a mask); done is its completion once it has ended
and until COMPLETION_POST posts it. -/
structure LongOp where
  handle : Word
  ten : Nat
  code : LongCode
  args : Bank Word 8
  submitted : DWord
  cost : Nat
  permit : Permit
  order : Nat
  requestAt : DWord
  everGranted : Bool
  started : Bool
  committed : Bool
  progress : Nat
  value : Word
  retries : Nat
  done : Option Completion
deriving DecidableEq, Repr, Inhabited

/-- One event source (R415 to R417, Table 7 of chapter 18). -/
structure Source where
  mask : Bool
  pend : Bool
  req : Bool
  out : Bool
  well : Bool
  vector : BitVec 6
  pin : BitVec 2
deriving DecidableEq, Repr, Inhabited

/-- The event sources, EVS_WELLn and the EVT_OUT pins. -/
structure EvsState where
  src : Bank Source 1024
  well : Bank Word 8
  mode : Bank Bool 4
  pulse : Bank Bool 4
deriving DecidableEq, Repr, Inhabited

/-- A performance counter (R420, R421). -/
structure PerfCtr where
  sel : Word
  cnt : Word
  sat : Bool
  shot : Word
  shotSat : Bool
deriving DecidableEq, Repr, Inhabited

/-- A traced occurrence (Table 4 of chapter 18): the device time of its PER cycle, its class, its tenancy (none is the device), its source,
pool or handle number, and the payload words. -/
structure TraceItem where
  at_ : DWord
  cls : Nat
  ten : Option Nat
  source : Nat
  words : List Word
deriving DecidableEq, Repr, Inhabited

/-- Counters, trace and TAP (R420 to R428). traceQ holds what has occurred and waits for TRACE_PACKET_EMIT, oldest first;
fifo the bytes of the trace FIFO. -/
structure ObsState where
  perf : Bank (Bank PerfCtr 64) 8
  allow : Bank Bool 8
  traceQ : List TraceItem
  fifo : List Byte
  sinceSync : Nat
  syncSent : Bool
  lostRun : Nat
  lostCnt : Nat
  tapIr : BitVec 4
  tapDr : List Bool
deriving DecidableEq, Repr, Inhabited

end Sys2Proof.Machine
end

