-- ==== Sys2Proof/Machine/PartsMem.lean ====
section
/-! DEFINITION. The state of the cisterns, the sealed cistern, the aquifer, its directory and the pumps (chapter 11). -/

namespace Sys2Proof.Machine

/-- One cistern (R256 to R260, R280): its owner, a handover in progress (its handle, and the new owner or none for unowned, and
whether it wipes), and the scrub position in 256-bit words. -/
structure Cistern where
  owner : Option Nat
  release : Bool
  draining : Option Word
  wiping : Option Word
  status : BitVec 4
  cecc : Nat
  uecc : Nat
  elog : Word
  scrubPos : Nat
  writeBack : Bool
deriving DecidableEq, Repr, Inhabited

/-- A host request to a cistern that is draining or wiping, held until that ends (R259). -/
inductive HeldReq where
  | write (fn : Nat) (ofs : Nat) (bytes : List Byte)
  | read (fn : Nat) (ofs words : Nat)
deriving DecidableEq, Repr, Inhabited

/-- A directory entry of a cached line (R271). -/
inductive DirState where
  | shared (sharers : List Nat)
  | exclusive (e : Nat)
  | modified (e : Nat)
deriving DecidableEq, Repr, Inhabited

/-- The memories and the L1 directory. cis holds BAR2 offsets, aq device addresses, sealed the sealed data; the ecc lists mark
words that stand in error (64-bit lane or line number, uncorrectable); l1 holds the data of modified lines, and ways the lines that each
engine's L1 holds in any state, oldest fill first (R235). -/
structure MemState where
  cis : Memory
  aq : Memory
  sealedData : Memory
  keys : Bank (Option (List Byte)) 64
  sealWiping : Bool
  sealTamper : Bool
  sealPage : Bank (BitVec 3) 8
  cisEcc : List (Nat × Bool)
  aqEcc : List (Nat × Bool)
  banks : Bank Cistern 24
  held : List HeldReq
  mirrorQ : List (Nat × List Byte)
  dir : List (Nat × DirState)
  l1 : List (Nat × List Byte)
  ways : Bank (List Nat) 4
  pointer : Nat
deriving DecidableEq, Repr, Inhabited

/-- The aquifer controller (R266 to R269, R282). -/
structure AqState where
  raw : Nat
  cap : Nat
  present : Bool
  trained : Bool
  iecc : Bool
  trainFail : Bool
  channels : BitVec 2
  ctrl : Bool
  cecc : Nat
  uecc : Nat
  elog : Word
  winMax : Nat
  patrol : Nat
  pstatus : Bank Bool 8
  pelog : Bank Word 8
  zqDue : Bool
  dqsDue : Bool
  selfRefresh : Bool
  deepDown : Bool
deriving DecidableEq, Repr, Inhabited

/-- A stream of a pump (R275, R276): the voice it feeds (gill, voice store, element), where its zone lies, and its ring.
How far the ring is filled stands in the voice. -/
structure Stream where
  gill : Nat
  store : Nat
  elem : Nat
  source : Nat
  frameBytes : Nat
  length : Nat
  loopStart : Nat
  loopEnd : Nat
  ring : Nat
  ringBytes : Nat
  nonce : DWord
deriving DecidableEq, Repr, Inhabited

/-- A line in a pump's store buffer (R277): translated and physical address, bytes, and the operation it belongs to. -/
structure StoreLine where
  va : Nat
  addr : Nat
  bytes : List Byte
  handle : Word
deriving DecidableEq, Repr, Inhabited

/-- A pump (R273 to R277, R281). cache holds translations: (page, physical page, writable), newest first. -/
structure Pump where
  cache : List (Nat × Nat × Bool)
  streams : Bank (Option Stream) 64
  waiting : List Stream
  buffer : List StoreLine
  nonceLo : Word
  nonceHi : Word
  status : BitVec 2
  fault : Word
  faddr : DWord
  noctx : Nat
  faultCnt : Nat
  peak : Nat
deriving DecidableEq, Repr, Inhabited

/-- The memories after reset: wiped (R76, R90). -/
def MemState.reset : MemState :=
  { cis := [], aq := [], sealedData := [], keys := Bank.all 64 none, sealWiping := false, sealTamper := false,
    sealPage := Bank.all 8 0#3, cisEcc := [], aqEcc := [],
    banks := Bank.all 24
      { owner := none, release := false, draining := none, wiping := none, status := 0#4, cecc := 0, uecc := 0, elog := 0#32,
        scrubPos := 0, writeBack := false },
    held := [], mirrorQ := [], dir := [], l1 := [], ways := Bank.all 4 [], pointer := 0 }

/-- The aquifer controller after reset. -/
def AqState.reset : AqState :=
  { raw := 0, cap := 0, present := false, trained := false, iecc := false, trainFail := false, channels := 0#2, ctrl := false,
    cecc := 0, uecc := 0, elog := 0#32, winMax := 0, patrol := 0, pstatus := Bank.all 8 false, pelog := Bank.all 8 0#32,
    zqDue := false, dqsDue := false, selfRefresh := false, deepDown := false }

/-- A pump after reset. -/
def Pump.reset : Pump :=
  { cache := [], streams := Bank.all 64 none, waiting := [], buffer := [], nonceLo := 0#32, nonceHi := 0#32, status := 0#2,
    fault := 0#32, faddr := 0#64, noctx := 0, faultCnt := 0, peak := 0 }

end Sys2Proof.Machine
end

