-- ==== Sys2Proof/Machine/PartsNet.lean ====
section
/-! DEFINITION. The state of the network ports and the USB device (chapter 14). -/

namespace Sys2Proof.Machine

/-- A port's gPTP clock (R331, R332): gPTP time is refTime at the device time refDev (in nanoseconds) and runs at rate / 2^32 of
device time. sync is the Sync that waits for its Follow_Up; best the best Announce known; t1, t2 and t4 the times of the
peer-delay exchange under way, peer the t3 and t4 of the last one, and ratio the neighbour's rate in units of 2^-32; lost counts the
requests since the last completed exchange. -/
structure Gptp where
  refDev : Nat
  refTime : Nat
  rate : Nat
  fromSync : Bool
  sync : Option GptpSync
  best : Option GptpAnnounce
  seqSync : BitVec 16
  seqAnn : BitVec 16
  seqPdelay : BitVec 16
  t1 : Nat
  t2 : Nat
  t4 : Nat
  peer : Option (Nat × Nat)
  ratio : Nat
  lost : Nat
deriving DecidableEq, Repr, Inhabited

/-- A network port (R329 to R332, R346). -/
structure NetPort where
  pctl : BitVec 2
  mac : BitVec 48
  link : Bool
  asCapable : Bool
  isGm : Bool
  synced : Bool
  stat : BitVec 4
  txLat : BitVec 16
  rxLat : BitVec 16
  pdelay : Word
  gtime : DWord
  gmId : DWord
  rxDrop : Nat
  rxErr : Nat
  gptp : Gptp
deriving DecidableEq, Repr, Inhabited

/-- A packet of a talker that waits to be sent (R335): the time of its first frame and its payload words. -/
structure TalkPacket where
  time : DWord
  seq : Byte
  words : List Word
deriving DecidableEq, Repr, Inhabited

/-- A talker (R335, R346). words and count gather the packet under way, which starts at the time start. -/
structure Talker where
  en : Bool
  dmac : BitVec 48
  vlan : Word
  stat : BitVec 2
  clips : Nat
  drops : Nat
  seq : Byte
  start : DWord
  count : Nat
  words : List Word
  ready : List TalkPacket
deriving DecidableEq, Repr, Inhabited

/-- A buffered frame of a listener (R339): sample j of the packet whose first presentation time is p. -/
structure HeldFrame where
  p : Nat
  j : Nat
  samples : List F32
deriving DecidableEq, Repr, Inhabited

/-- A listener (R338, R339, R346): out holds what it delivers for the mix frame under way. -/
structure Listener where
  en : Bool
  stat : BitVec 5
  lates : Nat
  slips : Nat
  seqs : Nat
  margin : BitVec 16
  lastSeq : Option Byte
  buf : List HeldFrame
  out : List F32
deriving DecidableEq, Repr, Inhabited

/-- The network block: ports, streams, steering, packet wells, CRF and MDIO (R346). crfTargets are the boundary times that the last
CRF PDU placed; crfStamps the boundary times gathered for the next PDU; mdioEnd the device time at which the MDIO access under way
ends; txNext the transmit register of each port whose turn comes next. -/
structure NetState where
  ports : Bank NetPort 2
  talkers : Bank Talker 16
  listeners : Bank Listener 16
  mdioEnd : DWord
  mdioData : BitVec 16
  epoch : DWord
  steer : Bank Word 16
  defWell : BitVec 9
  txWell : Bank (BitVec 9) 16
  crfCtl : BitVec 3
  crfTsid : DWord
  crfLsid : DWord
  crfDmac : BitVec 48
  crfOfs : Word
  crfStat : BitVec 2
  crfTargets : List DWord
  crfStamps : List DWord
  crfSeq : Byte
  crfLocked : Bool
  txNext : Bank Nat 2
deriving DecidableEq, Repr, Inhabited

/-- The states of the USB device (R347). Suspension is a flag of its own, since the device returns to the state it left. -/
inductive UsbPhase where
  | detached | default_ | address | configured
deriving DecidableEq, Repr, Inhabited

/-- The USB queue of one tenancy (R344): the assembly register and the whole messages waiting. -/
structure UsbTx where
  asm : List Word
  queue : List (List Word)
  stat : BitVec 3
  drops : Nat
deriving DecidableEq, Repr, Inhabited

/-- The USB device (R342 to R347). outPart holds the first words of a UMP message that the OUT data has not completed. -/
structure UsbState where
  connect : Bool
  vbus : Bool
  attached : Bool
  highSpeed : Bool
  phase : UsbPhase
  suspended : Bool
  addr : BitVec 7
  config : Byte
  alt : Bool
  remoteWake : Bool
  haltOut : Bool
  haltIn : Bool
  evt : BitVec 5
  unmapped : Nat
  outPart : List Word
  tx : Bank UsbTx 8
  rr : Nat
deriving DecidableEq, Repr, Inhabited

/-- A network port after reset (R346): its address is the fused one. -/
def NetPort.reset (p : Nat) : NetPort :=
  { pctl := 0#2, mac := Config.fusedMac p, link := false, asCapable := false, isGm := false, synced := false, stat := 0#4,
    txLat := 0#16, rxLat := 0#16, pdelay := 0#32, gtime := 0#64, gmId := 0#64, rxDrop := 0, rxErr := 0,
    gptp :=
      { refDev := 0, refTime := 0, rate := 4294967296, fromSync := false, sync := none, best := none, seqSync := 0#16,
        seqAnn := 0#16, seqPdelay := 0#16, t1 := 0, t2 := 0, t4 := 0, peer := none, ratio := 4294967296, lost := 0 } }

/-- A talker after reset. -/
def Talker.reset : Talker :=
  { en := false, dmac := 0#48, vlan := 0x6002#32, stat := 0#2, clips := 0, drops := 0, seq := 0#8, start := 0#64, count := 0,
    words := [], ready := [] }

/-- A listener after reset. -/
def Listener.reset : Listener :=
  { en := true, stat := 0#5, lates := 0, slips := 0, seqs := 0, margin := 0xFFFF#16, lastSeq := none, buf := [], out := [] }

/-- The network block after reset. -/
def NetState.reset : NetState :=
  { ports := Bank.make 2 NetPort.reset, talkers := Bank.all 16 Talker.reset, listeners := Bank.all 16 Listener.reset,
    mdioEnd := 0#64, mdioData := 0#16, epoch := 0#64, steer := Bank.all 16 0#32, defWell := 0#9,
    txWell := Bank.all 16 0#9, crfCtl := 0#3, crfTsid := 0#64, crfLsid := 0#64, crfDmac := 0#48, crfOfs := 0x1E8480#32,
    crfStat := 0#2, crfTargets := [], crfStamps := [], crfSeq := 0#8, crfLocked := false, txNext := Bank.all 2 0 }

/-- The USB device after reset. -/
def UsbState.reset : UsbState :=
  { connect := true, vbus := false, attached := false, highSpeed := false, phase := .detached, suspended := false,
    addr := 0#7, config := 0#8, alt := false, remoteWake := false, haltOut := false, haltIn := false, evt := 0#5,
    unmapped := 0, outPart := [], tx := Bank.all 8 { asm := [], queue := [], stat := 0#3, drops := 0 }, rr := 0 }

end Sys2Proof.Machine
end

