-- ==== Sys2Proof/Machine/PartsPorts.lean ====
section
/-! DEFINITION. The state of the timers, the keybed scanner, the character ports, the I2C controllers and the boot-flash
controller (chapter 15). -/

namespace Sys2Proof.Machine

/-- A timer channel (R348 to R354, R375). cmpNext and addNext are PWM values that wait for the return to 0; first says that the
first edge of a pair has been taken, at count edge; pin is the level of an output, or of an input once filtered; msg the message presented and
not yet taken. -/
structure TimerChan where
  cfg : BitVec 15
  run : Bool
  cnt : Word
  ext : BitVec 16
  extLatch : BitVec 16
  cmp : Word
  add : Word
  cmpNext : Option Word
  addNext : Option Word
  capA : Word
  capB : Word
  pair : Word
  edge : Word
  stat : BitVec 6
  evmsg : BitVec 24
  evLost : Nat
  pin : Bool
  first : Bool
  started : Bool
  msg : Option RawEvent
deriving DecidableEq, Repr, Inhabited

/-- A keybed contact (R357): closed or open as taken, the open samples in a row, and the times of the first of them, of its last
closing and of its last opening. -/
structure Contact where
  closed : Bool
  opens : Nat
  firstOpen : DWord
  closedAt : DWord
  openedAt : DWord
deriving DecidableEq, Repr, Inhabited

/-- A key: its contacts A and B, whether it sounds, and whether it was found closed by the first scan and waits for both contacts to
open. -/
structure KeyContacts where
  a : Contact
  b : Contact
  sounding : Bool
  mute : Bool
deriving DecidableEq, Repr, Inhabited

/-- A key event of the scan under way, with its time and sense line. -/
structure ScanEvent where
  time : DWord
  sense : Nat
  ev : RawEvent
deriving DecidableEq, Repr, Inhabited

/-- The keybed scanner (R355 to R360, R376). setup says that the scan under way is the first one, which sets the state without
events; scan holds its events and buffer those waiting for the ingress; missed names contacts whose change could not be
latched. -/
structure KeybedState where
  debounce : BitVec 4
  en : Bool
  status : BitVec 2
  orderCnt : Nat
  lateCnt : Nat
  keys : Bank KeyContacts 128
  setup : Bool
  scan : List ScanEvent
  buffer : List RawEvent
  missed : List (Nat × Bool)
deriving DecidableEq, Repr, Inhabited

/-- A received character with its flags, in the layout of U_RXn without VALID. -/
abbrev RxEntry := Word

/-- A character port (R361 to R368, R377). ovr says that the next character stored carries OVR; running, parts and sysex are the
MIDI parser's; addressed is the state of AFILT; rxRun the parity errors signalled in a row, txRun the repeats of the character
being sent, inverse the convention in force and firstAfterRst that the next character decides it; dorm the 8-entry buffer. -/
structure UartState where
  fmt : BitVec 7
  en : Bool
  aux : Bool
  afilt : Bool
  rx : List RxEntry
  tx : List (BitVec 9)
  stat : BitVec 7
  card : Word
  errCnt : Nat
  ovrCnt : Nat
  ovr : Bool
  running : Option Byte
  parts : List Byte
  sysex : Option (List Byte)
  sysexStarted : Bool
  addressed : Bool
  rxRun : Nat
  txRun : Nat
  inverse : Bool
  firstAfterRst : Bool
  dorm : List RxEntry
  dormOvr : Bool
deriving DecidableEq, Repr, Inhabited

/-- An I2C controller (R369 to R371, R378). sent counts the bytes of the entry under way that have gone out; held are bytes of a
read that wait for room in the receive FIFO, and ending that the entry ends when they are in. -/
structure I2cState where
  en : Bool
  ready : Bool
  cmds : List Word
  txf : List Byte
  rxf : List Byte
  stat : BitVec 6
  busHeld : Bool
  sent : Nat
  held : List Byte
  ending : Bool
deriving DecidableEq, Repr, Inhabited

/-- The boot-flash controller (R372, R373, R379). -/
structure FlashState where
  mode : BitVec 2
  released : Bool
  busy : Bool
  dsTimeout : Bool
  addr : Word
  rdata : Word
deriving DecidableEq, Repr, Inhabited

/-- A timer channel after reset. -/
def TimerChan.reset : TimerChan :=
  { cfg := 0#15, run := false, cnt := 0#32, ext := 0#16, extLatch := 0#16, cmp := 0#32, add := 0#32, cmpNext := none,
    addNext := none, capA := 0#32, capB := 0#32, pair := 0#32, edge := 0#32, stat := 0#6, evmsg := 0#24, evLost := 0, pin := false,
    first := false, started := false, msg := none }

/-- An open contact. -/
def Contact.open_ : Contact := { closed := false, opens := 0, firstOpen := 0#64, closedAt := 0#64, openedAt := 0#64 }

/-- The keybed scanner after reset. -/
def KeybedState.reset : KeybedState :=
  { debounce := 2#4, en := true, status := 0#2, orderCnt := 0, lateCnt := 0,
    keys := Bank.all 128 { a := Contact.open_, b := Contact.open_, sounding := false, mute := false },
    setup := true, scan := [], buffer := [], missed := [] }

/-- A character port after reset. -/
def UartState.reset : UartState :=
  { fmt := 8#7, en := true, aux := false, afilt := false, rx := [], tx := [], stat := 0#7, card := 0x300174#32, errCnt := 0,
    ovrCnt := 0, ovr := false, running := none, parts := [], sysex := none, sysexStarted := false, addressed := false,
    rxRun := 0, txRun := 0, inverse := false, firstAfterRst := false, dorm := [], dormOvr := false }

/-- An I2C controller after reset. -/
def I2cState.reset : I2cState :=
  { en := true, ready := false, cmds := [], txf := [], rxf := [], stat := 0#6, busHeld := false, sent := 0, held := [],
    ending := false }

/-- The boot-flash controller after reset. -/
def FlashState.reset : FlashState :=
  { mode := 0#2, released := false, busy := false, dsTimeout := false, addr := 0#32, rdata := 0#32 }

end Sys2Proof.Machine
end

