-- ==== Sys2Proof/Machine/PartsPower.lean ====
section
/-! DEFINITION. The state of the Windlass, the monitors, the supply watch (chapter 16) and the stage pair (chapter 17). -/

namespace Sys2Proof.Machine

/-- The Windlass and its monitors (R380 to R388, R396). pool is A as last computed; cap the cap k, and capApplied the k that the Forager
has applied (R151). -/
structure WindlassState where
  reserve : Nat
  leak : Nat
  pool : Nat
  warn : Bool
  reduce : Bool
  crit : Bool
  shed : Bool
  capFlag : Bool
  band : BitVec 2
  status : BitVec 6
  tj : F32
  monStat : Word
  tmon : Bank F32 12
  vmon : Bank F32 16
  pmon : Bank F32 8
  cap : Nat
  capApplied : Nat
  noPermit : Bank Nat 8
deriving DecidableEq, Repr, Inhabited

/-- A supply detector (R389): active, and how many windows or coarse samples in a row met its criterion. -/
structure DetState where
  active : Bool
  run : Nat
  criterion : Bool
deriving DecidableEq, Repr, Inhabited

/-- A SUP channel (R389, R397): the window length, the values of the last window, and the fine values of the window under way in
order newest first. -/
structure SupChan where
  win : BitVec 8
  rms : F32
  max : F32
  min : F32
  detCnt : Nat
  values : List F32
  dets : Bank DetState 4
deriving DecidableEq, Repr, Inhabited

/-- Steps of the park sequence (Table 6 of chapter 16): the fade, then the drain. -/
inductive ParkStep where
  | fade (left : Nat)
  | drain
deriving DecidableEq, Repr, Inhabited

/-- The supply watch and the park sequence (R389 to R394, R397). -/
structure SupplyState where
  level : Nat
  pfail : Bool
  parkAck : Bool
  swPark : Bool
  thermPark : Bool
  railPark : Bool
  status : BitVec 10
  pfHold : BitVec 16
  parkCnt : Nat
  drop : Nat
  chans : Bank SupChan 4
  parking : Option ParkStep
  parkHandle : Option Word
deriving DecidableEq, Repr, Inhabited

/-- A switch of ownership under way (R408): the boundaries left to this device at which it drives the last SAMPLE packet
(incoming) or holds its outputs frozen (outgoing). -/
inductive Switch where
  | incoming (left : Nat)
  | frozen
deriving DecidableEq, Repr, Inhabited

/-- The stage pair (R398 to R413). own is the device's output enable OE; ownLow counts the boundaries in a row at which SP_OWN_IN
was low; sig the signature of the last frame and sigPrev that of the one before; sel the level of SP_SEL last sampled, and selOut the level a
referee drives; syncAt the sync frame S of the PAIR_SYNC under way; syncWords what SYNC packets have brought; syncedOnce that a
PAIR_SYNC has committed since the pair last became unsynchronised; revertAt the boundary H of a revert under way. -/
structure PairState where
  link : Bool
  synced : Bool
  own : Bool
  forwarder : Bool
  req : Bool
  ownIn : Bool
  sel : Bool
  selOut : Bool
  holdover : Bool
  verdict : BitVec 2
  status : BitVec 16
  noRevert : Bool
  cause : BitVec 4
  syncLo : Word
  syncHi : Word
  matchRun : Word
  pdigest : Word
  pdigestKnown : Bool
  crcErr : Nat
  lateEvt : Nat
  mismatchCnt : Nat
  switchCnt : Nat
  bothReq : Nat
  txSeq : BitVec 16
  rxSeq : Option (BitVec 16)
  sampleIn : List Word
  sig : Word
  sigPrev : Word
  partnerSig : Option (DWord × Word)
  partnerFrame : Option DWord
  framePulse : Bool
  ownLow : Nat
  syncAt : Option DWord
  syncWords : List Word
  syncedOnce : Bool
  revertAt : Option DWord
  switch : Option Switch
deriving DecidableEq, Repr, Inhabited

/-- The Windlass after reset. -/
def WindlassState.reset : WindlassState :=
  { reserve := 0, leak := 0, pool := 0, warn := false, reduce := false, crit := false, shed := false, capFlag := false,
    band := 0#2, status := 0#6, tj := 0#32, monStat := 0#32, tmon := Bank.all 12 0#32, vmon := Bank.all 16 0#32,
    pmon := Bank.all 8 0#32, cap := 8, capApplied := 8, noPermit := Bank.all 8 0 }

/-- The supply watch after reset. -/
def SupplyState.reset : SupplyState :=
  { level := 0, pfail := false, parkAck := false, swPark := false, thermPark := false, railPark := false, status := 0#10,
    pfHold := 0x1F4#16, parkCnt := 0, drop := 0,
    chans := Bank.all 4
      { win := 0x14#8, rms := 0#32, max := 0#32, min := 0#32, detCnt := 0, values := [],
        dets := Bank.all 4 { active := false, run := 0, criterion := false } },
    parking := none, parkHandle := none }

/-- The stage pair after reset. -/
def PairState.reset : PairState :=
  { link := false, synced := false, own := false, forwarder := false, req := false, ownIn := false, sel := false, selOut := true,
    holdover := false, verdict := 0#2, status := 0#16, noRevert := false, cause := 0#4, syncLo := 0#32, syncHi := 0#32,
    matchRun := 0#32, pdigest := 0#32, pdigestKnown := false, crcErr := 0, lateEvt := 0, mismatchCnt := 0, switchCnt := 0,
    bothReq := 0, txSeq := 0#16, rxSeq := none, sampleIn := [], sig := 0#32, sigPrev := 0#32,
    partnerSig := none, partnerFrame := none, framePulse := false, ownLow := 0, syncAt := none, syncWords := [],
    syncedOnce := false, revertAt := none, switch := none }

end Sys2Proof.Machine
end

