-- ==== Sys2Proof/Machine/PartsSpout.lean ====
section
/-! DEFINITION. The state of the Spout, the output converters and the serial audio ports (chapter 13). -/

namespace Sys2Proof.Machine

/-- A Spout bus (R308, R309): the gain target, the gain reached, the ramp under way (its start and the frames left), the value of
this frame, and its status. -/
structure Bus where
  target : F32
  gain : F32
  from_ : F32
  left : Nat
  val : F32
  nan : Bool
  nanCnt : Nat
deriving DecidableEq, Repr, Inhabited

/-- The fade gain F_t of a tenancy (R313): from a start to an end value over len frames, pos of them done. -/
structure Fade where
  from_ : F32
  target : F32
  len : Nat
  pos : Nat
deriving DecidableEq, Repr, Inhabited

/-- An audio DAC channel (R312, R316, R321): the code written for the next load, the code loaded, the offset and gain coefficients,
and how far a calibration has ramped its signal down, in 64ths. -/
structure Aout where
  written : BitVec 24
  loaded : BitVec 24
  offset : F32
  calGain : F32
  mute : Nat
deriving DecidableEq, Repr, Inhabited

/-- An audio load group (R316, R320): precharge means the common mode is charging, enabled that its stage drives. cal is the
operation calibrating one of its channels, and that channel. -/
structure Lga where
  status : BitVec 2
  clipCnt : Nat
  precharge : Bool
  enabled : Bool
  cal : Option (Word × Nat)
deriving DecidableEq, Repr, Inhabited

/-- A CV channel (R317, R321). -/
structure Cv where
  shadow : BitVec 18
  out : BitVec 18
  offset : F32
  gain : F32
deriving DecidableEq, Repr, Inhabited

/-- A CV load group (R317, R318). calAge counts the frames of the measurement under way (R321). -/
structure Lgc where
  skipHalf : Bool
  seq : BitVec 16
  status : BitVec 4
  halfCnt : Nat
  clipCnt : Nat
  enabled : Bool
  cal : Option (Word × Nat)
  calAge : Nat
deriving DecidableEq, Repr, Inhabited

/-- The Spout. mixed says that a mix waits for its chain results and destinations; voteOk that it had a majority;
lastOut holds the destination values of the last frame that had one, with the class and index of each destination (R315). -/
structure SpoutState where
  buses : Bank Bus 64
  fades : Bank Fade 8
  aouts : Bank Aout 16
  lga : Bank Lga 4
  cvs : Bank Cv 16
  lgc : Bank Lgc 2
  mixed : Bool
  lastOut : List (Nat × Nat × F32)
  voteOk : Bool
  run : Nat
  noMaj : Bool
  voteCnt : Nat
deriving DecidableEq, Repr, Inhabited

/-- A serial audio port (R322 to R328). rx holds the samples that the mix takes, tx the words to send in the next port frame, sent those of
the port frame under way. rxq and txq are the frames that wait in a target's elastic buffers, oldest first; repeatIn, dropIn, repeatOut and
dropOut say what a slip does to them at the next boundary (R324). -/
structure Sap where
  en : Bool
  cfg : Word
  status : BitVec 3
  slipCnt : Nat
  clipCnt : Nat
  phase : BitVec 11
  noFs : Bool
  rx : Bank F32 16
  tx : Bank Word 16
  sent : Bank Word 16
  rxq : List (Bank F32 16)
  txq : List (Bank Word 16)
  repeatIn : Bool
  dropIn : Bool
  repeatOut : Bool
  dropOut : Bool
deriving DecidableEq, Repr, Inhabited

/-- The Spout after reset. -/
def SpoutState.reset : SpoutState :=
  { buses := Bank.all 64
      { target := fOne, gain := fOne, from_ := fOne, left := 0, val := 0#32, nan := false, nanCnt := 0 },
    fades := Bank.all 8 { from_ := fOne, target := fOne, len := 0, pos := 0 },
    aouts := Bank.all 16 { written := 0#24, loaded := 0#24, offset := 0#32, calGain := fOne, mute := 0 },
    lga := Bank.all 4 { status := 0#2, clipCnt := 0, precharge := false, enabled := false, cal := none },
    cvs := Bank.all 16 { shadow := 0#18, out := 0#18, offset := 0#32, gain := fOne },
    lgc := Bank.all 2
      { skipHalf := true, seq := 0#16, status := 0#4, halfCnt := 0, clipCnt := 0, enabled := false, cal := none,
        calAge := 0 },
    mixed := false, lastOut := [], voteOk := true, run := 0, noMaj := false, voteCnt := 0 }

/-- A serial audio port after reset. -/
def Sap.reset : Sap :=
  { en := false, cfg := 0#32, status := 0#3, slipCnt := 0, clipCnt := 0, phase := 0#11, noFs := false,
    rx := Bank.all 16 0#32, tx := Bank.all 16 0#32, sent := Bank.all 16 0#32, rxq := [], txq := [],
    repeatIn := false, dropIn := false, repeatOut := false, dropOut := false }

end Sys2Proof.Machine
end

