-- ==== Sys2Proof/Machine/State.lean ====
section
/-! DEFINITION. The state of the block, its reset, and the reasons a step can stop. The parts stand in the Parts files. -/

namespace Sys2Proof.Machine

/-- Reasons to stop. The manual gives the block no behaviour that stops it: a command that may not act changes nothing (log entry
2), so no meaning of this model raises a fault (safe). -/
inductive Fault where
  /-- Raised by nothing; the type has to have a constructor to be named. -/
  | none
deriving DecidableEq, Repr

/-- Reasons to refuse a command. -/
inductive Refusal where
  /-- A command without a meaning in this model, raised by an arm of exec only (safe). -/
  | notModelled (mnemonic : String)
deriving DecidableEq, Repr

/-- What leaves the block: answers to reads, messages and packets (DESIGN CHOICE, log entry 4). -/
inductive Output where
  /-- A completion with data of a host read, configuration or memory, and whether it is poisoned (R279). -/
  | pcieData (fn : Nat) (words : List Word) (poisoned : Bool)
  /-- Unsupported Request (R105). -/
  | pcieUnsupported (fn : Nat)
  /-- An MSI-X message (R107). -/
  | msix (fn : Nat) (addrLo addrHi data : Word)
  /-- The data bytes that an xSPI chip select returns (R110). -/
  | xspi (cs : Nat) (data : List Byte)
  /-- The value a register read through a row of its own gave. -/
  | regRead (t : Nat) (value : Word)
  /-- An Ethernet frame, without its FCS. -/
  | netFrame (port : Nat) (bytes : List Byte)
  /-- A gPTP message that a port sends: its type and sequence number, the port it answers, and its time in nanoseconds (R331). -/
  | gptp (port type : Nat) (seq : BitVec 16) (target : DWord) (time : Nat)
  /-- An Announce that a port sends: its sequence number and contents (R331). -/
  | gptpAnnounce (port : Nat) (seq : BitVec 16) (announce : GptpAnnounce)
  /-- An MDIO access (R329), in the layout of NET_MDIO_CMD. -/
  | mdio (cmd : Word)
  /-- A USB control answer: data, or none for a stall. -/
  | usbControl (answer : Option (List Byte))
  /-- Data on the USB IN endpoint. -/
  | usbIn (words : List Word)
  /-- NAK of OUT data (R343). -/
  | usbNak
  /-- Resume signalling (R344). -/
  | usbResume
  /-- A character on Un_TX. -/
  | uart (port : Nat) (char : BitVec 9)
  /-- The error signal of a CARD receiver (R367). -/
  | uartError (port : Nat)
  /-- Bytes of an I2C entry: its command and the bytes written. -/
  | i2c (ctl : Nat) (cmd : Word) (sent : List Byte)
  /-- A flash read command (R379). -/
  | flashRead (addr : Word)
  /-- Bytes on the trace port (R424). -/
  | trace (bytes : List Byte)
  /-- What a TAP register shifts out (R428). -/
  | tap (bits : List Bool)
  /-- An Adeder packet: its type and payload words (R400). -/
  | adeder (type : Nat) (words : List Word)
  /-- The digest sent to the partner at link-up (R398). -/
  | pairDigest (digest : Word)
  /-- The forwarder's pulse on SP_FRAME, from a boundary for an eighth of a frame (R399). -/
  | spFrame
  /-- A pulse on SP_HB, in quarter frames (R405). -/
  | heartbeat (quarters : Nat)
deriving DecidableEq, Repr

/-- Device state after reset (R22, R83). -/
def DevState.reset : DevState :=
  { phase := .off, boot := 0#3, xbFitted := false, xaGood := false, xbGood := false, coreLock := false, audLock := false,
    trfLock := false, aqLock := false, mediaLock := false, lockRun := 0, holdover := false, clamp := false, crystalLost := false,
    ppm := 0#32, rcause := 1#4, dormKind := false, dormEntry := none, wakeEn := 0#14, wakeSrc := 0#14, wakeSen := 0#32,
    rtcCmp := 0xFFFFFFFF#32, wakeHeld := false, waking := false, trfdiv := Bank.all 4 { div := 0#2, request := none },
    ftgMask := 0#3, forMask := 0#3, spoutMask := 0#3, tamperLow := false }

/-- Time after reset (R72, R75). -/
def TimeState.reset : TimeState :=
  { devTime := 0#64, frameIdx := 0#64, frameTime := 0#64, framesRun := false, aonCount := 0#64, timeLatch := Bank.all 8 0#64,
    frameLatch := Bank.all 8 0#64, ftimeLatch := Bank.all 8 0#64 }

/-- The fuses of an unprogrammed part (R97, DESIGN CHOICE, log entry 6). -/
def FuseState.reset : FuseState :=
  { lc := .make, keyHash := none, job := none, lastFailed := false, hashWords := Bank.all 8 0#32 }

/-- The spawn store after reset (R48, R59). -/
def SpawnState.reset : SpawnState :=
  { delivering := false, words := [], count := 0, phase := 0#2, slot := false, fromHost := false, sig := 0#2, err := 0#8,
    errOther := 0#8, errOfs := 0#32, errLoc := 0#32, build := 0#32, active := AppliedCfg.empty, pend := none,
    troughsDone := false, written := [], alt := none }

/-- A tenancy after reset (R54, R59, R103). -/
def TenancyState.reset : TenancyState :=
  { spawned := false, gen := 0#5, respawnErr := 0#8, drop := 0, denied := 0, respawn := none, halt := none, dropSeen := false,
    keptPools := [], keptRoutes := [] }

/-- The deny log after reset (R103). -/
def DenyLog.reset : DenyLog := { valid := false, ten := 0#3, write := false, bar2 := false, ofs := 0#32 }

/-- An MSI-X vector after reset (PRESUMED, log entry 8). -/
def MsixEntry.reset : MsixEntry := { addrLo := 0#32, addrHi := 0#32, data := 0#32, masked := true }

/-- A function after reset (R105, PRESUMED, log entry 8). -/
def PcieFn.reset : PcieFn :=
  { command := 0#16, bar0 := 0#32, bar2lo := 0#32, bar2hi := 0#32, msixEnable := false, msixMaskAll := false, power := 0#2,
    aerPoisoned := false, aerLink := false, table := Bank.all 64 MsixEntry.reset, pba := 0#64 }

/-- An xSPI chip select after reset: 1S and 8 dummy cycles (R109). -/
def Xspi.reset : Xspi := { octal := false, lat := 8#5, badCmd := false, late := false }

/-- The host links after reset. -/
def HostState.reset : HostState :=
  { linkUp := false, fns := Bank.all 8 PcieFn.reset, wcb := [], xspi := Bank.all 2 Xspi.reset }

/-- A well after reset (R129). -/
def Well.reset : Well :=
  { p := 0#16, c := 0#16, trig := 0#16, status := 0#5, lost := 0, lostIdx := none, lostBefore := 0, cmdErr := 0, part := [],
    pos := 0 }

/-- A quick port after reset (R128). -/
def QPort.reset : QPort :=
  { args := Bank.all 8 0#32, status := 0#8, handle := 0#32, abortStatus := 0#2, seq := 0#24, store := [], reflexDrop := 0,
    reflexRefused := 0, reflexQ := [], cmdLeft := 0, wellSet := [] }

/-- An event source after reset: masked (R430). -/
def Source.reset : Source :=
  { mask := true, pend := false, req := false, out := false, well := false, vector := 0#6, pin := 0#2 }

/-- The event sources after reset (R430). -/
def EvsState.reset : EvsState :=
  { src := Bank.all 1024 Source.reset, well := Bank.all 8 0#32, mode := Bank.all 4 false, pulse := Bank.all 4 false }

/-- Counters, trace and TAP after reset (R420, R424, R428): IDCODE is selected. -/
def ObsState.reset : ObsState :=
  { perf := Bank.all 8 (Bank.all 64 { sel := 0#32, cnt := 0#32, sat := false, shot := 0#32, shotSat := false }),
    allow := Bank.all 8 false, traceQ := [], fifo := [], sinceSync := 0, syncSent := false, lostRun := 0, lostCnt := 0,
    tapIr := 1#4, tapDr := [] }

/-- The machine: every piece of state the manual gives the KX848. -/
structure State where
  /-- The device state, clocks and pins. -/
  dev : DevState
  /-- Device time and the frame index. -/
  time : TimeState
  /-- The fuses, which no reset changes. -/
  fuses : FuseState
  /-- The spawn store and loader. -/
  spawn : SpawnState
  /-- The tenancies. -/
  ten : Bank TenancyState 8
  /-- The deny log. -/
  deny : DenyLog
  /-- The host links. -/
  host : HostState
  /-- The wells. -/
  wells : Bank Well 256
  /-- The quick ports. -/
  qports : Bank QPort 8
  /-- The long operations in flight, in order of acceptance. -/
  ops : List LongOp
  /-- The event front. -/
  front : FrontState
  /-- The Forager pools. -/
  pools : Bank Pool 32
  /-- The gills. -/
  gills : Bank Gill 48
  /-- The mycelium of each tenancy. -/
  myc : Bank MycTen 8
  /-- The Truffle engines. -/
  engines : Bank Engine 4
  /-- The cisterns, the aquifer and the L1 directory. -/
  mem : MemState
  /-- The aquifer controller. -/
  aq : AqState
  /-- The pumps. -/
  pumps : Bank Pump 32
  /-- The filter chain. -/
  filter : FilterState
  /-- The Spout and the output converters. -/
  spout : SpoutState
  /-- The serial audio ports. -/
  sap : Bank Sap 8
  /-- The network block. -/
  net : NetState
  /-- The USB device. -/
  usb : UsbState
  /-- The timer units. -/
  timers : Bank (Bank TimerChan 4) 24
  /-- The keybed scanner. -/
  keybed : KeybedState
  /-- The character ports. -/
  uarts : Bank UartState 8
  /-- The I2C controllers. -/
  i2c : Bank I2cState 2
  /-- The boot-flash controller. -/
  flash : FlashState
  /-- The Windlass. -/
  windlass : WindlassState
  /-- The supply watch. -/
  supply : SupplyState
  /-- The stage pair. -/
  pair : PairState
  /-- The event sources. -/
  evs : EvsState
  /-- Counters, trace and TAP. -/
  obs : ObsState
  /-- What has left the block, newest first (the model's own record, DESIGN CHOICE, log entry 4). -/
  outs : List Output
  /-- The counter that free values are applied to (the model's own, DESIGN CHOICE, log entry 5). -/
  free : Nat
  /-- The commands that wait, first in first out. -/
  pending : List Instr
deriving DecidableEq, Repr

/-- The machine right after reset: the state OFF (R22), with Table 6 of chapter 03 applied to everything. -/
def State.reset : State :=
  { dev := DevState.reset,
    time := TimeState.reset,
    fuses := FuseState.reset,
    spawn := SpawnState.reset,
    ten := Bank.all 8 TenancyState.reset,
    deny := DenyLog.reset,
    host := HostState.reset,
    wells := Bank.all 256 Well.reset,
    qports := Bank.all 8 QPort.reset,
    ops := [],
    front := FrontState.reset,
    pools := Bank.all 32 Pool.reset,
    gills := Bank.all 48 Gill.reset,
    myc := Bank.all 8 MycTen.reset,
    engines := Bank.all 4 Engine.reset,
    mem := MemState.reset,
    aq := AqState.reset,
    pumps := Bank.all 32 Pump.reset,
    filter := FilterState.reset,
    spout := SpoutState.reset,
    sap := Bank.all 8 Sap.reset,
    net := NetState.reset,
    usb := UsbState.reset,
    timers := Bank.all 24 (Bank.all 4 TimerChan.reset),
    keybed := KeybedState.reset,
    uarts := Bank.all 8 UartState.reset,
    i2c := Bank.all 2 I2cState.reset,
    flash := FlashState.reset,
    windlass := WindlassState.reset,
    supply := SupplyState.reset,
    pair := PairState.reset,
    evs := EvsState.reset,
    obs := ObsState.reset,
    outs := [],
    free := 0,
    pending := [] }

/-- The state with dev changed. -/
def State.modDev (s : State) (f : DevState → DevState) : State := { s with dev := f s.dev }

/-- The state with time changed. -/
def State.modTime (s : State) (f : TimeState → TimeState) : State := { s with time := f s.time }

/-- The state with fuses changed. -/
def State.modFuses (s : State) (f : FuseState → FuseState) : State := { s with fuses := f s.fuses }

/-- The state with spawn changed. -/
def State.modSpawn (s : State) (f : SpawnState → SpawnState) : State := { s with spawn := f s.spawn }

/-- The state with ten changed. -/
def State.modTen (s : State) (f : Bank TenancyState 8 → Bank TenancyState 8) : State := { s with ten := f s.ten }

/-- The state with deny changed. -/
def State.modDeny (s : State) (f : DenyLog → DenyLog) : State := { s with deny := f s.deny }

/-- The state with host changed. -/
def State.modHost (s : State) (f : HostState → HostState) : State := { s with host := f s.host }

/-- The state with wells changed. -/
def State.modWells (s : State) (f : Bank Well 256 → Bank Well 256) : State := { s with wells := f s.wells }

/-- The state with qports changed. -/
def State.modQports (s : State) (f : Bank QPort 8 → Bank QPort 8) : State := { s with qports := f s.qports }

/-- The state with ops changed. -/
def State.modOps (s : State) (f : List LongOp → List LongOp) : State := { s with ops := f s.ops }

/-- The state with front changed. -/
def State.modFront (s : State) (f : FrontState → FrontState) : State := { s with front := f s.front }

/-- The state with pools changed. -/
def State.modPools (s : State) (f : Bank Pool 32 → Bank Pool 32) : State := { s with pools := f s.pools }

/-- The state with gills changed. -/
def State.modGills (s : State) (f : Bank Gill 48 → Bank Gill 48) : State := { s with gills := f s.gills }

/-- The state with myc changed. -/
def State.modMyc (s : State) (f : Bank MycTen 8 → Bank MycTen 8) : State := { s with myc := f s.myc }

/-- The state with engines changed. -/
def State.modEngines (s : State) (f : Bank Engine 4 → Bank Engine 4) : State := { s with engines := f s.engines }

/-- The state with mem changed. -/
def State.modMem (s : State) (f : MemState → MemState) : State := { s with mem := f s.mem }

/-- The state with aq changed. -/
def State.modAq (s : State) (f : AqState → AqState) : State := { s with aq := f s.aq }

/-- The state with pumps changed. -/
def State.modPumps (s : State) (f : Bank Pump 32 → Bank Pump 32) : State := { s with pumps := f s.pumps }

/-- The state with filter changed. -/
def State.modFilter (s : State) (f : FilterState → FilterState) : State := { s with filter := f s.filter }

/-- The state with spout changed. -/
def State.modSpout (s : State) (f : SpoutState → SpoutState) : State := { s with spout := f s.spout }

/-- The state with sap changed. -/
def State.modSap (s : State) (f : Bank Sap 8 → Bank Sap 8) : State := { s with sap := f s.sap }

/-- The state with net changed. -/
def State.modNet (s : State) (f : NetState → NetState) : State := { s with net := f s.net }

/-- The state with usb changed. -/
def State.modUsb (s : State) (f : UsbState → UsbState) : State := { s with usb := f s.usb }

/-- The state with timers changed. -/
def State.modTimers (s : State) (f : Bank (Bank TimerChan 4) 24 → Bank (Bank TimerChan 4) 24) : State := { s with timers := f s.timers }

/-- The state with keybed changed. -/
def State.modKeybed (s : State) (f : KeybedState → KeybedState) : State := { s with keybed := f s.keybed }

/-- The state with uarts changed. -/
def State.modUarts (s : State) (f : Bank UartState 8 → Bank UartState 8) : State := { s with uarts := f s.uarts }

/-- The state with i2c changed. -/
def State.modI2c (s : State) (f : Bank I2cState 2 → Bank I2cState 2) : State := { s with i2c := f s.i2c }

/-- The state with flash changed. -/
def State.modFlash (s : State) (f : FlashState → FlashState) : State := { s with flash := f s.flash }

/-- The state with windlass changed. -/
def State.modWindlass (s : State) (f : WindlassState → WindlassState) : State := { s with windlass := f s.windlass }

/-- The state with supply changed. -/
def State.modSupply (s : State) (f : SupplyState → SupplyState) : State := { s with supply := f s.supply }

/-- The state with pair changed. -/
def State.modPair (s : State) (f : PairState → PairState) : State := { s with pair := f s.pair }

/-- The state with evs changed. -/
def State.modEvs (s : State) (f : EvsState → EvsState) : State := { s with evs := f s.evs }

/-- The state with obs changed. -/
def State.modObs (s : State) (f : ObsState → ObsState) : State := { s with obs := f s.obs }

/-- The state with outs changed. -/
def State.modOuts (s : State) (f : List Output → List Output) : State := { s with outs := f s.outs }

/-- The state with free changed. -/
def State.modFree (s : State) (f : Nat → Nat) : State := { s with free := f s.free }

end Sys2Proof.Machine
end

