-- ==== Sys2Proof/Machine/Own.lean ====
section
/-! DEFINITION. Who owns what (R84 to R88): the ownership that the applied configuration gives, and the lookups of its records. -/

namespace Sys2Proof.Machine

/-- The applied configuration. -/
abbrev State.cfg (s : State) : AppliedCfg := s.spawn.active

/-- The applied configuration of a tenancy. -/
def State.tcfg (s : State) (n : Nat) : TenancyCfg := s.spawn.active.ten.get n

/-- Whether tenancy n is in the TENANCIES mask. -/
def State.present (s : State) (n : Nat) : Bool := s.cfg.dev.present.testBit n

/-- The first tenancy for which p holds. -/
def firstTen (p : Nat → Bool) : Option Nat := (List.range 8).find? p

/-- Owner of a gill (R85). -/
def State.gillOwner (s : State) (g : Nat) : Option Nat := firstTen (fun n => (s.tcfg n).own.gills.testBit g)

/-- Owner of a pump. -/
def State.pumpOwner (s : State) (p : Nat) : Option Nat := firstTen (fun n => (s.tcfg n).own.pumps.testBit p)

/-- Owner of an engine. -/
def State.engineOwner (s : State) (e : Nat) : Option Nat := firstTen (fun n => (s.tcfg n).own.engines.testBit e)

/-- Owner of a cistern, which a handover can change (R103). -/
def State.cisOwner (s : State) (c : Nat) : Option Nat := (s.mem.banks.get c).owner

/-- Owner of a peripheral instance: class and index as OWN_PERIPH codes them. -/
def State.periphOwner (s : State) (cls i : Nat) : Option Nat :=
  firstTen (fun n => (s.tcfg n).own.periph.any (fun x => x.1 == cls && x.2 == i))

/-- OWN_PERIPH classes. -/
def pcUart : Nat := 1
def pcI2c : Nat := 2
def pcSap : Nat := 3
def pcTimer : Nat := 4
def pcFc : Nat := 5
def pcLga : Nat := 6
def pcLgc : Nat := 7
def pcKeybed : Nat := 8
def pcTalker : Nat := 9
def pcListener : Nat := 10
def pcBus : Nat := 11
def pcRoute : Nat := 12
def pcEvtOut : Nat := 13

/-- Owner of a well and its record (R85). -/
def State.wellRec (s : State) (w : Nat) : Option (Nat × WellRec) :=
  (List.range 8).findSome? (fun n => ((s.tcfg n).wells.find? (fun r => r.well == w)).map (fun r => (n, r)))

/-- Owner of a well. -/
def State.wellOwner (s : State) (w : Nat) : Option Nat := (s.wellRec w).map Prod.fst

/-- Owner of a pool and its record. -/
def State.poolRec (s : State) (p : Nat) : Option (Nat × PoolRec) :=
  (List.range 8).findSome? (fun n => ((s.tcfg n).forager.pools.find? (fun r => r.pool == p)).map (fun r => (n, r)))

/-- Owner of a pool. -/
def State.poolOwner (s : State) (p : Nat) : Option Nat := (s.poolRec p).map Prod.fst

/-- Owner of a pool, or the tenancy that had it when it was left unspawned and so still has its RWL fields (R54; log entry 106). -/
def State.poolOrKept (s : State) (p : Nat) : Option Nat :=
  match s.poolOwner p with
  | some n => some n
  | none => firstTen (fun n => !(s.ten.get n).spawned && (s.ten.get n).keptPools.contains p)

/-- Owner of an event route and its record. -/
def State.routeRec (s : State) (r : Nat) : Option (Nat × RouteRec) :=
  (List.range 8).findSome? (fun n => ((s.tcfg n).routes.find? (fun x => x.route == r)).map (fun x => (n, x)))

/-- Owner of a sealed key slot (R85). -/
def State.keyOwner (s : State) (k : Nat) : Option Nat :=
  firstTen (fun n => match (s.tcfg n).cisterns.sealedRec with
    | some r => decide (r.firstSlot ≤ k) && decide (k < r.firstSlot + r.slotCount)
    | none => false)

/-- Owner of an FC channel: FC00 to FC39 by their instance, FC40 to FC43 the steward (R91). -/
def State.fcOwner (s : State) (c : Nat) : Option Nat := if c < 40 then s.periphOwner pcFc c else some 0

/-- The structure record of a tenancy. -/
def TenancyCfg.struct (t : TenancyCfg) (id : Nat) : Option StructRec := t.structs.find? (fun r => r.id == id)

/-- The structure that a gill runs, with its tenancy. -/
def State.gillStruct (s : State) (g : Nat) : Option (Nat × StructRec) :=
  match s.gillOwner g with
  | none => none
  | some n => ((s.tcfg n).structs.find? (fun r => r.gills.testBit g)).map (fun r => (n, r))

/-- The pool that a gill belongs to. -/
def State.gillPool (s : State) (g : Nat) : Option (Nat × PoolRec) :=
  (List.range 8).findSome? (fun n => ((s.tcfg n).forager.pools.find? (fun r => r.gills.testBit g)).map (fun r => (n, r)))

/-- The gills of a mask in ascending number. -/
def gillsOf (mask : Nat) : List Nat := (List.range 48).filter (fun g => mask.testBit g)

/-- The lowest gill of a mask. -/
def lowestGill (mask : Nat) : Option Nat := (gillsOf mask).head?

/-- The structure of a pool: all its gills run the same one (R41). -/
def State.poolStruct (s : State) (r : PoolRec) : Option StructRec :=
  match lowestGill r.gills with
  | none => none
  | some g => (s.gillStruct g).map Prod.snd

/-- The configuration that the stage pair goes by: in LOADING the one in the pending bank, which starts a follower (R402), and otherwise the
applied one. -/
def State.pairCfg (s : State) : AppliedCfg :=
  match s.spawn.pend with
  | some c => if s.dev.phase == .loading then c else s.spawn.active
  | none => s.spawn.active

/-- The STAGE_PAIR role. -/
def State.role (s : State) : PairRole := s.pairCfg.dev.role

/-- Whether the device is one of a stage pair. -/
def State.inPair (s : State) : Bool := s.role == .primary || s.role == .standby

/-- Whether the ownership interlock lets the device drive its outputs (R406). -/
def State.drives (s : State) : Bool := !s.inPair || s.pair.own

/-- Whether tenancy n has a committed configuration (R54). -/
def State.spawned (s : State) (n : Nat) : Bool := (s.ten.get n).spawned

/-- The CPL well of a tenancy (R122): at most one (R41). -/
def State.cplWell (s : State) (n : Nat) : Option WellRec := (s.tcfg n).wells.find? (fun r => r.type == .cpl)

/-- Fs in Hz. -/
def State.fs (s : State) : Nat := fsHz s.cfg.dev.fs

/-- The STREAM record of a talker or listener, with its tenancy. -/
def State.streamRec (s : State) (listener : Bool) (i : Nat) : Option (Nat × StreamRec) :=
  (List.range 8).findSome? (fun n =>
    ((s.tcfg n).streams.find? (fun r => r.listener == listener && r.stream == i)).map (fun r => (n, r)))

/-- The UART record of a port, with its tenancy. -/
def State.uartRec (s : State) (p : Nat) : Option (Nat × UartRec) :=
  (List.range 8).findSome? (fun n => ((s.tcfg n).uarts.find? (fun r => r.port == p)).map (fun r => (n, r)))

/-- The I2C record of a controller, with its tenancy. -/
def State.i2cRec (s : State) (c : Nat) : Option (Nat × I2cRec) :=
  (List.range 8).findSome? (fun n => ((s.tcfg n).i2cs.find? (fun r => r.ctl == c)).map (fun r => (n, r)))

/-- The TIMER record of a channel, with its tenancy. -/
def State.timerRec (s : State) (u k : Nat) : Option (Nat × TimerRec) :=
  (List.range 8).findSome? (fun n =>
    ((s.tcfg n).timers.find? (fun r => r.unit == u && r.chan == k)).map (fun r => (n, r)))

/-- The KEYBED record, with its tenancy. -/
def State.keybedRec (s : State) : Option (Nat × KeybedRec) :=
  (List.range 8).findSome? (fun n => ((s.tcfg n).keybed).map (fun r => (n, r)))

/-- The CHANNEL record of an FC channel. -/
def State.channelRec (s : State) (c : Nat) : Option ChannelRec :=
  if c < 40 then (List.range 8).findSome? (fun n => (s.tcfg n).channels.find? (fun r => r.channel == c))
  else s.cfg.dev.channels.find? (fun r => r.channel == c)

/-- The LOAD_GROUP record of a load group: 0 to 3 are LGA0 to LGA3, 4 and 5 LGC0 and LGC1. -/
def State.groupRec (s : State) (g : Nat) : Option LoadGroupRec :=
  (List.range 8).findSome? (fun n => (s.tcfg n).spout.groups.find? (fun r => r.group == g))

/-- The strobe source of a CV load group: frame unless its record says otherwise (R317). -/
def State.strobeSrc (s : State) (h : Nat) : StrobeSrc :=
  match s.groupRec (4 + h) with
  | some r => match r.code with
    | 0 => .frame | 1 => .timer | 2 => .ldac | _ => .software
  | none => .frame

/-- Owner of a Spout destination load group. -/
def State.groupOwner (s : State) (g : Nat) : Option Nat :=
  if g < 4 then s.periphOwner pcLga g else s.periphOwner pcLgc (g - 4)

/-- The PORT record of a network port. -/
def State.portRec (s : State) (p : Nat) : Option NetPortRec := s.cfg.dev.ports.find? (fun r => r.port == p)

/-- The PUMP record of a pump. -/
def State.pumpRec (s : State) (p : Nat) : Option PumpRec :=
  match s.pumpOwner p with
  | none => none
  | some n => (s.tcfg n).pumps.find? (fun r => r.pump == p)

/-- The partition of tenancy n in the aquifer, in bytes: base and size (R88). -/
def State.partition (s : State) (n : Nat) : Nat × Nat :=
  let present := (List.range 8).filter (fun k => s.present k)
  let m := present.length
  if m = 0 ∨ !s.present n then (0, 0)
  else
    let p := 64 * (s.aq.cap / (64 * m))
    let k := (present.filter (fun x => decide (x < n))).length
    (k * p * 1048576, p * 1048576)

/-- The PKT wells that transmit on a port, in TXWELL order (R341). -/
def State.txWells (s : State) (p : Nat) : List Nat :=
  ((List.range 8).map (fun i => s.net.txWell.get (8 * p + i))).filterMap
    (fun r => if r.getLsbD 8 then some (bits r 7 0) else none)

/-- The port of the CRF talker, while it is enabled (R334). -/
def State.crfTalks (s : State) : Option Nat :=
  if s.net.crfCtl.getLsbD 0 then some (if s.net.crfCtl.getLsbD 2 then 1 else 0) else none

/-- Whether a well is a PKT well (R340). -/
def State.isPktWell (s : State) (w : Nat) : Bool :=
  match s.wellRec w with
  | some (_, r) => r.type == .pkt
  | none => false

/-- Whether a well is named in a TXWELL register. -/
def State.isTxWell (s : State) (w : Nat) : Bool := (s.txWells 0).contains w || (s.txWells 1).contains w

/-- Whether steering or the default rule can reach a well (R340). -/
def State.isSteered (s : State) (w : Nat) : Bool :=
  (s.net.steer.toList.any (fun r => r.getLsbD 31 && bits r 27 20 == w)) ||
    (s.net.defWell.getLsbD 8 && bits s.net.defWell 7 0 == w)

/-- Whether a BUS_IN record of the well's tenancy names the well (Table 7 of chapter 05). -/
def TenancyCfg.strmIn (t : TenancyCfg) (w : Nat) : Bool := t.spout.busIn.any (fun r => r.cls == 4 && r.index == w)

/-- Whether a BUS_OUT record of the well's tenancy names the well. -/
def TenancyCfg.strmOut (t : TenancyCfg) (w : Nat) : Bool := t.spout.busOut.any (fun r => r.cls == 4 && r.index == w)

/-- Whether the device produces a well (Table 7 of chapter 05). A PKT well that neither a transmit register nor packet steering names is
host-produced: DESIGN CHOICE, log entry 116. -/
def State.deviceProduced (s : State) (w : Nat) : Bool :=
  match s.wellRec w with
  | none => false
  | some (n, r) => match r.type with
    | .cmd => false
    | .cpl | .evt => true
    | .strm => (s.tcfg n).strmOut w
    | .pkt => s.isSteered w && !s.isTxWell w

/-- Owner of an event source; none is an unowned instance, whose source is held (R87, R416). -/
def State.sourceOwner (s : State) (i : Nat) : Option Nat :=
  if i < 384 then s.gillOwner (i / 8)
  else if i < 640 then s.wellOwner (i - 384)
  else if i < 672 then s.pumpOwner (i - 640)
  else if i < 768 then s.periphOwner pcTimer ((i - 672) / 4)
  else if i < 784 then s.periphOwner pcUart ((i - 768) / 2)
  else if i < 788 then s.periphOwner pcI2c ((i - 784) / 2)
  else if i < 832 then s.fcOwner (i - 788)
  else if i < 836 then s.periphOwner pcLga (i - 832)
  else if i < 838 then s.periphOwner pcLgc (i - 836)
  else if i < 846 then s.periphOwner pcSap (i - 838)
  else if i < 848 then none
  else if i < 864 then s.engineOwner ((i - 848) / 4)
  else if i < 888 then s.cisOwner (i - 864)
  else if i < 896 then some 0
  else if i < 912 then s.periphOwner pcListener (i - 896)
  else if i < 929 then some 0
  else if i < 936 then some (i - 928)
  else if i < 1008 then some 0
  else if i < 1016 then some (i - 1008)
  else if i = 1016 then s.periphOwner pcKeybed 0
  else some 0

/-- Sources that Table 1 of chapter 18 calls reserved (R414). -/
def sourceReserved (i : Nat) : Bool :=
  (decide (i < 384) && i % 8 == 6) || i == 846 || i == 847 || (decide (890 ≤ i) && decide (i ≤ 895)) ||
    (decide (921 ≤ i) && decide (i ≤ 927)) || (decide (1017 ≤ i) && decide (i ≤ 1023)) || decide (1023 < i)

end Sys2Proof.Machine
end

