-- ==== Sys2Proof/Machine/Flags.lean ====
section
/-! DEFINITION. The status registers as words, and the request level that each gives an event source (Table 1 of chapter 18). -/

namespace Sys2Proof.Machine

/-- CLOCK_STATUS (R83). -/
def DevState.clockStatus (d : DevState) : Word :=
  w32 (flag d.xaGood 0 + flag d.xbGood 1 + flag d.coreLock 2 + flag d.audLock 3 + flag d.trfLock 4 + flag d.aqLock 5 +
    flag d.mediaLock 6 + flag d.holdover 8 + flag d.clamp 9 + flag d.crystalLost 10)

/-- U_STATn: its flags and the fills of the two queues (R377). -/
def UartState.statWord (u : UartState) : Word := w32 (u.stat.toNat + fld u.rx.length 8 + fld u.tx.length 16)

/-- I2C_STATc: its flags and the commands queued (R378). -/
def I2cState.statWord (c : I2cState) : Word := w32 (c.stat.toNat + fld c.cmds.length 8)

/-- The words that a USB queue holds. -/
def UsbTx.fill (x : UsbTx) : Nat := (x.queue.map List.length).sum

/-- USB_TXSTATn: its flags and the fill (R347). -/
def UsbTx.statWord (x : UsbTx) : Word := w32 (x.stat.toNat + fld x.fill 8)

/-- The pool whose lowest gill is g (R152). -/
def State.lowestPool (s : State) (g : Nat) : Option Nat :=
  match s.gillPool g with
  | some (_, r) => if lowestGill r.gills == some g then some r.pool else none
  | none => none

/-- The status register that raises source i, with the bits of it that do (R414). Sources of one-shot pulses have none. -/
def State.sourceReg (s : State) (i : Nat) : Word × Nat :=
  if i < 384 then
    if i % 8 < 6 then (w32 (s.gills.get (i / 8)).status.toNat, 2 ^ (i % 8))
    else if i % 8 = 7 then match s.lowestPool (i / 8) with
      | some p => (w32 (s.pools.get p).status.toNat, 7)
      | none => (0#32, 0)
    else (0#32, 0)
  else if i < 640 then (w32 (s.wells.get (i - 384)).status.toNat, 31)
  else if i < 672 then (w32 (s.pumps.get (i - 640)).status.toNat, 3)
  else if i < 768 then (w32 ((s.timers.get ((i - 672) / 4)).get ((i - 672) % 4)).stat.toNat, 63)
  else if i < 784 then ((s.uarts.get ((i - 768) / 2)).statWord, if i % 2 = 0 then 39 else 88)
  else if i < 788 then ((s.i2c.get ((i - 784) / 2)).statWord, if i % 2 = 0 then 1 else 62)
  else if i < 832 then (w32 (s.filter.chans.get (i - 788)).status.toNat, 31)
  else if i < 836 then (w32 (s.spout.lga.get (i - 832)).status.toNat, 3)
  else if i < 838 then (w32 (s.spout.lgc.get (i - 836)).status.toNat, 15)
  else if i < 846 then (w32 (s.sap.get (i - 838)).status.toNat, 7)
  else if i < 848 then (0#32, 0)
  else if i < 864 then (w32 (s.engines.get ((i - 848) / 4)).status.toNat, 2 ^ ((i - 848) % 4))
  else if i < 888 then (w32 (s.mem.banks.get (i - 864)).status.toNat, 15)
  else if i < 896 then (0#32, 0)
  else if i < 912 then (w32 (s.net.listeners.get (i - 896)).stat.toNat, 31)
  else if i < 920 then (w32 (s.net.ports.get ((i - 912) / 4)).stat.toNat, 2 ^ ((i - 912) % 4))
  else if i = 920 then (w32 s.net.crfStat.toNat, 3)
  else if i < 928 then (0#32, 0)
  else if i = 928 then
    if s.usb.evt = 0#5 then ((s.usb.tx.get 0).statWord, 7) else (w32 s.usb.evt.toNat, 31)
  else if i < 936 then ((s.usb.tx.get (i - 928)).statWord, 7)
  else if i < 968 then (s.windlass.monStat, 2 ^ (i - 936))
  else if i < 974 then (w32 s.windlass.status.toNat, 2 ^ (i - 968))
  else if i < 984 then (w32 s.supply.status.toNat, 2 ^ (i - 974))
  else if i < 1000 then (w32 s.pair.status.toNat, 2 ^ (i - 984))
  else if i = 1016 then (w32 s.keybed.status.toNat, 3)
  else (0#32, 0)

/-- The request level of a source that follows a status register (R415). -/
def State.sourceLevel (s : State) (i : Nat) : Bool :=
  let r := s.sourceReg i
  r.1.toNat &&& r.2 != 0

end Sys2Proof.Machine
end

