-- ==== Sys2Proof/Machine/Ops.lean ====
section
/-! DEFINITION. The named operations that the commands share: what leaves the block, counters, trace, wells, event sources,
denied and rejected accesses, cistern memory. -/

namespace Sys2Proof.Machine

/-! ### Outputs, counters and trace -/

/-- Something leaves the block. -/
def State.emit (s : State) (o : Output) : State := s.modOuts (fun l => o :: l)

/-- Device time. -/
abbrev State.now (s : State) : DWord := s.time.devTime

/-- A performance counter with k added; it saturates with SAT (R420). -/
def PerfCtr.add (c : PerfCtr) (k : Nat) : PerfCtr :=
  if 4294967295 < c.cnt.toNat + k then { c with cnt := 0xFFFFFFFF#32, sat := true }
  else { c with cnt := w32 (c.cnt.toNat + k) }

/-- k count events of a code and instance for tenancy n (R420). -/
def State.count (s : State) (n code inst k : Nat) : State :=
  s.modObs (fun o => { o with perf := o.perf.upd n (fun b => b.mapi (fun _ c =>
    if c.sel.getLsbD 31 && bits c.sel 7 0 == code && bits c.sel 15 8 == inst then c.add k else c)) })

/-- Whether an occurrence is sent before another of the same PER cycle: by class, then by source, pool or handle (R425). -/
def TraceItem.before (x y : TraceItem) : Bool :=
  x.at_ == y.at_ && (decide (x.cls < y.cls) || (x.cls == y.cls && decide (x.source < y.source)))

/-- An occurrence in its place among those that wait, which stand in order of time (R425). -/
def TraceItem.enter (x : TraceItem) (q : List TraceItem) : List TraceItem :=
  q.takeWhile (fun y => !x.before y) ++ x :: q.dropWhile (fun y => !x.before y)

/-- An occurrence for the trace port (R424); it waits for TRACE_PACKET_EMIT while the port is enabled. -/
def State.trace (s : State) (cls : Nat) (ten : Option Nat) (source : Nat) (words : List Word) : State :=
  if s.cfg.dev.traceOn then
    let x : TraceItem := { at_ := s.now, cls := cls, ten := ten, source := source, words := words }
    s.modObs (fun o => { o with traceQ := x.enter o.traceQ })
  else s

/-! ### Wells (R117 to R119) -/

/-- The entries in a well. -/
def Well.fill (w : Well) : Nat := (w.p.toNat + 65536 - w.c.toNat) % 65536

/-- The capacity of a well with ring exponent k (R117). -/
def wellCapacity (k : Nat) : Nat := if k = 16 then 65535 else 2 ^ k

/-- The BAR2 address of entry i (R117). -/
def WellRec.entryAt (r : WellRec) (i : Nat) : Nat := r.ring + i % 2 ^ r.k * 64

/-- The well with THRESH set when its fill has reached the trigger (R129). -/
def Well.thresh (w : Well) : Well :=
  if w.trig ≠ 0#16 ∧ w.trig.toNat ≤ w.fill then { w with status := w.status ||| 1#5 } else w

/-- The well with k records lost (R119). -/
def Well.drop (w : Well) : Well := { w with lost := errCount w.lost 1, lostBefore := min 65535 (w.lostBefore + 1) }

/-- The well with its producer index moved by n entries, the first of which carries the lost-before count. -/
def Well.produced (w : Well) (n : Nat) : Well :=
  let gap := w.lostBefore != 0
  { w with p := w.p + BitVec.ofNat 16 n, lostBefore := 0,
           status := if gap then w.status ||| 2#5 else w.status,
           lostIdx := if gap then some (w.lostIdx.getD w.p) else w.lostIdx }.thresh

/-- The well with its consumer index moved by one entry. -/
def Well.consumed (w : Well) : Well := { w with c := w.c + 1#16 }

/-! ### Cistern memory (R256, R278, R279) -/

/-- The size of a cistern. -/
def cisBytes : Nat := 2097152

/-- The BAR2 range that maps cisterns. -/
def cisSpace : Nat := 24 * cisBytes

/-- Whether n bytes at BAR2 offset x lie wholly inside cisterns of tenancy t. -/
def State.ownsRange (s : State) (t x n : Nat) : Bool :=
  decide (x + n ≤ cisSpace) &&
    (List.range 24).all (fun c => decide (c * cisBytes + cisBytes ≤ x) || decide (x + n ≤ c * cisBytes) ||
      s.cisOwner c == some t)

/-- Whether the MIRROR region of some tenancy holds byte x (R278). -/
def State.mirrored (s : State) (x : Nat) : Bool :=
  (List.range 8).any (fun n => (s.tcfg n).cisterns.regions.any (fun r =>
    r.mirror && decide (r.cistern * cisBytes + r.offset ≤ x) && decide (x < r.cistern * cisBytes + r.offset + r.length)))

/-- The lines that n bytes at x touch. -/
def linesOf (x n : Nat) : List Nat := if n = 0 then [] else (List.range ((x + n - 1) / 64 + 1 - x / 64)).map (· + x / 64)

/-- The pair marked unsynchronised with a cause of Table 3 of chapter 17 (R404); the event source is the caller's. -/
def State.unsynced (s : State) (cause : Nat) : State :=
  if s.role == .single || s.role == .referee then s
  else s.modPair (fun p => { p with
    synced := false, cause := BitVec.ofNat 4 cause, syncedOnce := false, status := if p.synced then p.status ||| 256#16 else p.status })

/-- A line into the mirror queue; one that finds it full sets MIRROR_LOST and leaves the pair unsynchronised (R278). -/
def State.queueMirror (s : State) (line : Nat) : State :=
  if s.mem.mirrorQ.length < 256 then
    s.modMem (fun m => { m with mirrorQ := m.mirrorQ ++ [(line * 64, m.cis.getBytes (line * 64) 64)] })
  else
    (s.modMem (fun m => { m with banks := m.banks.upd (line * 64 / cisBytes) (fun b => { b with status := b.status ||| 4#4 }) })).unsynced 3

/-- The lines of a MIRROR region among those that n bytes at x touch queued, on a primary. -/
def State.mirrorWrites (s : State) (ls : List Nat) : State :=
  if s.role == .primary then ls.foldl (fun s l => if s.mirrored (l * 64) then s.queueMirror l else s) s else s

/-- Bytes written to cistern memory, with the ECC of fully written 64-bit lanes made good, a scrub write-back of a written word
cancelled (R257), and lines of a MIRROR region queued on a primary (R278). -/
def State.cisStore (s : State) (x : Nat) (bs : List Byte) : State :=
  let n := bs.length
  (s.modMem (fun m => { m with
    cis := m.cis.putBytes x bs,
    cisEcc := m.cisEcc.filter (fun e => !(decide (x ≤ e.1 * 8) && decide (e.1 * 8 + 8 ≤ x + n))),
    banks := m.banks.mapi (fun c b =>
      let w := c * cisBytes + b.scrubPos * 32
      if b.writeBack && decide (x < w + 32) && decide (w < x + n) then { b with writeBack := false } else b) })).mirrorWrites (linesOf x n)

/-- The marked 64-bit words among n bytes at x, in the order of the list. -/
def eccHits (marks : List (Nat × Bool)) (x n : Nat) : List (Nat × Bool) :=
  marks.filter (fun e => decide (e.1 * 8 < x + n) && decide (x < e.1 * 8 + 8))

/-- The worst ECC mark on n bytes at x of a list of marked 64-bit words (R279). -/
def eccView (marks : List (Nat × Bool)) (x n : Nat) : EccView :=
  let hit := eccHits marks x n
  if hit.any Prod.snd then .uncorrectable else if hit.isEmpty then .clean else .corrected

/-- One access on the owner port of cistern c, which counts (count event 0x0B). -/
def State.portAccess (s : State) (c : Nat) : State :=
  match s.cisOwner c with
  | some n => s.count n 11 c 1
  | none => s

/-- A cistern with one 64-bit lane found in error: it is counted, and an uncorrectable one logged by its word and lane (R279, R280). Of
several in one access the last stands in the log (log entry 114). -/
def Cistern.laneError (b : Cistern) (e : Nat × Bool) (scrub : Bool) : Cistern :=
  if e.2 then
    { b with uecc := errCount b.uecc 1, status := b.status ||| 1#4,
             elog := w32 (e.1 % (cisBytes / 8) / 4 + fld (e.1 % 4) 16 + flag scrub 28 + flag true 31) }
  else { b with cecc := errCount b.cecc 1, status := b.status ||| 2#4 }

/-- The counts and the log of a cistern read, lane by lane (R279). scrub says that scrub found it; any other read uses the owner port. -/
def State.noteEcc (s0 : State) (x n : Nat) (scrub : Bool) : State :=
  let s := if scrub then s0 else s0.portAccess (x / cisBytes)
  s.modMem (fun m => { m with banks :=
    (eccHits m.cisEcc x n).foldl (fun b e => b.upd (e.1 * 8 / cisBytes) (fun c => c.laneError e scrub)) m.banks })

/-- The cisterns that n bytes at x touch. -/
def cisOf (x n : Nat) : List Nat :=
  (List.range 24).filter (fun c => decide (c * cisBytes < x + n) && decide (x < c * cisBytes + cisBytes))

/-! ### Event sources (R415 to R419) -/

/-- Whether a vector of function n may send its message: Bus Master Enable, MSI-X Enable, unmasked, and the link up (R107, R127). -/
def State.msixOpen (s : State) (n v : Nat) : Bool :=
  let f := s.host.fns.get n
  s.host.linkUp && f.command.getLsbD 2 && f.msixEnable && !f.msixMaskAll && !(f.table.get v).masked

/-- The message of a vector of function n. -/
def State.msixSend (s : State) (n v : Nat) : State :=
  let e := (s.host.fns.get n).table.get v
  s.emit (.msix n e.addrLo e.addrHi e.data)

/-- A vector of function n fires: its message, or its PBA bit while it may not be sent (R107). -/
def State.msixFire (s : State) (n v : Nat) : State :=
  if s.msixOpen n v then s.msixSend n v
  else s.modHost (fun h => { h with fns := h.fns.upd n (fun f => { f with pba := f.pba ||| BitVec.ofNat 64 (2 ^ v) }) })

/-- The tenancy that holds EVT_OUT pin p. -/
def State.pinHolder (s : State) (p : Nat) : Option Nat := s.periphOwner pcEvtOut p

/-- A rise on an EVT_OUT pin: in pulse mode it starts a pulse (R418). -/
def State.pinRise (s : State) (p : Nat) : State :=
  if s.evs.mode.get p then s.modEvs (fun e => { e with pulse := e.pulse.put p true }) else s

/-- An EVT record of 64 bytes: type, lost-before count, device time and payload words (Table 9 of chapter 05). -/
def evtRecord (type lost : Nat) (time : DWord) (payload : List Word) : List Byte :=
  let ws := [w32 (type + fld lost 16), 0#32, lo32 time, hi32 time] ++ payload
  wordsBytes ((ws ++ List.replicate 16 0#32).take 16)

/-- An EVT record stored in an EVT well, or dropped (R119). The well's source is settled by the caller. -/
def State.evtStore (s : State) (w : Nat) (type : Nat) (payload : List Word) : State :=
  match s.wellRec w with
  | none => s
  | some (n, r) =>
    let x := s.wells.get w
    if wellCapacity r.k ≤ x.fill then s.modWells (fun b => b.put w x.drop)
    else
      ((s.cisStore (r.entryAt x.p.toNat) (evtRecord type x.lostBefore s.now payload)).modWells
        (fun b => b.put w (x.produced 1))).count n 12 w 1

/-- The sources that a record in well w can raise: the well's, and by a full mirror queue that of its cistern and of the pair (R278). -/
def State.evtSources (s : State) (w : Nat) : List Nat :=
  match s.wellRec w with
  | none => [384 + w]
  | some (_, r) => [384 + w, 864 + r.ring / cisBytes, 992]

/-- The EVT well that takes tenancy n's SOURCE records, if it is enabled and an EVT well of n (R419). -/
def State.sourceWell (s : State) (n : Nat) : Option Nat :=
  let r := s.evs.well.get n
  if r.getLsbD 8 then
    match s.wellRec (bits r 7 0) with
    | some (m, x) => if m == n && x.type == .evt then some (bits r 7 0) else none
    | none => none
  else none

/-- Delivery of one rise of "asserted" of source i to what OUT selects, with its trace packet (R416 to R418, R424). A pin that the owner does
not hold is not its to raise (R87). -/
def State.deliverOut (s : State) (i : Nat) (detail : Word) : State :=
  match s.sourceOwner i with
  | none => s
  | some n =>
    let c := s.evs.src.get i
    let s1 := s.trace 1 (some n) i [lo32 s.now, w32 i, detail]
    if c.out then (if s.pinHolder c.pin.toNat == some n then s1.pinRise c.pin.toNat else s1) else s1.msixFire n c.vector.toNat

/-- The word of source i with PEND set. -/
def State.setPend (s : State) (i : Nat) (req : Bool) : State :=
  s.modEvs (fun e => { e with src := e.src.upd i (fun c => { c with pend := true, req := req }) })

/-- A rise of the request of source i (R415, R416, R419): PEND, and delivery when it makes the source asserted. The fuel bounds the
wells whose own sources a SOURCE record can raise in turn. -/
def State.rise : Nat → State → Nat → Bool → Word → State
  | 0, s, i, req, _ => s.setPend i req
  | k + 1, s, i, req, detail =>
    let c := s.evs.src.get i
    let s1 := s.setPend i req
    if sourceReserved i || c.pend || c.mask || (s.sourceOwner i).isNone then s1
    else
      let s2 := s1.deliverOut i detail
      if c.well then
        match (s.sourceOwner i).bind s.sourceWell with
        | none => s2
        | some w =>
          (s2.evtSources w).foldl (fun s j =>
            if s.sourceLevel j && !(s.evs.src.get j).req then State.rise k s j true (s.sourceReg j).1 else s)
            (s2.evtStore w 2 [w32 i, detail])
      else s2

/-- The fuel of rise: the source of each well, of each cistern and of the pair can rise once. -/
def settleFuel : Nat := 282

/-- Source i brought up to date with its status register: a rise sets PEND and is delivered, a fall only drops REQ (R415). -/
def State.settle (s : State) (i : Nat) : State :=
  if s.sourceLevel i then
    if (s.evs.src.get i).req then s else s.rise settleFuel i true (s.sourceReg i).1
  else if (s.evs.src.get i).req then
    s.modEvs (fun e => { e with src := e.src.upd i (fun c => { c with req := false }) })
  else s

/-- Several sources brought up to date in ascending order. -/
def State.settleAll (s : State) (is : List Nat) : State := is.foldl State.settle s

/-- A one-shot source raised (R414). -/
def State.pulse (s : State) (i : Nat) (detail : Word) : State := s.rise settleFuel i false detail

/-- What an unmasking of a pending source does (R416). -/
def State.unmasked (s : State) (i : Nat) : State :=
  let c := s.evs.src.get i
  if c.pend && !c.mask then
    let s0 := s.modEvs (fun e => { e with src := e.src.upd i (fun c => { c with pend := false }) })
    s0.rise settleFuel i c.req (s.sourceReg i).1
  else s

/-- A W1C clear of a pending bit: a request still 1 sets it again as a new rise (R415). -/
def State.clearPend (s : State) (i : Nat) : State :=
  let c := s.evs.src.get i
  if c.pend then
    let s0 := s.modEvs (fun e => { e with src := e.src.upd i (fun c => { c with pend := false }) })
    if c.req then s0.rise settleFuel i true (s.sourceReg i).1 else s0
  else s

/-- An EVT record posted to a well, with the sources it can raise. -/
def State.postEvt (s : State) (w type : Nat) (payload : List Word) : State := (s.evtStore w type payload).settleAll (s.evtSources w)

/-! ### Refused accesses (R6, R8, R92) -/

/-- ES1004, the rejected register write at a BAR0 offset (R8). -/
def State.regRejected (s : State) (ofs : Nat) : State := s.pulse 1004 (w32 ofs)

/-- A denied access of tenancy t (R92). -/
def State.denied (s : State) (t ofs : Nat) (write bar2 : Bool) : State :=
  let s1 := s.modTen (fun b => b.upd t (fun x => { x with denied := errCount x.denied 1 }))
  let s2 := if s1.deny.valid then s1
    else s1.modDeny (fun _ => { valid := true, ten := BitVec.ofNat 3 t, write := write, bar2 := bar2, ofs := w32 ofs })
  s2.pulse 1003 (w32 ofs)

/-- ES1003 for a steward-only action of another tenancy (R84). -/
def State.stewardOnly (s : State) (ofs : Nat) : State := s.pulse 1003 (w32 ofs)

/-- ES1005; the cause shows in CLOCK_STATUS (R68, R82), and its detail is 0 (R419). -/
def State.clockFault (s : State) : State := s.pulse 1005 0#32

/-! ### Device states -/

/-- Whether frames run (R20). -/
def DevPhase.frames : DevPhase → Bool
  | .running => true
  | _ => false

/-- Whether the event front, wells and quick ports of an applied configuration are served (Table 6 of chapter 01). -/
def DevPhase.hosted : DevPhase → Bool
  | .running | .parked => true
  | _ => false

/-- A bit of WL_STATUS set, with its source. -/
def State.windlassFlag (s : State) (b : Nat) : State :=
  (s.modWindlass (fun w => { w with status := w.status ||| BitVec.ofNat 6 (2 ^ b) })).settle (968 + b)

/-- A bit of SUP_STATUS set, with its source. -/
def State.supplyFlag (s : State) (b : Nat) : State :=
  (s.modSupply (fun w => { w with status := w.status ||| BitVec.ofNat 10 (2 ^ b) })).settle (974 + b)

/-- A bit of PAIR_STATUS set, with its source (R412). -/
def State.pairFlag (s : State) (b : Nat) : State :=
  (s.modPair (fun w => { w with status := w.status ||| BitVec.ofNat 16 (2 ^ b) })).settle (984 + b)

/-- The pair loses its synchronisation with a cause of Table 3 of chapter 17, and its source rises (R404). -/
def State.unsync (s : State) (cause : Nat) : State :=
  let s1 := s.unsynced cause
  if s.pair.synced && !s1.pair.synced then s1.settle 992 else s1

/-- The sources of the cisterns that n bytes at x touch brought up to date. -/
def State.settleCis (s : State) (x n : Nat) : State := s.settleAll ((cisOf x n).map (864 + ·))

/-- A write to cistern memory by the device or a host, with what a full mirror queue raises (R278). -/
def State.cisWrite (s : State) (x : Nat) (bs : List Byte) : State :=
  let s1 := (s.cisStore x bs).portAccess (x / cisBytes)
  if s.role == .primary then (s1.settleCis x bs.length).settle 992 else s1

end Sys2Proof.Machine
end

