-- ==== Sys2Proof/Machine/Quick.lean ====
section
/-! DEFINITION. Quick ports, handles, completions and permits (R121 to R126, R381 to R384): what every long operation shares. -/

namespace Sys2Proof.Machine

/-! ### Codes -/

/-- Opcodes of Table 12 of chapter 05. -/
def LongCode.opcode : LongCode → Nat
  | .spawnTenancy => 1 | .cisternHandover => 2 | .cisternWipe => 3 | .pumpBulk => 4 | .sampleLoad => 5 | .calibrate => 6
  | .aquiferTrain => 7 | .truffleJob => 8 | .sealKeyInstall => 9 | .checkpoint => 10 | .pairSync => 11 | .powerPark => 12

/-- The operation of an opcode; none is a reserved one. -/
def LongCode.ofOpcode (n : Nat) : Option LongCode :=
  [LongCode.spawnTenancy, .cisternHandover, .cisternWipe, .pumpBulk, .sampleLoad, .calibrate, .aquiferTrain, .truffleJob,
    .sealKeyInstall, .checkpoint, .pairSync, .powerPark].find? (fun c => c.opcode == n)

/-- Operations that only the steward may submit (Table 12 of chapter 05). -/
def LongCode.steward : LongCode → Bool
  | .cisternHandover | .aquiferTrain | .pairSync | .powerPark => true
  | _ => false

/-- Quick port answers (Table 11 of chapter 05). -/
def qpAccepted : Byte := 0#8
def qpBusy : Byte := 1#8
def qpBusyCpl : Byte := 2#8
def qpLimit : Byte := 3#8
def qpBadOpcode : Byte := 4#8
def qpNotSpawned : Byte := 5#8
def qpDenied : Byte := 6#8

/-- Completion statuses (Table 13 of chapter 05). -/
def csDone : BitVec 16 := 0#16
def csAborted : BitVec 16 := 1#16
def csNoPermit : BitVec 16 := 2#16
def csBusy : BitVec 16 := 3#16
def csBadArg : BitVec 16 := 4#16
def csNotOwned : BitVec 16 := 5#16
def csFault : BitVec 16 := 6#16
def csEcc : BitVec 16 := 7#16
def csDisturbed : BitVec 16 := 0x10#16
def csImplausible : BitVec 16 := 0x11#16
def csLoaded : BitVec 16 := 0x12#16
def csJobTrap : BitVec 16 := 0x20#16

/-- The completion status of a spawn error code. -/
def csSpawn (e : Nat) : BitVec 16 := BitVec.ofNat 16 (0x100 + e)

/-! ### Operations in flight -/

/-- The operation with a handle. -/
def State.findOp (s : State) (h : Word) : Option LongOp := s.ops.find? (fun o => o.handle == h)

/-- The operation with a handle changed. -/
def State.updOp (s : State) (h : Word) (f : LongOp → LongOp) : State :=
  s.modOps (fun l => l.map (fun o => if o.handle == h then f o else o))

/-- The operation with a handle removed. -/
def State.dropOp (s : State) (h : Word) : State := s.modOps (fun l => l.filter (fun o => o.handle != h))

/-- The operations of a tenancy in flight (R123). -/
def State.opsOf (s : State) (n : Nat) : List LongOp := s.ops.filter (fun o => o.ten == n)

/-- The next rank for a permit request or grant: above every rank in use. -/
def State.nextOrder (s : State) : Nat := s.ops.foldl (fun m o => max m o.order) 0 + 1

/-- A long operation's QPORT trace packet: kind 0 is a submission, 1 a completion, 2 an abort (Table 4 of chapter 18). -/
def State.traceQport (s : State) (n : Nat) (h : Word) (code kind status : Nat) : State :=
  s.trace 5 (some n) h.toNat [lo32 s.now, h, w32 (code + fld kind 8 + fld status 16)]

/-- A PERMIT trace packet: kind 0 request, 1 grant, 2 revoke, 3 release, 4 NO_PERMIT. -/
def State.tracePermit (s : State) (n kind du : Nat) : State :=
  s.trace 6 (some n) 0 [lo32 s.now, w32 (n + fld kind 8 + fld du 16)]

/-! ### Permits (R381 to R384) -/

/-- Draw units held by the granted permits. -/
def State.duHeld (s : State) : Nat := ((s.ops.filter (fun o => o.permit == .granted)).map LongOp.cost).sum

/-- Draw units held by one tenancy. -/
def State.duHeldBy (s : State) (n : Nat) : Nat :=
  (((s.opsOf n).filter (fun o => o.permit == .granted)).map LongOp.cost).sum

/-- The microseconds a request has waited, counted for its tenancy (count event 0x0F). -/
def State.countWait (s : State) (o : LongOp) : State := s.count o.ten 15 0 ((s.now.toNat - o.requestAt.toNat) / 100)

/-- The permit of an operation released, if it holds one (R383). -/
def State.releasePermit (s : State) (h : Word) : State :=
  match s.findOp h with
  | none => s
  | some o =>
    if o.permit == .granted then (s.updOp h (fun o => { o with permit := .notNeeded })).tracePermit o.ten 3 o.cost
    else s.updOp h (fun o => { o with permit := .notNeeded })

/-- An operation ends: its completion waits for COMPLETION_POST, and its permit is released (R126, R383). -/
def State.finishOp (s : State) (h : Word) (status : BitVec 16) (res : List Word) : State :=
  (s.releasePermit h).updOp h (fun o =>
    if o.done.isSome then o
    else { o with done := some { handle := h, status := status, opcode := BitVec.ofNat 8 o.code.opcode, done := s.now,
                                 submitted := o.submitted, res := res } })

/-- A SPAWN_TENANCY that never got its permit: its target is as if it had not been named (Table 10 of chapter 02). -/
def State.respawnNever (s : State) (o : LongOp) : State :=
  if o.code == .spawnTenancy then
    s.modTen (fun b => b.upd (o.args.get 0).toNat (fun x =>
      { x with respawn := x.respawn.filter (fun r => r.handle != o.handle || r.phase != .waitPermit) }))
  else s

/-- A NO_PERMIT completion (R383). -/
def State.noPermit (s : State) (o : LongOp) : State :=
  let s1 := ((s.respawnNever o).countWait o).finishOp o.handle csNoPermit []
  let s2 := s1.modWindlass (fun w => { w with noPermit := w.noPermit.upd o.ten (fun k => errCount k 1) })
  (s2.tracePermit o.ten 4 o.cost).windlassFlag 5

/-- The budget that permits can ever reach: budget - Q (R383). -/
def State.permitCeiling (s : State) : Nat := s.cfg.dev.budget - s.windlass.reserve

/-- An operation becomes a request for its permit, or completes NO_PERMIT at once (R382, R383). -/
def State.requestPermit (s : State) (h : Word) : State :=
  match s.findOp h with
  | none => s
  | some o =>
    let o1 := { o with permit := .waiting, order := s.nextOrder, requestAt := s.now }
    let s1 := (s.updOp h (fun _ => o1)).tracePermit o.ten 0 o.cost
    if s.permitCeiling < o.cost then s1.noPermit o1 else s1

/-- The rank of a request in its queue: revoked ones first, by their original grant (R384). -/
def LongOp.ahead (a b : LongOp) : Bool :=
  if a.everGranted != b.everGranted then a.everGranted else decide (a.order < b.order)

/-- The permit class of an operation's tenancy (R382). -/
def State.permitClass (s : State) (o : LongOp) : Nat := (s.tcfg o.ten).own.permitClass

/-- The one request that the Windlass considers (R382). -/
def State.considered (s : State) : Option LongOp :=
  (s.ops.filter (fun o => o.permit == .waiting)).foldl (fun best o =>
    match best with
    | none => some o
    | some b =>
      if s.permitClass o < s.permitClass b ∨ (s.permitClass o = s.permitClass b ∧ o.ahead b) then some o else some b) none

/-- Whether a request may be granted now (R382). -/
def State.mayGrant (s : State) (o : LongOp) : Bool :=
  decide (o.cost + s.duHeld ≤ s.windlass.pool) && decide (s.supply.level = 0) &&
    !(o.code == .truffleJob && s.windlass.warn) &&
    !(o.code == .spawnTenancy && s.ops.any (fun x => x.code == .spawnTenancy && x.permit == .granted))

/-- The engine that runs a job pauses it, at the next instruction boundary (R232). -/
def Engine.pause (e : Engine) (h : Word) : Engine :=
  if e.jobHandle == some h then { e with jobPaused := true, run := if e.run == .job then .idle else e.run } else e

/-- The permits for which p holds are revoked (R384): each goes back into its class queue, and a running job pauses. -/
def State.revokePermits (s : State) (p : LongOp → Bool) : State :=
  let hit := s.ops.filter (fun o => o.permit == .granted && p o)
  if hit.isEmpty then s
  else
    let s1 := s.modOps (fun l => l.map (fun o =>
      if o.permit == .granted && p o then
        { o with permit := if o.committed then .notNeeded else .waiting, requestAt := s.now }
      else o))
    let s2 := s1.modEngines (fun b => b.mapi (fun _ e => hit.foldl (fun e o => e.pause o.handle) e))
    (hit.foldl (fun s o => s.tracePermit o.ten 2 o.cost) s2).windlassFlag 4

/-- Whether an operation may go on: it needs no permit, or holds it, or is past its commit point (R384). -/
def LongOp.mayRun (o : LongOp) : Bool :=
  o.done.isNone && (o.committed || o.permit == .notNeeded || o.permit == .granted)

/-! ### Submission (R121 to R123) -/

/-- The handle of tenancy n's next submission (R123). -/
def State.nextHandle (s : State) (n : Nat) : Word :=
  w32 ((s.qports.get n).seq.toNat + fld (s.ten.get n).gen.toNat 24 + fld n 29)

/-- Free entries of the CPL well of tenancy n; 0 without one (R122). -/
def State.cplFree (s : State) (n : Nat) : Nat :=
  match s.cplWell n with
  | none => 0
  | some r => wellCapacity r.k - (s.wells.get r.well).fill

/-- Whether R57 or R96 refuses a submission. -/
def State.qpBlocked (s : State) (n : Nat) (code : LongCode) (arg0 : Word) : Bool :=
  let respawning (k : Nat) : Bool := match (s.ten.get k).respawn with
    | some r => r.phase != .waitPermit
    | none => false
  respawning n || (code == .spawnTenancy && decide (arg0.toNat < 8) &&
    ((s.ten.get arg0.toNat).respawn.isSome || (s.ten.get arg0.toNat).halt.isSome))

/-- The answer of the quick port of tenancy n to an opcode with arguments (R121, R122, Table 11). An unspawned tenancy gets NOT_SPAWNED for
every opcode but SPAWN_TENANCY (R96). DESIGN CHOICE: of several other causes the answer is the first in the order BAD_OPCODE, DENIED, BUSY,
LIMIT, BUSY_CPL; the manual gives none (log entry 109). -/
def State.qpAnswer (s : State) (n : Nat) (op : Nat) (arg0 : Word) : Byte :=
  if !s.spawned n && LongCode.ofOpcode op != some .spawnTenancy then qpNotSpawned
  else match LongCode.ofOpcode op with
  | none => qpBadOpcode
  | some c =>
    if c.steward ∧ n ≠ 0 then qpDenied
    else if s.qpBlocked n c arg0 then qpBusy
    else if 4096 ≤ (s.opsOf n).length then qpLimit
    else if s.cplFree n + 64 ≤ (s.opsOf n).length + (s.qports.get n).store.length then qpBusyCpl
    else qpAccepted

/-- A new operation of tenancy n with its arguments (R121). -/
def State.newOp (s : State) (n : Nat) (c : LongCode) (args : Bank Word 8) (cost : Nat) : LongOp :=
  { handle := s.nextHandle n, ten := n, code := c, args := args, submitted := s.now, cost := cost, permit := .notNeeded,
    order := s.nextOrder, requestAt := s.now, everGranted := false, started := false, committed := false, progress := 0,
    value := 0#32, retries := 0, done := none }

/-- How a submission arrives: by a write of QP_OP, or from a fired reflex rule (R113). -/
inductive SubmitVia where
  | port | reflex
deriving DecidableEq, Repr

/-- An accepted operation enters flight: the sequence advances, and for a write of QP_OP the answer and the handle stand in the
quick port (R121, R123). -/
def State.accept (s : State) (o : LongOp) (via : SubmitVia) : State :=
  let s1 := s.modQports (fun b => b.upd o.ten (fun q =>
    if via = .port then { q with seq := q.seq + 1#24, handle := o.handle, status := qpAccepted }
    else { q with seq := q.seq + 1#24 }))
  (s1.modOps (fun l => l ++ [o])).traceQport o.ten o.handle o.code.opcode 0 0

/-- A refused submission: its answer stands in QP_STATUS, or a reflex rule's refusal is counted (R113); a reserved opcode raises
ES1004 and a denied one ES1003 (R121). -/
def State.refuse (s : State) (n : Nat) (answer : Byte) (via : SubmitVia) : State :=
  let s1 := s.modQports (fun b => b.upd n (fun q =>
    if via = .port then { q with status := answer } else { q with reflexRefused := errCount q.reflexRefused 1 }))
  if answer = qpBadOpcode then s1.regRejected 0x1020
  else if answer = qpDenied then s1.stewardOnly 0x1020
  else s1

/-- The submission of a known operation: start says what acceptance does to the operation in flight. -/
def State.submit (s : State) (n : Nat) (c : LongCode) (args : Bank Word 8) (cost : Nat) (via : SubmitVia)
    (start : Word → State → State) : State :=
  let a := s.qpAnswer n c.opcode (args.get 0)
  if a = qpAccepted then
    let o := s.newOp n c args cost
    start o.handle (s.accept o via)
  else s.refuse n a via

/-! ### Completions (R122) -/

/-- The bytes of a CPL record (Table 10 of chapter 05). -/
def Completion.bytes (c : Completion) : List Byte :=
  let ws := [c.handle, w32 (c.status.toNat + fld c.opcode.toNat 16), lo32 c.done, hi32 c.done, lo32 c.submitted,
    hi32 c.submitted] ++ (c.res ++ List.replicate 4 0#32).take 4
  wordsBytes ((ws ++ List.replicate 16 0#32).take 16)

/-- A completion written to the CPL well w (R122). -/
def State.cplStore (s : State) (n : Nat) (r : WellRec) (c : Completion) : State :=
  let x := s.wells.get r.well
  let s1 := s.cisWrite (r.entryAt x.p.toNat) c.bytes
  ((s1.modWells (fun b => b.put r.well (x.produced 1))).count n 12 r.well 1).settle (384 + r.well)

/-- A completion posted to the well when the store is empty and the well has room, otherwise to the store (R122). -/
def State.postCompletion (s : State) (n : Nat) (c : Completion) : State :=
  match s.cplWell n with
  | some r =>
    if (s.qports.get n).store.isEmpty && decide ((s.wells.get r.well).fill < wellCapacity r.k) then s.cplStore n r c
    else s.modQports (fun b => b.upd n (fun q => { q with store := q.store ++ [c] }))
  | none => s.modQports (fun b => b.upd n (fun q => { q with store := q.store ++ [c] }))

end Sys2Proof.Machine
end

