-- ==== Sys2Proof/Machine/Spare.lean ====
section
/-! DEFINITION. Filter-chain channels as several chapters use them: turned on (R303), and lent the spare modulator for a calibration or a
drift step (R299, R300, R302). -/

namespace Sys2Proof.Machine

/-- A filter-chain channel. -/
def State.chan (s : State) (c : Nat) : FcChan := s.filter.chans.get c

/-- A filter-chain channel changed, with its source. -/
def State.updChan (s : State) (c : Nat) (f : FcChan → FcChan) : State :=
  (s.modFilter (fun x => { x with chans := x.chans.upd c f })).settle (788 + c)

/-- The preset of a channel. -/
def State.presetOf (s : State) (c : Nat) : Nat := match s.channelRec c with
  | some r => r.preset
  | none => 0

/-- Conversions of a burst. -/
def State.burstLength (s : State) (c : Nat) : Nat := 2 ^ presetM (s.presetOf c)

/-- The class, channel and kind of a CALIBRATE. -/
def calArgs (a : Bank Word 8) : Nat × Nat × Nat := (bits (a.get 0) 7 0, bits (a.get 0) 15 8, (a.get 1).toNat)

/-! ### The spare modulator -/

/-- Whether a CALIBRATE of an AIN channel holds the spare modulator (R300, R302): from its step C2 until its step C7 has ended. -/
def State.calHold (s : State) : Bool := (List.range 8).any (fun c => match (s.chan c).cal with
  | some k => k.handle.isSome
  | none => false)

/-- Whether the spare modulator carries no channel. -/
def State.spareFree (s : State) : Bool := !s.calHold && s.filter.drift.isNone

/-- A channel lent the spare: step C2 of Table 6 of chapter 12. -/
def State.lend (s : State) (c : Nat) (handle : Option Word) : State :=
  let k : ChanCal := { handle := handle, kind := 0, tries := 1, disturbed := false, codes := [], step := .beside (calSettle s.fs) }
  s.updChan c (fun ch => { ch with cal := some k })

/-- A granted AIN CALIBRATE begins when the spare is free (C1), or, when its permit has come back, measures anew, its channel on the spare
meanwhile (R302). -/
def State.startAinCal (s : State) (o : LongOp) : State :=
  let c := (calArgs o.args).2.1
  match (s.chan c).cal with
  | some k =>
    if k.handle == some o.handle then s.updChan c (fun ch => { ch with cal := some { k with disturbed := false } }) else s
  | none => if s.spareFree then s.lend c (some o.handle) else s

/-- The AIN CALIBRATE that waited for the spare begins (C1 of Table 6 of chapter 12). -/
def State.calAfterDrift (s : State) : State :=
  match s.ops.find? (fun o => o.code == .calibrate && (calArgs o.args).1 == 0 && o.done.isNone && o.permit == .granted) with
  | some o => s.startAinCal o
  | none => s

/-- The end of an AIN channel's step C7: the spare is free for a CALIBRATE that waits. -/
def State.spareBack (s : State) (c : Nat) : State :=
  (s.modFilter (fun f => { f with drift := if f.drift = some c then none else f.drift })).calAfterDrift

/-! ### Channels turned on (R303) -/

/-- The channels for which p holds turned on where a CHANNEL record names them, and off where none does. A drift step on one of them is
over. -/
def State.fcTurnOn (s : State) (p : Nat → Bool) : State :=
  (s.modFilter (fun x => { x with
    drift := x.drift.filter (fun c => !p c),
    chans := x.chans.mapi (fun c ch =>
      if p c then (if (s.channelRec c).isSome then ch.turnOn else { ch with on := false, cal := none }) else ch) })).calAfterDrift

end Sys2Proof.Machine
end

