-- ==== Sys2Proof/Machine/Crypto.lean ====
section
/-! DEFINITION. The check and cipher functions the manual names: CRC-32 (R34), SHA-256 and ECDSA over P-256 (R47),
AES-128 and its CTR mode (R262, R264). Their inner workings are those of the standards the manual cites
(FIPS 180-4, FIPS 186, FIPS 197, NIST SP 800-38A); PRESUMED, log entry 20. -/

namespace Sys2Proof.Machine

/-! CRC-32 (R34) -/

/-- One bit step of the reflected CRC with polynomial 0x04C1_1DB7 (reflected 0xEDB8_8320). -/
def crcBit (c : Word) : Word :=
  if c.getLsbD 0 then (c >>> 1) ^^^ 0xEDB88320#32 else c >>> 1

/-- One byte of the CRC. -/
def crcByte (c : Word) (b : Byte) : Word :=
  crcBit (crcBit (crcBit (crcBit (crcBit (crcBit (crcBit (crcBit (c ^^^ b.zeroExtend 32))))))))

/-- R34: the CRC-32 of bytes, from 0xFFFF_FFFF with a final exclusive-OR of 0xFFFF_FFFF. -/
def crc32 (bs : List Byte) : Word := (bs.foldl crcByte 0xFFFFFFFF#32) ^^^ 0xFFFFFFFF#32

/-! SHA-256 (R47) -/

/-- The 64 round constants of FIPS 180-4, first half. -/
def shaK0 : List Word := [
  0x428a2f98#32, 0x71374491#32, 0xb5c0fbcf#32, 0xe9b5dba5#32, 0x3956c25b#32, 0x59f111f1#32, 0x923f82a4#32, 0xab1c5ed5#32,
  0xd807aa98#32, 0x12835b01#32, 0x243185be#32, 0x550c7dc3#32, 0x72be5d74#32, 0x80deb1fe#32, 0x9bdc06a7#32, 0xc19bf174#32,
  0xe49b69c1#32, 0xefbe4786#32, 0x0fc19dc6#32, 0x240ca1cc#32, 0x2de92c6f#32, 0x4a7484aa#32, 0x5cb0a9dc#32, 0x76f988da#32,
  0x983e5152#32, 0xa831c66d#32, 0xb00327c8#32, 0xbf597fc7#32, 0xc6e00bf3#32, 0xd5a79147#32, 0x06ca6351#32, 0x14292967#32]

/-- The 64 round constants of FIPS 180-4, second half. -/
def shaK1 : List Word := [
  0x27b70a85#32, 0x2e1b2138#32, 0x4d2c6dfc#32, 0x53380d13#32, 0x650a7354#32, 0x766a0abb#32, 0x81c2c92e#32, 0x92722c85#32,
  0xa2bfe8a1#32, 0xa81a664b#32, 0xc24b8b70#32, 0xc76c51a3#32, 0xd192e819#32, 0xd6990624#32, 0xf40e3585#32, 0x106aa070#32,
  0x19a4c116#32, 0x1e376c08#32, 0x2748774c#32, 0x34b0bcb5#32, 0x391c0cb3#32, 0x4ed8aa4a#32, 0x5b9cca4f#32, 0x682e6ff3#32,
  0x748f82ee#32, 0x78a5636f#32, 0x84c87814#32, 0x8cc70208#32, 0x90befffa#32, 0xa4506ceb#32, 0xbef9a3f7#32, 0xc67178f2#32]

/-- Rotation to the right. -/
def rotr (x : Word) (n : Nat) : Word := (x >>> n) ||| (x <<< (32 - n))

/-- The next k message-schedule words; the window holds the last 16, oldest first. -/
def shaSchedule : Nat → List Word → List Word
  | 0, _ => []
  | k + 1, w =>
    let a := w.getD 0 0#32
    let b := w.getD 1 0#32
    let c := w.getD 9 0#32
    let d := w.getD 14 0#32
    let s0 := rotr b 7 ^^^ rotr b 18 ^^^ (b >>> 3)
    let s1 := rotr d 17 ^^^ rotr d 19 ^^^ (d >>> 10)
    a :: shaSchedule k (w.drop 1 ++ [a + s0 + c + s1])

/-- The hash state of SHA-256. -/
structure Sha where
  a : Word
  b : Word
  c : Word
  d : Word
  e : Word
  f : Word
  g : Word
  h : Word
deriving DecidableEq, Repr, Inhabited

/-- One round. -/
def shaRound (s : Sha) (kw : Word × Word) : Sha :=
  let s1 := rotr s.e 6 ^^^ rotr s.e 11 ^^^ rotr s.e 25
  let ch := (s.e &&& s.f) ^^^ ((~~~ s.e) &&& s.g)
  let t1 := s.h + s1 + ch + kw.1 + kw.2
  let s0 := rotr s.a 2 ^^^ rotr s.a 13 ^^^ rotr s.a 22
  let mj := (s.a &&& s.b) ^^^ (s.a &&& s.c) ^^^ (s.b &&& s.c)
  { a := t1 + (s0 + mj), b := s.a, c := s.b, d := s.c, e := s.d + t1, f := s.e, g := s.f, h := s.g }

/-- One 16-word block. -/
def shaBlock (s : Sha) (blk : List Word) : Sha :=
  let r := ((shaK0 ++ shaK1).zip (shaSchedule 64 blk)).foldl shaRound s
  { a := s.a + r.a, b := s.b + r.b, c := s.c + r.c, d := s.d + r.d,
    e := s.e + r.e, f := s.f + r.f, g := s.g + r.g, h := s.h + r.h }

/-- The initial hash value. -/
def shaInit : Sha :=
  { a := 0x6a09e667#32, b := 0xbb67ae85#32, c := 0x3c6ef372#32, d := 0xa54ff53a#32,
    e := 0x510e527f#32, f := 0x9b05688c#32, g := 0x1f83d9ab#32, h := 0x5be0cd19#32 }

/-- Big-endian words of bytes, at most n of them. -/
def beWords : Nat → List Byte → List Word
  | 0, _ => []
  | _, [] => []
  | n + 1, bs => wordOf (bs.getD 3 0#8) (bs.getD 2 0#8) (bs.getD 1 0#8) (bs.getD 0 0#8) :: beWords n (bs.drop 4)

/-- The blocks of a padded message hashed in turn, at most n of them. -/
def shaBlocks : Nat → Sha → List Byte → Sha
  | 0, s, _ => s
  | n + 1, s, bs => if bs.isEmpty then s else shaBlocks n (shaBlock s (beWords 16 (bs.take 64))) (bs.drop 64)

/-- A number as n bytes, most significant first. -/
def beBytes : Nat → Nat → List Byte
  | 0, _ => []
  | n + 1, x => BitVec.ofNat 8 (x / 256 ^ n) :: beBytes n x

/-- The number of bytes read most significant first. -/
def beNat (bs : List Byte) : Nat := bs.foldl (fun a b => a * 256 + b.toNat) 0

/-- R47: SHA-256 of a message, as 32 bytes. -/
def sha256 (msg : List Byte) : List Byte :=
  let pad := (119 - msg.length % 64) % 64
  let bs := msg ++ [0x80#8] ++ List.replicate pad 0#8 ++ beBytes 8 (msg.length * 8)
  let s := shaBlocks (bs.length / 64 + 1) shaInit bs
  [s.a, s.b, s.c, s.d, s.e, s.f, s.g, s.h].flatMap (fun w => beBytes 4 w.toNat)

/-! ECDSA over P-256 (R47) -/

/-- The field prime of P-256. -/
def p256P : Nat := 2 ^ 256 - 2 ^ 224 + 2 ^ 192 + 2 ^ 96 - 1
/-- The group order of P-256. -/
def p256N : Nat := 0xffffffff00000000ffffffffffffffffbce6faada7179e84f3b9cac2fc632551
/-- The coefficient b of P-256. -/
def p256B : Nat := 0x5ac635d8aa3a93e7b3ebbd55769886bc651d06b0cc53b0f63bce3c3e27d2604b
/-- The base point of P-256. -/
def p256G : Nat × Nat :=
  (0x6b17d1f2e12c4247f8bce6e563a440f277037d812deb33a0f4a13945d898c296,
   0x4fe342e2fe1a7f9b8ee7eb4a7c0f9e162bce33576b315ececbb6406837bf51f5)

/-- b^e mod m, by the low k bits of e. -/
def powMod : Nat → Nat → Nat → Nat → Nat
  | 0, _, _, _ => 1
  | k + 1, b, e, m =>
    let r := powMod k (b * b % m) (e / 2) m
    if e % 2 == 1 then r * b % m else r

/-- The inverse modulo a 256-bit prime, by Fermat. -/
def invMod (x m : Nat) : Nat := powMod 256 (x % m) (m - 2) m

/-- A point of the curve; none is the point at infinity. -/
abbrev P256Pt := Option (Nat × Nat)

/-- Addition of two points (a = -3). -/
def p256Add (u v : P256Pt) : P256Pt :=
  match u, v with
  | none, q => q
  | p, none => p
  | some (x1, y1), some (x2, y2) =>
    let p := p256P
    if x1 == x2 && (y1 + y2) % p == 0 then none
    else
      let l :=
        if x1 == x2 && y1 == y2 then (3 * x1 * x1 + (p - 3)) * invMod (2 * y1) p % p
        else (y2 + p - y1) * invMod (x2 + p - x1) p % p
      let x3 := (l * l + 2 * p - x1 - x2) % p
      some (x3, (l * (x1 + p - x3) + p - y1) % p)

/-- k times a point, by the low n bits of k. -/
def p256Mul : Nat → Nat → P256Pt → P256Pt
  | 0, _, _ => none
  | n + 1, k, q =>
    let r := p256Mul n (k / 2) (p256Add q q)
    if k % 2 == 1 then p256Add r q else r

/-- A public key lies on the curve. -/
def p256OnCurve (x y : Nat) : Bool :=
  x < p256P && y < p256P && (y * y) % p256P == (x * x * x + (p256P - 3) * x + p256B) % p256P

/-- R47: ECDSA verification of a 32-byte digest with public key X‖Y and signature r‖s, all big-endian. -/
def ecdsaVerify (digest pub sig : List Byte) : Bool :=
  let x := beNat (pub.take 32)
  let y := beNat (pub.drop 32)
  let r := beNat (sig.take 32)
  let s := beNat (sig.drop 32)
  let n := p256N
  if r == 0 || s == 0 || n ≤ r || n ≤ s || !p256OnCurve x y then false
  else
    let z := beNat digest
    let w := invMod s n
    match p256Add (p256Mul 256 (z * w % n) (some p256G)) (p256Mul 256 (r * w % n) (some (x, y))) with
    | none => false
    | some (x1, _) => x1 % n == r

/-! AES-128 (R262, R264) -/

/-- Doubling in GF(2^8) with the AES polynomial. -/
def aesDouble (x : Byte) : Byte := if x.getLsbD 7 then (x <<< 1) ^^^ 0x1B#8 else x <<< 1

/-- Multiplication in GF(2^8), by the low n bits of y. -/
def aesMul : Nat → Byte → Byte → Byte
  | 0, _, _ => 0#8
  | n + 1, x, y => (if y.getLsbD 0 then x else 0#8) ^^^ aesMul n (aesDouble x) (y >>> 1)

/-- x^(2^k - 2 … ) chain: the inverse in GF(2^8) is x^254. -/
def aesInv (x : Byte) : Byte :=
  let m := aesMul 8
  let x2 := m x x
  let x4 := m x2 x2
  let x8 := m x4 x4
  let x16 := m x8 x8
  let x32 := m x16 x16
  let x64 := m x32 x32
  let x128 := m x64 x64
  m x128 (m x64 (m x32 (m x16 (m x8 (m x4 x2)))))

/-- The S-box: the inverse, then the affine map of FIPS 197. -/
def aesSbox (x : Byte) : Byte :=
  let b := aesInv x
  b ^^^ b.rotateLeft 1 ^^^ b.rotateLeft 2 ^^^ b.rotateLeft 3 ^^^ b.rotateLeft 4 ^^^ 0x63#8

/-- Byte i of a list, 0 past the end. -/
def byteAt (bs : List Byte) (i : Nat) : Byte := bs.getD i 0#8

/-- Two lists of bytes exclusive-ORed. -/
def xorBytes (a b : List Byte) : List Byte := List.zipWith (· ^^^ ·) a b

/-- The next round key of 16 bytes from the last, with its round constant. -/
def aesNextKey (k : List Byte) (rc : Byte) : List Byte :=
  let t := [aesSbox (byteAt k 13) ^^^ rc, aesSbox (byteAt k 14), aesSbox (byteAt k 15), aesSbox (byteAt k 12)]
  let c0 := xorBytes (k.take 4) t
  let c1 := xorBytes ((k.drop 4).take 4) c0
  let c2 := xorBytes ((k.drop 8).take 4) c1
  let c3 := xorBytes ((k.drop 12).take 4) c2
  c0 ++ c1 ++ c2 ++ c3

/-- SubBytes and ShiftRows; the state is 16 bytes, column by column. -/
def aesSubShift (s : List Byte) : List Byte :=
  [0, 5, 10, 15, 4, 9, 14, 3, 8, 13, 2, 7, 12, 1, 6, 11].map (fun i => aesSbox (byteAt s i))

/-- MixColumns on one column. -/
def aesMixCol (a b c d : Byte) : List Byte :=
  let t := a ^^^ b ^^^ c ^^^ d
  [a ^^^ t ^^^ aesDouble (a ^^^ b), b ^^^ t ^^^ aesDouble (b ^^^ c),
   c ^^^ t ^^^ aesDouble (c ^^^ d), d ^^^ t ^^^ aesDouble (d ^^^ a)]

/-- MixColumns. -/
def aesMix (s : List Byte) : List Byte :=
  [0, 4, 8, 12].flatMap (fun i => aesMixCol (byteAt s i) (byteAt s (i + 1)) (byteAt s (i + 2)) (byteAt s (i + 3)))

/-- The rounds: n of them remain, the last without MixColumns. -/
def aesRounds : Nat → List Byte → List Byte → Byte → List Byte
  | 0, s, _, _ => s
  | n + 1, s, k, rc =>
    let k' := aesNextKey k rc
    let t := aesSubShift s
    let u := if n == 0 then t else aesMix t
    aesRounds n (xorBytes u k') k' (aesDouble rc)

/-- AES-128 of one block under a key; byte 0 is key byte 0 as FIPS 197 numbers it (R262). -/
def aes128 (key blk : List Byte) : List Byte := aesRounds 10 (xorBytes blk key) key 1#8

/-- R262: the key check value, the first 3 bytes of AES-128 of the all-zero block, as bits [31:8]. -/
def keyKcv (key : List Byte) : Word :=
  let e := aes128 key (List.replicate 16 0#8)
  wordOf 0#8 (byteAt e 0) (byteAt e 1) (byteAt e 2)

/-- R264: the counter block of the 16-byte block at translated address a. -/
def ctrBlock (nonce : DWord) (a : Nat) : List Byte := beBytes 8 nonce.toNat ++ beBytes 8 (a / 16)

/-- R264: the keystream exclusive-ORed onto bytes that start at translated address a, a multiple of 16;
at most n blocks. -/
def ctrCrypt : Nat → List Byte → DWord → Nat → List Byte → List Byte
  | 0, _, _, _, _ => []
  | n + 1, key, nonce, a, bs =>
    if bs.isEmpty then []
    else xorBytes (bs.take 16) (aes128 key (ctrBlock nonce a)) ++ ctrCrypt n key nonce (a + 16) (bs.drop 16)

end Sys2Proof.Machine
end

