-- ==== Sys2Proof/Machine/Memory.lean ====
section
/-! DEFINITION. Cisterns, the sealed cistern, the aquifer, its directory and the pumps (chapter 11): the shared operations. Their
commands stand in MemoryCmds.lean. -/

namespace Sys2Proof.Machine

/-! ### The L1 caches and their directory (R235, R271, R272) -/

/-- The directory entry of a line; none is I everywhere. -/
def MemState.dirOf (m : MemState) (line : Nat) : Option DirState := (m.dir.find? (fun x => x.1 == line)).map Prod.snd

/-- The directory with a line's entry replaced; none drops it. Entries stay in ascending line number. -/
def dirPut (d : List (Nat × DirState)) (line : Nat) (e : Option DirState) : List (Nat × DirState) :=
  let rest := d.filter (fun x => x.1 != line)
  match e with
  | none => rest
  | some v => rest.filter (fun x => decide (x.1 < line)) ++ (line, v) :: rest.filter (fun x => decide (line < x.1))

/-- The data of a line as the holder of M or the memory has it. -/
def MemState.lineData (m : MemState) (line : Nat) : List Byte :=
  match m.l1.find? (fun x => x.1 == line) with
  | some x => x.2
  | none => m.aq.getBytes (line * 64) 64

/-- A line gone from the L1 caches of the engines for which p holds. -/
def MemState.leave (m : MemState) (line : Nat) (p : Nat → Bool) : MemState :=
  { m with ways := m.ways.mapi (fun e l => if p e then l.filter (fun x => x != line) else l) }

/-- A modified line written back to memory (PutM), its holder keeping what the new entry says. -/
def MemState.writeBack (m : MemState) (line : Nat) (e : Option DirState) : MemState :=
  let m0 := m.leave line (fun _ => e.isNone)
  let m1 := { m0 with l1 := m.l1.filter (fun x => x.1 != line), dir := dirPut m.dir line e }
  match m.l1.find? (fun x => x.1 == line) with
  | some x => { m1 with aq := m.aq.putBytes (line * 64) x.2, aqEcc := m.aqEcc.filter (fun x => x.1 / 8 != line) }
  | none => m1

/-- A line out of engine e's L1: a line held modified is written back, any other leaves silently, so that the directory still lists it
(R271). -/
def MemState.evict (m : MemState) (e line : Nat) : MemState :=
  if m.dirOf line = some (.modified e) then m.writeBack line none else m.leave line (fun k => k == e)

/-- A place for a line in engine e's L1 of 8 ways (R235): in a full set, the way that pick names is evicted. PRESUMED: 512 sets, chosen by
the low bits of the line number, and which way leaves is free (log entry 123). -/
def MemState.fill (m : MemState) (e line pick : Nat) : MemState :=
  let held := m.ways.get e
  let set := held.filter (fun x => x % 512 == line % 512)
  if held.contains line then m
  else
    let m1 := if set.length < 8 then m else m.evict e (set.getD (pick % 8) 0)
    { m1 with ways := m1.ways.upd e (fun l => l ++ [line]) }

/-- A read miss of engine e: the line in E when no other engine holds it, otherwise in S (R271). -/
def MemState.gets (m : MemState) (e line : Nat) : MemState :=
  match m.dirOf line with
  | none => { m with dir := dirPut m.dir line (some (.exclusive e)) }
  | some (.shared l) => if l.contains e then m else { m with dir := dirPut m.dir line (some (.shared (l ++ [e]))) }
  | some (.exclusive h) => if h = e then m else { m with dir := dirPut m.dir line (some (.shared [h, e])) }
  | some (.modified h) => if h = e then m else m.writeBack line (some (.shared [h, e]))

/-- An ownership request of engine e: other copies are invalidated and the data forwarded; the pointer moves one past the winner
(R271, R272). -/
def MemState.getm (m : MemState) (e line : Nat) : MemState :=
  let data := m.lineData line
  { m.leave line (fun k => k != e) with
    dir := dirPut m.dir line (some (.modified e)), l1 := (line, data) :: m.l1.filter (fun x => x.1 != line), pointer := (e + 1) % 4 }

/-- An M eviction of engine e (R271). -/
def MemState.putm (m : MemState) (e line : Nat) : MemState :=
  if m.dirOf line = some (.modified e) then m.writeBack line none else m

/-- A pump read of a line: a holder of M keeps it in S with its data written back (R271). -/
def MemState.pumpReads (m : MemState) (line : Nat) : MemState :=
  match m.dirOf line with
  | some (.modified h) => m.writeBack line (some (.shared [h]))
  | _ => m

/-- Every L1 copy of a line invalidated, an M copy written back first (R271). -/
def MemState.invalidate (m : MemState) (line : Nat) : MemState := m.writeBack line none

/-- Every dirty line of the engines for which p holds written back, and their copies dropped (R270, R90). -/
def MemState.flushL1 (m : MemState) (p : Nat → Bool) : MemState :=
  let m1 := m.dir.foldl (fun m x => match x.2 with
    | .modified h => if p h then m.writeBack x.1 none else m
    | _ => m) m
  let keep (x : Nat × DirState) : Option (Nat × DirState) :=
    match x.2 with
    | .shared l => if (l.filter (fun e => !p e)).isEmpty then none else some (x.1, .shared (l.filter (fun e => !p e)))
    | .exclusive h => if p h then none else some x
    | .modified _ => some x
  { m1 with dir := m1.dir.filterMap keep, ways := m1.ways.mapi (fun e l => if p e then [] else l) }

/-- Aquifer bytes written by a pump: L1 copies of their lines are invalidated first (R271). -/
def State.aqWrite (s : State) (a : Nat) (bs : List Byte) : State :=
  s.modMem (fun m =>
    let m1 := (linesOf a bs.length).foldl MemState.invalidate m
    { m1 with aq := m1.aq.putBytes a bs,
              aqEcc := m1.aqEcc.filter (fun e => !(decide (a ≤ e.1 * 8) && decide (e.1 * 8 + 8 ≤ a + bs.length))) })

/-- The controller with one 64-bit word found in error: counted, and an uncorrectable one logged by its line (R279). -/
def AqState.wordError (q : AqState) (e : Nat × Bool) : AqState :=
  if e.2 then { q with uecc := errCount q.uecc 1, elog := w32 (e.1 / 8) } else { q with cecc := errCount q.cecc 1 }

/-- The counts and the log of an aquifer read, word by word (R279). -/
def State.noteAqEcc (s : State) (a n : Nat) : State := s.modAq (fun q => (eccHits s.mem.aqEcc a n).foldl AqState.wordError q)

/-! ### Pump address space (R273, R274) -/

/-- Where a physical pump address lies (Table 3 of chapter 11). -/
inductive Phys where
  | cis (x : Nat)
  | aq (a : Nat)
  | window
  | unmapped
deriving DecidableEq, Repr, Inhabited

/-- A physical address for the requesters of tenancy t: anything outside its cisterns and partition is unmapped (R89). -/
def State.physOf (s : State) (t p : Nat) : Phys :=
  if p < cisSpace then (if s.cisOwner (p / cisBytes) == some t then .cis p else .unmapped)
  else if 0x80000000 ≤ p ∧ p < 0x81000000 then .window
  else if 0x100000000 ≤ p ∧ p < 0x300000000 then
    let part := s.partition t
    if p - 0x100000000 < part.2 then .aq (part.1 + (p - 0x100000000)) else .unmapped
  else .unmapped

/-- Pump fault kinds (Table 4 of chapter 11). -/
def pfTranslation : Nat := 1
def pfWalkTarget : Nat := 2
def pfWalkEcc : Nat := 3
def pfDataEcc : Nat := 4
def pfKeyEmpty : Nat := 5

/-- n bytes at a place, read coherently with their error view and its counts. -/
def State.physRead (s : State) (p : Phys) (n : Nat) : State × List Byte × EccView :=
  match p with
  | .cis x => ((s.noteEcc x n false).settleCis x n, s.mem.cis.getBytes x n, eccView s.mem.cisEcc x n)
  | .aq a =>
    let s1 := s.modMem (fun m => (linesOf a n).foldl MemState.pumpReads m)
    (s1.noteAqEcc a n, s1.mem.aq.getBytes a n, eccView s1.mem.aqEcc a n)
  | _ => (s, List.replicate n 0#8, .clean)

/-- Bytes written at a place by a pump. -/
def State.physWrite (s : State) (p : Phys) (bs : List Byte) : State :=
  match p with
  | .cis x => s.cisWrite x bs
  | .aq a => s.aqWrite a bs
  | _ => s

/-- A translation or a fault (kind, level 0 for L1 and 1 for L2). -/
inductive Walk where
  | ok (phys : Nat) (writable : Bool)
  | fault (kind level : Nat)
deriving DecidableEq, Repr, Inhabited

/-- One entry of a page table, with the checks of R273 and R274. -/
def entryOf (level : Nat) (bytes : List Byte) : Option (Nat × Bool) :=
  let e := leNat bytes
  let w := e / 2 % 2 = 1
  if e % 2 = 0 ∨ e / 4 % 2 ^ 14 ≠ 0 ∨ e / 2 ^ 48 ≠ 0 ∨ (level = 0 ∧ w) then none
  else some (e / 65536 % 2 ^ 32 * 65536, decide w)
where
  /-- Bytes as a little-endian number. -/
  leNat : List Byte → Nat
    | [] => 0
    | b :: bs => b.toNat + 256 * leNat bs

/-- The read of one table entry and what it gives: the next place, or a fault. The place of the entry itself is checked (R89). DEDUCED: an
entry that cannot be read is the fault of what points to its table, the level-1 entry or the root, so its level is 0 (log entry 92). -/
def State.walkStep (s : State) (t level base index : Nat) : State × Walk :=
  match s.physOf t (base + 8 * index) with
  | .window => (s, .fault pfWalkTarget 0)
  | .unmapped => (s, .fault pfTranslation 0)
  | .cis x => finish (s.physRead (.cis x) 8)
  | .aq a => finish (s.physRead (.aq a) 8)
where
  /-- The entry checked. -/
  finish (r : State × List Byte × EccView) : State × Walk :=
    if r.2.2 = .uncorrectable then (r.1, .fault pfWalkEcc level)
    else match entryOf level r.2.1 with
      | some e => (r.1, .ok e.1 e.2)
      | none => (r.1, .fault pfTranslation level)

/-- A physical address that Table 3 of chapter 11 maps nowhere. -/
def physNowhere : Nat := 0x300000000

/-- The root table of a pump as a physical address (R273): a BAR2 offset beyond the cisterns is nowhere. -/
def State.pumpRoot (s : State) (p : Nat) : Nat :=
  match s.pumpRec p with
  | none => 0
  | some r => if r.rootInCistern then (if r.root < cisSpace then r.root else physNowhere) else 0x100000000 + r.root

/-- The translation of page va / 65536 of pump p, from its cache or by a walk, which counts (R274, count event 0x06). -/
def State.pumpPage (s : State) (p t va : Nat) : State × Walk :=
  let page := va / 65536
  match (s.pumps.get p).cache.find? (fun x => x.1 == page) with
  | some x => (s, .ok x.2.1 x.2.2)
  | none =>
    let s0 := s.count t 6 p 1
    let r1 := s0.walkStep t 0 (s0.pumpRoot p) (va / 2 ^ 28 % 4096)
    match r1.2 with
    | .fault k l => (r1.1, .fault k l)
    | .ok table _ =>
      let r2 := r1.1.walkStep t 1 table (page % 4096)
      match r2.2 with
      | .fault k l => (r2.1, .fault k l)
      | .ok leaf w =>
        (r2.1.modPumps (fun b => b.upd p (fun x => { x with cache := (page, leaf, w) :: x.cache.take 15 })), .ok leaf w)

/-- What a pump access finds: the place, the fault (kind and level), or a wait for an aquifer slot that never comes. -/
inductive Reach where
  | at_ (p : Phys)
  | fault (kind level : Nat)
  | held
deriving DecidableEq, Repr, Inhabited

/-- Whether a place lies in the aquifer. -/
def Phys.isAq : Phys → Bool
  | .aq _ => true
  | _ => false

/-- Whether the walk of address va by pump p reads a table in the aquifer (R274). -/
def State.walksAq (s : State) (p t va : Nat) : Bool :=
  if (s.pumps.get p).cache.any (fun x => x.1 == va / 65536) then false
  else
    (s.physOf t (s.pumpRoot p)).isAq || (match (s.walkStep t 0 (s.pumpRoot p) (va / 2 ^ 28 % 4096)).2 with
      | .ok table _ => (s.physOf t table).isAq
      | .fault _ _ => false)

/-- Whether pump p has no slot of the aquifer round, so that the aquifer never serves it (R267). -/
def State.noSlots (s : State) (p : Nat) : Bool := (s.pumpRec p).all (fun r => r.slots == 0)

/-- The place of address va for pump p of tenancy t (R89, R274). -/
def State.pumpReach (s : State) (p t va : Nat) (write : Bool) : State × Reach :=
  if 2 ^ 40 ≤ va then (s, .fault pfTranslation 0)
  else if s.noSlots p && s.walksAq p t va then (s, .held)
  else
    let r := s.pumpPage p t va
    match r.2 with
    | .fault k l => (r.1, .fault k l)
    | .ok phys w =>
      if write && !w then (r.1, .fault pfTranslation 1)
      else match r.1.physOf t (phys + va % 65536) with
        | .window => (r.1, .fault pfWalkTarget 1)
        | .unmapped => (r.1, .fault pfTranslation 1)
        | x => if x.isAq && s.noSlots p then (r.1, .held) else (r.1, .at_ x)

/-- Whether a cistern holds new requests: of the old owner while draining, of the new one while wiping (R259). -/
def State.cisHolds (s : State) (c : Nat) : Bool := (s.mem.banks.get c).draining.isSome || (s.mem.banks.get c).wiping.isSome

/-- Whether an access to a place has to wait for a handover. -/
def State.physHeld (s : State) : Phys → Bool
  | .cis x => s.cisHolds (x / cisBytes)
  | _ => false

/-- A pump fault (R274): FAULT, the first fault's record, and the count. -/
def State.pumpFault (s : State) (p kind level va : Nat) (write stream : Bool) : State :=
  (s.modPumps (fun b => b.upd p (fun x =>
    let first := !x.status.getLsbD 0
    { x with status := x.status ||| 1#2, faultCnt := errCount x.faultCnt 1,
             fault := if first then w32 (kind + fld level 3 + flag write 4 + flag stream 5 + flag true 31) else x.fault,
             faddr := if first then w64 (va % 2 ^ 40) else x.faddr }))).settle (640 + p)

/-- The key of a slot. -/
def State.keyOf (s : State) (k : Nat) : Option (List Byte) := s.mem.keys.get k

/-- Bytes at translated address a decrypted with a key and nonce (R264); a is a multiple of 16. -/
def decryptAt (key : List Byte) (nonce : DWord) (a : Nat) (bs : List Byte) : List Byte :=
  ctrCrypt (bs.length / 16) key nonce a bs

/-! ### Streams (R275, R276) -/

/-- Whether a voice holds its store. -/
def Voice.live (v : Voice) : Bool := v.state != .free

/-- The voices of a gill: the slots' current ones, the shadows and the cut lane. -/
def Gill.voices (g : Gill) : List Voice := (g.slots.toList.map Slot.cur) ++ g.shadows.toList ++ [g.cut]

/-- Every voice of a gill changed by f. -/
def Gill.mapVoices (g : Gill) (f : Voice → Voice) : Gill :=
  { g with slots := g.slots.mapi (fun _ x => { x with cur := f x.cur }), shadows := g.shadows.mapi (fun _ x => f x), cut := f g.cut }

/-- A voice with the fill and the stop mark of its SAMPLE element e changed. -/
def Voice.onSample (v : Voice) (e : Nat) (f : Nat → Bool → Nat × Bool) : Voice :=
  let one (x : ElemState × Nat) : ElemState :=
    match x.1 with
    | .sample z pos filled l r sounded stopped =>
      if x.2 == e then .sample z pos (f filled stopped).1 l r sounded (f filled stopped).2 else x.1
    | y => y
  { v with elems := v.elems.zipIdx.map one }

/-- The voice that holds a voice store. -/
def Gill.holder (g : Gill) (store : Nat) : Option Voice := g.voices.find? (fun v => v.live && v.store == store)

/-- The SAMPLE state of a stream's element: the stream index it plays and how far its ring is filled. -/
def State.streamPos (s : State) (x : Stream) : Option (Nat × Nat) :=
  match (s.gills.get x.gill).holder x.store with
  | none => none
  | some v => match v.elems.getD x.elem .still with
    | .sample _ pos filled _ _ _ _ => some (pos / 2 ^ 32, filled)
    | _ => none

/-- The zone frame of a stream index (R276): through the loop, or none after the last. -/
def Stream.frameAt (x : Stream) (u : Nat) : Option Nat :=
  if x.loopStart < x.loopEnd then
    if u < x.loopEnd then some u else some (x.loopStart + (u - x.loopEnd) % (x.loopEnd - x.loopStart))
  else if u < x.length then some u else none

/-- The frames of the next line of a stream from stream index u: its address and count (R276). -/
def Stream.nextLine (x : Stream) (u : Nat) : Option (Nat × Nat) :=
  (x.frameAt u).map (fun k =>
    let a := x.source + k * x.frameBytes
    let stop := if x.loopStart < x.loopEnd then x.loopEnd else x.length
    (a, max 1 (min ((64 - a % 64) / x.frameBytes) (stop - k))))

/-- Frames that a stream's ring holds ahead of its position, where it has more to fetch and room for a further 64-byte line (R275, R276). -/
def State.streamNeed (s : State) (x : Stream) : Option Nat :=
  match s.streamPos x with
  | none => none
  | some (u, filled) => match x.nextLine filled with
    | none => none
    | some _ =>
      if (filled - (u - 1)) * x.frameBytes + 64 ≤ x.ringBytes / x.frameBytes * x.frameBytes then some (filled - u) else none

/-- The context that is served next: the fewest frames ahead, ties to the lowest context (R276). -/
def State.streamPick (s : State) (p : Nat) : Option (Nat × Stream) :=
  let want := (s.pumps.get p).streams.toList.zipIdx.filterMap (fun x => match x.1 with
    | some st => (s.streamNeed st).map (fun d => (d, x.2, st))
    | none => none)
  (want.foldl (fun best x => match best with
    | none => some x
    | some b => if x.1 < b.1 then some x else some b) none).map (fun x => (x.2.1, x.2.2))

/-- A stream stops on a fault: its context is freed and its voice starves with PUMP_FAULT (R183, R274). -/
def State.stopStream (s : State) (p k : Nat) (x : Stream) : State :=
  let s1 := s.modPumps (fun b => b.upd p (fun q => { q with streams := q.streams.put k none }))
  let s2 := s1.modGills (fun b => b.upd x.gill (fun g =>
    { g.mapVoices (fun v => if v.live && v.store == x.store then v.onSample x.elem (fun f _ => (f, true)) else v) with
      status := g.status ||| 32#6 }))
  s2.settle (8 * x.gill + 5)

/-- Frames written into a stream's ring from stream index u on (R276). -/
def ringWrite (m : Memory) (x : Stream) (u : Nat) (bs : List Byte) (n : Nat) : Memory :=
  (List.range n).foldl (fun m i =>
    m.putBytes (x.ring + (u + i) % (x.ringBytes / x.frameBytes) * x.frameBytes)
      ((bs.drop (i * x.frameBytes)).take x.frameBytes)) m

/-- The marks of R187 gone where a stream's ring is written. -/
def ringHealed (g : Gill) (x : Stream) (u n : Nat) : Gill :=
  (List.range n).foldl (fun g i => g.healed (x.ring + (u + i) % (x.ringBytes / x.frameBytes) * x.frameBytes) x.frameBytes) g

/-- The stream's voice with its ring filled n frames further. -/
def State.streamFilled (s : State) (x : Stream) (u n : Nat) (bs : List Byte) : State :=
  s.modGills (fun b => b.upd x.gill (fun g =>
    { (ringHealed g x u n).mapVoices (fun v =>
        if v.live && v.store == x.store then v.onSample x.elem (fun _ st => (u + n, st)) else v) with
      trough := ringWrite g.trough x u bs n }))

/-- The bytes of whole lines at translated addresses, as a stream reads them: each line is translated by itself and counts by itself. -/
inductive LineRead where
  | held
  | fault (kind level va : Nat)
  | data (bs : List Byte)
deriving DecidableEq, Repr, Inhabited

/-- The lines of one frame's read (R276), decrypted under the pump's key slot if it names one (R265). -/
def State.streamRead (s : State) (p t : Nat) (x : Stream) : List Nat → State × LineRead
  | [] => (s, .data [])
  | a :: l =>
    let r := s.pumpReach p t a false
    match r.2 with
    | .held => (r.1, .held)
    | .fault kind level => (r.1, .fault kind level a)
    | .at_ place =>
      if r.1.physHeld place then (r.1, .held)
      else
        let d := r.1.physRead place 64
        if d.2.2 = .uncorrectable then (d.1, .fault pfDataEcc 1 a)
        else
          let s1 := (d.1.count t 5 p 1).count t 7 p (match place with | .aq _ => 1 | _ => 0)
          let plain : Option (List Byte) := match (s.pumpRec p).bind PumpRec.keySlot with
            | none => some d.2.1
            | some slot => (s1.keyOf slot).map (fun key => decryptAt key x.nonce a d.2.1)
          match plain with
          | none => (s1, .fault pfKeyEmpty 1 a)
          | some bs => match State.streamRead s1 p t x l with
            | (s2, .data more) => (s2, .data (bs ++ more))
            | other => other

/-- One line of a stream delivered, or its fault (R276). A frame that straddles two lines is read from both. -/
def State.serveStream (s : State) (p t k : Nat) (x : Stream) : State :=
  match s.streamPos x with
  | none => s
  | some (_, u) => match x.nextLine u with
    | none => s
    | some (a, n) =>
      let line := a - a % 64
      let lines := if a % 64 + n * x.frameBytes ≤ 64 then [line] else [line, line + 64]
      match s.streamRead p t x lines with
      | (_, .held) => s
      | (s1, .fault kind level va) => (s1.pumpFault p kind level va false true).stopStream p k x
      | (s1, .data bs) => s1.streamFilled x u n (bs.drop (a % 64))

/-- A stream start: a free context, or a wait that is counted (R275). -/
def State.startStream (s : State) (p : Nat) (x : Stream) : State :=
  let q := s.pumps.get p
  match q.streams.toList.findIdx? (fun c => c.isNone) with
  | some k =>
    let active := (q.streams.toList.filter Option.isSome).length + 1
    s.modPumps (fun b => b.upd p (fun q => { q with streams := q.streams.put k (some x), peak := max q.peak active }))
  | none =>
    (s.modPumps (fun b => b.upd p (fun q =>
      { q with waiting := q.waiting ++ [x], noctx := errCount q.noctx 1, status := q.status ||| 2#2 }))).settle (640 + p)

/-- The streams of a gill's voice store end (R276). -/
def State.endStreams (s : State) (gill store : Nat) : State :=
  let mine (x : Stream) : Bool := x.gill == gill && x.store == store
  s.modPumps (fun b => b.mapi (fun _ q =>
    { q with streams := q.streams.mapi (fun _ c => c.filter (fun x => !mine x)),
             waiting := q.waiting.filter (fun x => !mine x) }))

/-! ### Bulk descriptors (R275, R277) -/

/-- The pump, source, destination and length of a bulk operation, with its key slot and nonce (Table 12 of chapter 05, R265). -/
structure BulkArgs where
  pump : Nat
  src : Nat
  dst : Nat
  len : Nat
  slot : Option Nat
  nonce : DWord
deriving DecidableEq, Repr, Inhabited

/-- The arguments of PUMP_BULK and SAMPLE_LOAD. -/
def bulkArgs (c : LongCode) (a : Bank Word 8) : BulkArgs :=
  if c = .sampleLoad then
    { pump := bits (a.get 0) 7 0, src := (a.get 1).toNat, dst := (a.get 2).toNat, len := (a.get 3).toNat,
      slot := if bits (a.get 0) 15 8 = 255 then none else some (bits (a.get 0) 15 8), nonce := dwordOf (a.get 4) (a.get 5) }
  else
    { pump := (a.get 0).toNat, src := (dwordOf (a.get 1) (a.get 2)).toNat, dst := (dwordOf (a.get 3) (a.get 4)).toNat,
      len := (a.get 5).toNat, slot := none, nonce := 0#64 }

/-- Whether an operation is a bulk descriptor of pump p that has not ended. -/
def LongOp.isBulkOf (o : LongOp) (p : Nat) : Bool :=
  (o.code == .pumpBulk || o.code == .sampleLoad) && (bulkArgs o.code o.args).pump == p && o.done.isNone

/-- The bulk descriptor that pump p works on: the oldest (R275). -/
def State.bulkHead (s : State) (p : Nat) : Option LongOp := s.ops.find? (fun o => o.isBulkOf p)

/-- The results of a bulk operation: bytes copied, the CRC-32 of the plaintext for SAMPLE_LOAD, and a fault kind (R125, R126). -/
def bulkResults (o : LongOp) (kind : Nat) : List Word :=
  [w32 o.progress, if o.code == .sampleLoad then o.value ^^^ 0xFFFFFFFF#32 else 0#32, w32 kind]

/-- The lines of an operation out of a pump's store buffer. -/
def State.dropStores (s : State) (p : Nat) (h : Word) : State :=
  s.modPumps (fun b => b.upd p (fun q => { q with buffer := q.buffer.filter (fun l => l.handle != h) }))

/-- The oldest line of a pump's store buffer issued (R277). A handover holds it while it drains the cistern; one that has lost its place to
the new owner faults TRANSLATION, and with it the descriptor's later stores (R259). -/
def State.issueStore (s : State) (p : Nat) : State :=
  match (s.pumps.get p).buffer with
  | [] => s
  | l :: rest =>
    let place := s.physOf ((s.pumpOwner p).getD 0) l.addr
    if s.physHeld place then s
    else if place == .unmapped then
      let s1 := (s.dropStores p l.handle).pumpFault p pfTranslation 1 l.va true false
      match s1.findOp l.handle with
      | none => s1
      | some o => s1.finishOp l.handle csFault (bulkResults o pfTranslation)
    else
      let s1 := s.modPumps (fun b => b.upd p (fun q => { q with buffer := rest }))
      (s1.physWrite place l.bytes).updOp l.handle (fun o => { o with progress := o.progress + 64 })

/-- Every line of a pump's store buffer issued. -/
def State.drainStores : Nat → State → Nat → State
  | 0, s, _ => s
  | k + 1, s, p => if (s.pumps.get p).buffer.isEmpty then s else State.drainStores k (s.issueStore p) p

/-- A bulk descriptor stops on a fault: stores before the faulting one complete (R277). -/
def State.bulkFault (s : State) (p : Nat) (h : Word) (kind level va : Nat) (write : Bool) : State :=
  let s1 := (s.pumpFault p kind level va write false).drainStores 8 p
  match s1.findOp h with
  | none => s1
  | some o => s1.finishOp h (if kind = pfDataEcc then csEcc else csFault) (bulkResults o kind)

/-- The lines of an operation that stand in the store buffer. -/
def State.buffered (s : State) (p : Nat) (h : Word) : Nat :=
  ((s.pumps.get p).buffer.filter (fun l => l.handle == h)).length

/-- One step of a bulk descriptor: a line read, decrypted and buffered, or, when all are, a store issued; the final store is the
commit point and ends the operation (R125, R277). -/
def State.bulkStep (s : State) (p t : Nat) (o : LongOp) : State :=
  let a := bulkArgs o.code o.args
  let at_ := o.progress + 64 * s.buffered p o.handle
  if a.len ≤ at_ then
    let s1 := s.issueStore p
    match s1.findOp o.handle with
    | none => s1
    | some o1 =>
      if a.len ≤ o1.progress && o1.done.isNone then
        (s1.updOp o.handle (fun o => { o with committed := true })).finishOp o.handle csDone (bulkResults o1 0)
      else s1
  else
    let r := s.pumpReach p t (a.src + at_) false
    match r.2 with
    | .held => s
    | .fault k l => r.1.bulkFault p o.handle k l (a.src + at_) false
    | .at_ place =>
      if r.1.physHeld place then s
      else
        let d := r.1.physRead place 64
        if d.2.2 = .uncorrectable then d.1.bulkFault p o.handle pfDataEcc 1 (a.src + at_) false
        else
          let plain := match a.slot with
            | none => some d.2.1
            | some k => (d.1.keyOf k).map (fun key => decryptAt key a.nonce (a.src + at_) d.2.1)
          match plain with
          | none => d.1.bulkFault p o.handle pfKeyEmpty 1 (a.src + at_) false
          | some bs =>
            let w := d.1.pumpReach p t (a.dst + at_) true
            match w.2 with
            | .held => s
            | .fault k l => w.1.bulkFault p o.handle k l (a.dst + at_) true
            | .at_ target =>
              if w.1.physHeld target then s
              else
                let s1 := if (w.1.pumps.get p).buffer.length < 8 then w.1 else w.1.issueStore p
                if 8 ≤ (s1.pumps.get p).buffer.length || (s1.findOp o.handle).all (fun x => x.done.isSome) then s1 else
                let addr := match target with
                  | .cis x => x
                  | .aq x => 0x100000000 + (x - (s.partition t).1)
                  | _ => 0
                let s2 := s1.modPumps (fun b => b.upd p (fun q =>
                  { q with buffer := q.buffer ++ [{ va := a.dst + at_, addr := addr, bytes := bs, handle := o.handle }] }))
                let s3 := s2.updOp o.handle (fun o => { o with started := true, value := bs.foldl crcByte o.value })
                (s3.count t 5 p 2).count t 7 p
                  ((match place with | .aq _ => 1 | _ => 0) + (match target with | .aq _ => 1 | _ => 0))

/-! ### Sealed cistern (R261 to R263) -/

/-- The bytes of sealed data of the device. -/
def sealedBytes : Nat := 258048

/-- Where tenancy n's sealed data lies, and its size: in ascending tenancy number (R261). -/
def State.sealedAt (s : State) (n : Nat) : Nat × Nat :=
  let size (k : Nat) : Nat := match (s.tcfg k).cisterns.sealedRec with
    | some r => r.bytes
    | none => 0
  (((List.range n).map size).sum, size n)

/-- The sealed cistern wiped, with every key slot invalid (R263); the wipe ends with SEALED_WIPE_DONE. -/
def State.sealWipe (s : State) (byTamper : Bool) : State :=
  s.modMem (fun m => { m with sealedData := [], keys := Bank.all 64 none, sealWiping := true, sealTamper := byTamper })

end Sys2Proof.Machine
end

