-- ==== Sys2Proof/Machine/Operands.lean ====
section
/-! DEFINITION. How a command names its target: the blocks of BAR0 (Table 3 of chapter 05), what each device state and each tenancy
may reach (R20, R21, R64, R91 to R93), field updates by access code (R6 to R8), and the host path to cisterns (R106). -/

namespace Sys2Proof.Machine

/-- The outcome of a command. -/
abbrev Res := Host.Outcome State Fault Refusal

/-- The blocks of Table 3 of chapter 05; flash is the boot-flash controller inside the span of I2C. -/
inductive Block where
  | ident | qport | wellctl | evsrc | msix | pba | spawn | tenancy | gill | forager | mycelium | truffle | cistern | pump
  | aquifer | filter | spout | sap | net | usb | timer | keybed | uart | i2c | flash | clock | windlass | supply | pair
  | observe
deriving DecidableEq, Repr

/-- First and last offset of each block. -/
def blockSpans : List (Block × Nat × Nat) := [
  (.ident, 0x0, 0xFFF), (.qport, 0x1000, 0x1FFF), (.wellctl, 0x2000, 0x3FFF), (.evsrc, 0x4000, 0x7FFF),
  (.msix, 0x8000, 0x83FF), (.pba, 0x9000, 0x9007), (.spawn, 0x10000, 0x1FFFF), (.tenancy, 0x20000, 0x2FFFF),
  (.gill, 0x100000, 0x12FFFF), (.forager, 0x140000, 0x14FFFF), (.mycelium, 0x160000, 0x17FFFF),
  (.truffle, 0x180000, 0x1BFFFF), (.cistern, 0x200000, 0x20FFFF), (.pump, 0x210000, 0x21FFFF),
  (.aquifer, 0x220000, 0x22FFFF)] ++ [
  (.filter, 0x300000, 0x30FFFF), (.spout, 0x310000, 0x31FFFF), (.sap, 0x320000, 0x32FFFF), (.net, 0x340000, 0x34FFFF),
  (.usb, 0x360000, 0x36FFFF), (.timer, 0x370000, 0x37FFFF), (.keybed, 0x380000, 0x38FFFF), (.uart, 0x390000, 0x397FFF),
  (.i2c, 0x398000, 0x39BFFF), (.flash, 0x39C000, 0x39FFFF), (.clock, 0x3A0000, 0x3AFFFF), (.windlass, 0x3B0000, 0x3BFFFF),
  (.supply, 0x3C0000, 0x3CFFFF), (.pair, 0x3D0000, 0x3DFFFF), (.observe, 0x3E0000, 0x3EFFFF)]

/-- The block of a BAR0 offset. -/
def blockOf (ofs : Nat) : Option Block :=
  (blockSpans.find? (fun x => decide (x.2.1 ≤ ofs) && decide (ofs ≤ x.2.2))).map Prod.fst

/-- The observation blocks (R21). -/
def Block.observation : Block → Bool
  | .clock | .windlass | .supply | .pair | .observe => true
  | _ => false

/-- Whether a device state gives the host access to a block (Table 6 of chapter 01). -/
def DevPhase.opens (p : DevPhase) (b : Block) : Bool :=
  let always := b == .ident || b == .spawn || b.observation
  match p with
  | .off | .aon | .dormantK | .dormantL => false
  | .loading | .unspawned => always
  | .running => true
  | .parked => always || b == .evsrc || b == .wellctl
  | .safe => always || b == .evsrc

/-- Whether the device serves host accesses at all: in OFF, AON and dormancy it does not, but during a wake it serves what LOADING
serves (R11, R80). -/
def State.opens (s : State) (b : Block) : Bool :=
  s.dev.phase.opens b || (s.dev.waking && DevPhase.loading.opens b)

/-- Whether host accesses are served at all. -/
def State.hostServed (s : State) : Bool := s.opens .ident

/-- The tenancies whose functions see more than IDENT and their own zeros: the steward, and those present (R93). -/
def State.seen (s : State) (t : Nat) : Bool := t == 0 || s.present t

/-! ### Fields (R6 to R8) -/

/-- A W1C write to n status bits. -/
def w1c {n : Nat} (x : BitVec n) (v : Word) : BitVec n := x &&& ~~~(v.setWidth n)

/-! ### The host write-combining buffer (R106) -/

/-- The runs of written bytes of a line: offset and bytes. -/
def wcbRuns (bytes : List (Option Byte)) : List (Nat × List Byte) :=
  (bytes.zipIdx.foldl (fun (acc : List (Nat × List Byte)) x => match x.1 with
    | none => acc
    | some b => match acc with
      | (o, l) :: rest => if o + l.length = x.2 then (o, l ++ [b]) :: rest else (x.2, [b]) :: acc
      | [] => [(x.2, [b])]) []).reverse

/-- One entry written to its cistern. -/
def State.retire (s : State) (e : WcbEntry) : State :=
  (wcbRuns e.bytes).foldl (fun s r => s.cisWrite (e.line * 64 + r.1) r.2) s

/-- The entries for which p holds retired, in the order they were opened. -/
def State.retireIf (s : State) (p : WcbEntry → Bool) : State :=
  let hit := s.host.wcb.filter p
  hit.foldl State.retire (s.modHost (fun h => { h with wcb := h.wcb.filter (fun e => !p e) }))

/-- Every entry retired, as every later BAR0 access and every read require (R106). -/
def State.retireAll (s : State) : State := s.retireIf (fun _ => true)

/-- A line's bytes with some of them written. -/
def mergeBytes (old : List (Option Byte)) (at_ : Nat) (bs : List Byte) : List (Option Byte) :=
  (List.range 64).map (fun i => if at_ ≤ i ∧ i < at_ + bs.length then bs[i - at_]? else (old[i]?).join)

/-- Bytes of one line entering the buffer: into an open entry of the line, or a new one, the oldest retiring when all 16 are
open; a full entry retires. -/
def State.wcbPut (s : State) (fn x : Nat) (bs : List Byte) : State :=
  let line := x / 64
  let opened := s.host.wcb.any (fun e => e.fn == fn && e.line == line)
  let s0 := if opened || decide (s.host.wcb.length < 16) then s
    else match s.host.wcb.head? with
      | some e => (s.modHost (fun h => { h with wcb := h.wcb.drop 1 })).retire e
      | none => s
  let merge (e : WcbEntry) : WcbEntry :=
    if e.fn == fn && e.line == line then { e with bytes := mergeBytes e.bytes (x % 64) bs } else e
  let fresh : WcbEntry := { fn := fn, line := line, bytes := mergeBytes [] (x % 64) bs }
  let s1 := s0.modHost (fun h => { h with wcb := if opened then h.wcb.map merge else h.wcb ++ [fresh] })
  s1.retireIf (fun e => e.fn == fn && e.line == line && e.bytes.all Option.isSome)

/-- The parts of a write that fall into different lines. -/
def lineParts (x : Nat) (bs : List Byte) : List (Nat × List Byte) :=
  (linesOf x bs.length).map (fun l =>
    let lo := max x (l * 64)
    (lo, (bs.drop (lo - x)).take (l * 64 + 64 - lo)))

/-- A host write to BAR2 of function t (R91 to R93, R106, R259): denied to an absent tenancy and outside its cisterns, held while a handover
has the cistern. DEDUCED: "wells" in the PARKED row of Table 6 of chapter 01 opens BAR2 whole, not the rings alone (log entry 111). -/
def State.bar2Store (s : State) (t x : Nat) (bs : List Byte) : State :=
  if s.dev.phase != .running && s.dev.phase != .parked then s
  else if !(s.seen t && s.ownsRange t x bs.length) then s.denied t x true true
  else if s.cisHolds (x / cisBytes) then s.modMem (fun m => { m with held := m.held ++ [.write t x bs] })
  else (lineParts x bs).foldl (fun s p => s.wcbPut t p.1 p.2) s

/-- What a host read of BAR2 gives. -/
inductive Bar2Read where
  | data (words : List Word) (ecc : EccView)
  | held
deriving DecidableEq, Repr

/-- A host read of words from BAR2 of function t. -/
def State.bar2Load (s0 : State) (t x words : Nat) : State × Bar2Read :=
  let s := s0.retireAll
  if s.dev.phase != .running && s.dev.phase != .parked then (s, .data (List.replicate words 0#32) .clean)
  else if !(s.seen t && s.ownsRange t x (4 * words)) then (s.denied t x false true, .data (List.replicate words 0#32) .clean)
  else if s.cisHolds (x / cisBytes) then (s.modMem (fun m => { m with held := m.held ++ [.read t x words] }), .held)
  else ((s.noteEcc x (4 * words) false).settleCis x (4 * words),
        .data ((List.range words).map (fun i => s.mem.cis.word (x + 4 * i))) (eccView s.mem.cisEcc x (4 * words)))

/-- A completion with data of a BAR2 read: poisoned, with the function's AER record, where the data met an uncorrectable error (R279). -/
def State.bar2Answer (s : State) (t : Nat) (words : List Word) (ecc : EccView) : State :=
  if ecc == .uncorrectable then
    (s.modHost (fun h => { h with fns := h.fns.upd t (fun f => { f with aerPoisoned := true }) })).emit (.pcieData t words true)
  else s.emit (.pcieData t words false)

/-- A register access of tenancy t at a BAR0 offset: nothing while the state does not open the block, denied where the tenancy is
absent or `sees` is false, otherwise k on the state with the write-combining buffer retired (R64, R91 to R93, R106). -/
def State.access (s : State) (t ofs : Nat) (write sees : Bool) (k : State → State) : State :=
  let s0 := if s.hostServed then s.retireAll else s
  match blockOf ofs with
  | none => if s.hostServed then s0.denied t ofs write false else s0
  | some b =>
    if !s.opens b then s0
    else if s.seen t && sees then k s0
    else s0.denied t ofs write false

end Sys2Proof.Machine
end

