-- ==== Sys2Proof/Machine/MemoryCmds.lean ====
section
/-! DEFINITION. The commands of chapter 11: handover and wipe, pumps, the directory, scrub, the sealed cistern and the aquifer. -/

namespace Sys2Proof.Machine

/-- The arguments that stand in a quick port. -/
def State.qpArgs (s : State) (n : Nat) : Bank Word 8 := (s.qports.get n).args

/-- A write of QP_OP by tenancy t that submits an operation (R121). -/
def State.qpWrite (s : State) (t : Nat) (sub : State → Nat → Bank Word 8 → SubmitVia → State) : State :=
  s.access t 0x1020 true true (fun s => sub s t (s.qpArgs t) .port)

/-! ### Handover and wipe (R258 to R260) -/

/-- The requests held for a cistern, served or refused as they now stand (R259). -/
def State.serveHeld (s : State) (c : Nat) : State :=
  let touches (h : HeldReq) : Bool := match h with
    | .write _ x _ => x / cisBytes == c
    | .read _ x _ => x / cisBytes == c
  let hit := s.mem.held.filter touches
  let s1 := s.modMem (fun m => { m with held := m.held.filter (fun h => !touches h) })
  hit.foldl (fun s h => match h with
    | .write t x bs => s.bar2Store t x bs
    | .read t x n =>
      let r := s.bar2Load t x n
      match r.2 with
      | .data ws e => r.1.bar2Answer t ws e
      | .held => r.1) s1

/-- Whether something that R259 names keeps a cistern from being handed over: a well ring, a spill area or a MIRROR region of its
owner, or the image of a running SPAWN_TENANCY. -/
def State.handoverBlocked (s : State) (c : Nat) : Bool :=
  let lo := c * cisBytes
  let hi := lo + cisBytes
  let meets (x n : Nat) : Bool := decide (x < hi) && decide (lo < x + n)
  (match s.cisOwner c with
    | none => false
    | some k =>
      let t := s.tcfg k
      t.wells.any (fun r => meets r.ring (2 ^ r.k * 64)) || t.spore.spills.any (fun r => r.cistern == c) ||
        t.cisterns.regions.any (fun r => r.mirror && r.cistern == c)) ||
    s.ops.any (fun o => o.code == .spawnTenancy && o.done.isNone && meets (o.args.get 1).toNat (o.args.get 2).toNat)

/-- Whether a handover wipes: when asked, or when the owner is a tenancy other than the steward (R259). -/
def State.handoverWipes (s : State) (args : Bank Word 8) : Bool :=
  (args.get 1).getLsbD 16 || (match s.cisOwner (args.get 0).toNat with
    | some k => k != 0
    | none => false)

/-- DRAINING begins: the host's write-combining entries for the cistern retire, and new requests are held (R259). -/
def State.startDrain (s : State) (h : Word) : State :=
  match s.findOp h with
  | none => s
  | some o =>
    let c := (o.args.get 0).toNat
    let s1 := s.retireIf (fun e => e.line * 64 / cisBytes == c)
    (s1.modMem (fun m => { m with banks := m.banks.upd c (fun b => { b with draining := some h }) })).updOp h
      (fun o => { o with started := true })

/-- The owner that a handover gives a cistern: ARG1. -/
def newOwner (args : Bank Word 8) : Option Nat :=
  if (args.get 1).getLsbD 8 then none else some (bits (args.get 1) 2 0)

/-- CISTERN_HANDOVER submitted (R258, R259). An absent tenancy can own nothing, so it is no new owner. -/
def State.subHandover (s : State) (n : Nat) (args : Bank Word 8) (via : SubmitVia) : State :=
  let c := (args.get 0).toNat
  let wipes := s.handoverWipes args
  s.submit n .cisternHandover args (if wipes then 20 else 0) via (fun h s =>
    if 24 ≤ c then s.finishOp h csBadArg []
    else if (newOwner args).any (fun n => !s.present n) then s.finishOp h csBadArg []
    else
      let b := s.mem.banks.get c
      if b.owner.isSome && b.owner != some 0 && !b.release then s.finishOp h csNotOwned []
      else if s.handoverBlocked c || s.cisHolds c then s.finishOp h csBadArg []
      else if wipes then s.requestPermit h
      else s.startDrain h)

/-- CISTERN_HANDOVER. -/
def execCisternHandover (t : Fin 8) (s : State) : Res := .next (s.qpWrite t State.subHandover)

/-- HANDOVER_COMMIT: ownership switches, held requests are refused, the old REGION records go, and a wipe begins (R259). -/
def State.handoverCommit (s : State) (c : Nat) : State :=
  match (s.mem.banks.get c).draining with
  | none => s
  | some h => match s.findOp h with
    | none => s
    | some o =>
      let wipes := decide (0 < o.cost)
      let old := s.cisOwner c
      let s1 := s.modMem (fun m => { m with banks := m.banks.upd c (fun b =>
        { b with owner := newOwner o.args, release := false, draining := none, wiping := none }) })
      let dropRegion (x : TenancyCfg) : TenancyCfg :=
        { x with cisterns := { x.cisterns with regions := x.cisterns.regions.filter (fun r => r.cistern != c) } }
      let s2 := match old with
        | none => s1
        | some k => s1.modSpawn (fun p => { p with active := { p.active with ten := p.active.ten.upd k dropRegion } })
      let s3 := (s2.serveHeld c).updOp h (fun o => { o with committed := true })
      if wipes then s3.modMem (fun m => { m with banks := m.banks.upd c (fun b => { b with wiping := some h }) })
      else s3.finishOp h csDone []

/-- HANDOVER_COMMIT. -/
def execHandoverCommit (c : Fin 24) (s : State) : Res := .next (s.handoverCommit c)

/-- n bytes of cistern memory at x zeroed, with their ECC rewritten (R260). Those of a MIRROR region are queued like any write (R278). -/
def State.cisZero (s : State) (x n : Nat) : State :=
  let s1 := s.modMem (fun m => { m with
    cis := m.cis.wipe x n,
    cisEcc := m.cisEcc.filter (fun e => !(decide (x ≤ e.1 * 8) && decide (e.1 * 8 + 8 ≤ x + n))) })
  if s.role == .primary then ((s1.mirrorWrites (linesOf x n)).settleCis x n).settle 992 else s1

/-- WIPE_DONE of the cisterns that n bytes at x touch. -/
def State.wipeDone (s : State) (x n : Nat) : State :=
  (cisOf x n).foldl (fun s c =>
    (s.modMem (fun m => { m with banks := m.banks.upd c (fun b => { b with status := b.status ||| 8#4 }) })).settle (864 + c)) s

/-- HANDOVER_WIPE_DONE: the cistern reads as zero, the operation is DONE and the new owner's requests are served (R259). -/
def State.handoverWipeDone (s : State) (c : Nat) : State :=
  match (s.mem.banks.get c).wiping with
  | none => s
  | some h =>
    let s1 := (s.cisZero (c * cisBytes) cisBytes).modMem (fun m =>
      { m with banks := m.banks.upd c (fun b => { b with wiping := none }) })
    ((s1.wipeDone (c * cisBytes) 1).finishOp h csDone []).serveHeld c

/-- HANDOVER_WIPE_DONE. -/
def execHandoverWipeDone (c : Fin 24) (s : State) : Res := .next (s.handoverWipeDone c)

/-- CISTERN_WIPE submitted (R125, R260). -/
def State.subWipe (s : State) (n : Nat) (args : Bank Word 8) (via : SubmitVia) : State :=
  let x := (args.get 0).toNat
  let len := (args.get 1).toNat
  s.submit n .cisternWipe args 20 via (fun h s =>
    if x % 64 ≠ 0 ∨ len % 64 ≠ 0 then s.finishOp h csBadArg []
    else if !s.ownsRange n x len then s.finishOp h csNotOwned []
    else s.requestPermit h)

/-- CISTERN_WIPE. -/
def execCisternWipe (t : Fin 8) (s : State) : Res := .next (s.qpWrite t State.subWipe)

/-- A wipe that has lost its range to a handover: what it has zeroed stays, and it completes NOT_OWNED (R94, R126). -/
def State.wipeKeeps (s : State) (o : LongOp) : Bool := s.ownsRange o.ten (o.args.get 0).toNat (o.args.get 1).toNat

/-- The wipe of an operation carried on to byte n of its range (R260); progress is how far it has come. -/
def State.wipeTo (s : State) (o : LongOp) (n : Nat) : State :=
  (s.cisZero ((o.args.get 0).toNat + o.progress) (n - o.progress)).updOp o.handle (fun o => { o with progress := max o.progress n })

/-- The first zero write of a wipe, its commit point: one 32-byte word (R260, Table 12 of chapter 05). -/
def State.startWipe (s : State) (o : LongOp) : State :=
  if s.wipeKeeps o then
    (s.wipeTo o (min 32 (o.args.get 1).toNat)).updOp o.handle (fun o => { o with started := true, committed := true })
  else s.finishOp o.handle csNotOwned []

/-- The operation with a handle, if it is a wipe under way. -/
def State.wiper (s : State) (h : Word) : Option LongOp :=
  (s.findOp h).filter (fun o => o.code == .cisternWipe && o.committed && o.done.isNone)

/-- The words a wipe takes between two scrub cycles: at least every second of the 63 others, and all of them when the port is otherwise
idle (R260); which is free. -/
def wipeWords (free : Word) : Nat := 31 + free.toNat % 33

/-- The wipes under way in the 63 cycles up to a scrub cycle. DESIGN CHOICE: a wipe's position moves at SCRUB_CYCLE, the one command that
counts CIS cycles, and at its end (log entry 115). -/
def State.wipeStep (s : State) : State :=
  (s.ops.filter (fun o => (s.wiper o.handle).isSome)).foldl (fun s o =>
    if s.wipeKeeps o then
      (s.wipeTo o (min (o.args.get 1).toNat (o.progress + 32 * wipeWords (Config.freeWord s.free)))).modFree (· + 1)
    else s.finishOp o.handle csNotOwned []) s

/-- CISTERN_WIPE_DONE: the wipe has passed its whole range (R260). -/
def State.cisternWipeDone (s : State) (h : Word) : State :=
  match s.wiper h with
  | none => s
  | some o =>
    if s.wipeKeeps o then
      ((s.wipeTo o (o.args.get 1).toNat).wipeDone (o.args.get 0).toNat (o.args.get 1).toNat).finishOp h csDone []
    else s.finishOp h csNotOwned []

/-- CISTERN_WIPE_DONE. -/
def execCisternWipeDone (handle : Word) (s : State) : Res := .next (s.cisternWipeDone handle)

/-- CIS_RELEASE_WRITE: the owner allows or withdraws a handover; clearing RELEASE during DRAINING ends it ABORTED (R258). -/
def State.cisRelease (s : State) (c : Nat) (v : Word) : State :=
  let on := v.getLsbD 0
  let s1 := s.modMem (fun m => { m with banks := m.banks.upd c (fun b => { b with release := on }) })
  match (s.mem.banks.get c).draining with
  | some h =>
    if !on && (s.mem.banks.get c).release then
      ((s1.modMem (fun m => { m with banks := m.banks.upd c (fun b => { b with draining := none }) })).finishOp h csAborted
        []).serveHeld c
    else s1
  | none => s1

/-- CIS_RELEASE_WRITE. -/
def execCisReleaseWrite (t : Fin 8) (c : Fin 24) (v : Word) (s : State) : Res :=
  .next (s.access t (0x200004 + 0x40 * c) true (s.cisOwner c == some t.val) (fun s => s.cisRelease c v))

/-! ### Pumps (R273 to R277) -/

/-- A bulk operation submitted (R265, R275). -/
def State.subBulk (s : State) (c : LongCode) (n : Nat) (args : Bank Word 8) (via : SubmitVia) : State :=
  let a := bulkArgs c args
  s.submit n c args 8 via (fun h s =>
    if 32 ≤ a.pump ∨ a.src % 64 ≠ 0 ∨ a.dst % 64 ≠ 0 ∨ a.len % 64 ≠ 0 ∨ (a.slot.any (fun k => decide (64 ≤ k))) then
      s.finishOp h csBadArg []
    else if s.pumpOwner a.pump ≠ some n ∨ (a.slot.any (fun k => s.keyOwner k != some n)) then s.finishOp h csNotOwned []
    else (s.updOp h (fun o => { o with value := 0xFFFFFFFF#32 })).requestPermit h)

/-- PUMP_BULK submitted. -/
def State.subPumpBulk (s : State) (n : Nat) (args : Bank Word 8) (via : SubmitVia) : State := s.subBulk .pumpBulk n args via

/-- SAMPLE_LOAD submitted. -/
def State.subSampleLoad (s : State) (n : Nat) (args : Bank Word 8) (via : SubmitVia) : State := s.subBulk .sampleLoad n args via

/-- PUMP_BULK. -/
def execPumpBulk (t : Fin 8) (s : State) : Res := .next (s.qpWrite t State.subPumpBulk)

/-- SAMPLE_LOAD. -/
def execSampleLoad (t : Fin 8) (s : State) : Res := .next (s.qpWrite t State.subSampleLoad)

/-- Whether memory traffic of pumps runs in the device state. -/
def DevPhase.pumping : DevPhase → Bool
  | .running => true
  | _ => false

/-- PUMP_STREAM_FILL: one line of the stream that needs it most, or of bulk work when no ring has room (R275, R276). -/
def State.pumpFill (s : State) (p : Nat) : State :=
  match s.pumpOwner p with
  | none => s
  | some t =>
    if !s.dev.phase.pumping then s
    else match s.streamPick p with
      | some (k, x) => s.serveStream p t k x
      | none => match s.bulkHead p with
        | some o => if o.mayRun then s.bulkStep p t o else s
        | none => s

/-- PUMP_STREAM_FILL. -/
def execPumpStreamFill (p : Fin 32) (s : State) : Res := .next (s.pumpFill p)

/-- Pump p's lines, streams first, until a bulk descriptor has ended or the bound is reached. -/
def State.bulkRun : Nat → State → Nat → Word → State
  | 0, s, _, _ => s
  | k + 1, s, p, h =>
    match s.findOp h with
    | none => s
    | some o => if o.done.isSome || !o.mayRun then s else State.bulkRun k (s.pumpFill p) p h

/-- BULK_DONE: the descriptor's remaining lines, up to its final store; streams still come before each of them (R125, R275). The bound
covers every line of the descriptor read and stored, and every ring of the pump filled. -/
def State.bulkDone (s : State) (h : Word) : State :=
  match s.findOp h with
  | none => s
  | some o =>
    let a := bulkArgs o.code o.args
    if s.dev.phase.pumping && o.isBulkOf a.pump && o.mayRun && ((s.bulkHead a.pump).map LongOp.handle == some h) then
      s.bulkRun (2 * (a.len / 64) + 2 + 4096) a.pump h
    else s

/-- BULK_DONE. -/
def execBulkDone (handle : Word) (s : State) : Res := .next (s.bulkDone handle)

/-- STREAM_CONTEXT_WAIT_END: the oldest waiting start takes a freed context (R275). -/
def State.streamWaitEnd (s : State) (p : Nat) : State :=
  let q := s.pumps.get p
  match q.waiting, q.streams.toList.findIdx? (fun c => c.isNone) with
  | x :: rest, some k =>
    let active := (q.streams.toList.filter Option.isSome).length + 1
    s.modPumps (fun b => b.upd p (fun q =>
      { q with waiting := rest, streams := q.streams.put k (some x), peak := max q.peak active }))
  | _, _ => s

/-- STREAM_CONTEXT_WAIT_END. -/
def execStreamContextWaitEnd (p : Fin 32) (s : State) : Res := .next (s.streamWaitEnd p)

/-- PU_FLUSH: FLUSH invalidates the pump's cached translations (R274). -/
def State.puCtrl (s : State) (p : Nat) (v : Word) : State :=
  if v.getLsbD 0 then s.modPumps (fun b => b.upd p (fun q => { q with cache := [] })) else s

/-- PU_FLUSH. -/
def execPuFlush (t : Fin 8) (p : Fin 32) (v : Word) (s : State) : Res :=
  .next (s.access t (0x210004 + 0x100 * p) true (s.pumpOwner p == some t.val) (fun s => s.puCtrl p v))

/-! ### The directory (R271, R272) -/

/-- Whether a device address lies in the partition of an engine's owner: the lines it may cache (R271). -/
def State.l1Line (s : State) (e addr : Nat) : Bool :=
  match s.engineOwner e with
  | none => false
  | some n => decide ((s.partition n).1 ≤ addr) && decide (addr < (s.partition n).1 + (s.partition n).2)

/-- Whether engine e holds a line, to read it or as its owner. The directory may still list a clean line that e has evicted. -/
def MemState.holds (m : MemState) (e line : Nat) (own : Bool) : Bool :=
  match m.dirOf line with
  | none => false
  | some (.shared l) => !own && l.contains e && (m.ways.get e).contains line
  | some (.exclusive h) => !own && h == e && (m.ways.get e).contains line
  | some (.modified h) => h == e

/-- A line placed in engine e's L1; which way a full set gives up is a free value. -/
def State.l1Fill (s : State) (e line : Nat) : State := s.modMem (fun m => m.fill e line (Config.l1Victim s.time.devTime e line))

/-- A read miss of engine e on a line, which counts (R271, count event 0x0A). -/
def State.l1Gets (s : State) (e addr : Nat) : State :=
  let line := addr / 64
  if s.mem.holds e line false then s
  else ((s.l1Fill e line).modMem (fun m => m.gets e line)).count ((s.engineOwner e).getD 0) 10 e 1

/-- An ownership request of engine e on a line. -/
def State.l1Getm (s : State) (e addr : Nat) : State :=
  let line := addr / 64
  if s.mem.holds e line true then s
  else ((s.l1Fill e line).modMem (fun m => m.getm e line)).count ((s.engineOwner e).getD 0) 10 e 1

/-- DIRECTORY_GETS. -/
def execDirectoryGets (e : Fin 4) (addr : Nat) (s : State) : Res := .next (if s.l1Line e addr then s.l1Gets e addr else s)

/-- DIRECTORY_GETM. -/
def execDirectoryGetm (e : Fin 4) (addr : Nat) (s : State) : Res := .next (if s.l1Line e addr then s.l1Getm e addr else s)

/-- DIRECTORY_PUTM: a write-back of a line the engine holds modified. -/
def execDirectoryPutm (e : Fin 4) (addr : Nat) (s : State) : Res :=
  .next (if s.l1Line e addr then s.modMem (fun m => m.putm e (addr / 64)) else s)

/-- Whether a device address lies in the partition of a pump's owner. -/
def State.pumpLine (s : State) (p addr : Nat) : Bool :=
  match s.pumpOwner p with
  | none => false
  | some n => decide ((s.partition n).1 ≤ addr) && decide (addr < (s.partition n).1 + (s.partition n).2)

/-- PUMP_COHERENT_READ: a holder of M keeps the line in S (R271). -/
def execPumpCoherentRead (p : Fin 32) (addr : Nat) (s : State) : Res :=
  .next (if s.pumpLine p addr then s.modMem (fun m => m.pumpReads (addr / 64)) else s)

/-- PUMP_COHERENT_WRITE: every copy is invalidated, then the write is applied (R271). -/
def execPumpCoherentWrite (p : Fin 32) (addr : Nat) (data : List Byte) (s : State) : Res :=
  .next (if s.pumpLine p addr then s.aqWrite (addr / 64 * 64) (data.take 64) else s)

/-! ### Scrub (R257) -/

/-- One scrub cycle of cistern c. -/
def State.scrubOne (s : State) (c : Nat) : State :=
  let b := s.mem.banks.get c
  let x := c * cisBytes + b.scrubPos * 32
  let next (b : Cistern) : Cistern := { b with scrubPos := (b.scrubPos + 1) % 65536, writeBack := false }
  if b.writeBack then
    s.modMem (fun m => { m with
      cisEcc := m.cisEcc.filter (fun e => e.2 || !(decide (x ≤ e.1 * 8) && decide (e.1 * 8 < x + 32))),
      banks := m.banks.upd c next })
  else match eccView s.mem.cisEcc x 32 with
    | .clean => s.modMem (fun m => { m with banks := m.banks.upd c next })
    | .corrected =>
      ((s.noteEcc x 32 true).modMem (fun m =>
        { m with banks := m.banks.upd c (fun b => { b with writeBack := true }) })).settle (864 + c)
    | .uncorrectable =>
      ((s.noteEcc x 32 true).modMem (fun m => { m with banks := m.banks.upd c next })).settle (864 + c)

/-- SCRUB_CYCLE: every 64th CIS cycle each cistern scrubs one word, in the states in which cisterns are powered; wipes have moved on in the 63
cycles before it. -/
def execScrubCycle (s : State) : Res :=
  .next (match s.dev.phase with
    | .off | .aon | .dormantK | .dormantL => s
    | _ => (List.range 24).foldl State.scrubOne s.wipeStep)

/-! ### The sealed cistern (R262, R263, R394) -/

/-- SEAL_KEY_INSTALL submitted. It costs no permit, so it runs to its commit point at acceptance (R262, R394). -/
def State.subSealKey (s : State) (n : Nat) (args : Bank Word 8) (via : SubmitVia) : State :=
  let k := (args.get 0).toNat
  let x := (args.get 1).toNat
  s.submit n .sealKeyInstall args 0 via (fun h s =>
    if 64 ≤ k ∨ x % 64 ≠ 0 ∨ !s.ownsRange n x 64 then s.finishOp h csBadArg []
    else if s.keyOwner k ≠ some n then s.finishOp h csNotOwned []
    else if s.mem.sealWiping || s.dev.tamperLow then s.finishOp h csAborted []
    else
      let s1 := s.retireAll
      let view := eccView s1.mem.cisEcc x 16
      let s2 := (s1.noteEcc x 16 false).settleCis x 16
      if view = .uncorrectable then s2.finishOp h csEcc []
      else
        let key := s2.mem.cis.getBytes x 16
        let s3 := (s2.modMem (fun m => { m with keys := m.keys.put k (some key) })).updOp h
          (fun o => { o with committed := true })
        let s4 := if (args.get 2).getLsbD 0 then s3.cisWrite x (List.replicate 64 0#8) else s3
        s4.finishOp h csDone [])

/-- SEAL_KEY_INSTALL. -/
def execSealKeyInstall (t : Fin 8) (s : State) : Res := .next (s.qpWrite t State.subSealKey)

/-- TAMPER: TAMPER_N low wipes the sealed cistern and raises ES0979, in every state except OFF (R394). -/
def execTamper (s : State) : Res :=
  .next (if s.dev.phase == .off || s.dev.tamperLow then s
    else ((s.modDev (fun d => { d with tamperLow := true })).sealWipe true).supplyFlag 5)

/-- TAMPER_RELEASE: TAMPER_N is high again (R394). -/
def execTamperRelease (s : State) : Res :=
  .next (if s.dev.phase == .off then s else s.modDev (fun d => { d with tamperLow := false }))

/-- SEALED_WIPE_DONE: the wipe ends, and ES0888 is raised (R263). -/
def execSealedWipeDone (s : State) : Res :=
  .next (if s.mem.sealWiping then (s.modMem (fun m => { m with sealWiping := false })).pulse 888 0#32 else s)

/-! ### The aquifer (R266 to R269) -/

/-- AQUIFER_TRAIN submitted (R269). -/
def State.subTrain (s : State) (n : Nat) (args : Bank Word 8) (via : SubmitVia) : State :=
  s.submit n .aquiferTrain args 15 via (fun h s => s.requestPermit h)

/-- AQUIFER_TRAIN. -/
def execAquiferTrain (t : Fin 8) (s : State) : Res := .next (s.qpWrite t State.subTrain)

/-- The capacity C for a raw capacity, with or without inline ECC, in MiB (R266). -/
def aqCapacity (raw : Nat) (iecc : Bool) : Nat := if iecc then 7 * raw / 8 else raw

/-- The controller after a training: inline ECC is as AQ_CTRL.IECC has it (R266). One that has failed to train has no capacity. -/
def AqState.retrained (q : AqState) : AqState := if q.trained then { q with iecc := q.ctrl, cap := aqCapacity q.raw q.ctrl } else q

/-- The end of a training at start-up, at a wake or at an unpark: whether it succeeds is free; a failure leaves C = 0 and raises ES0889
(R266, R270). -/
def State.aqTrained (s : State) : State :=
  if !s.aq.trained then s
  else if Config.aqTrains s.free then (s.modAq AqState.retrained).modFree (· + 1)
  else ((s.modAq (fun q => { q with trained := false, trainFail := true, channels := 0#2, cap := 0 })).modFree (· + 1)).pulse 889 0#32

/-- The controller after an AQUIFER_TRAIN with a number of channels trained. DESIGN CHOICE: an aquifer whose training failed comes into use
when both of its channels have trained; the manual does not say how it does (log entry 36). -/
def AqState.trainedOn (q : AqState) (count : Nat) : AqState :=
  if q.trained then q.retrained
  else if count = 2 then { q with trained := true, trainFail := false, channels := 3#2 }.retrained
  else q

/-- The channels of a training mask. -/
def maskCount (m : Nat) : Nat := m % 2 + m / 2 % 2

/-- The AQUIFER_TRAIN that uses the refresh windows. -/
def State.trainer (s : State) : Option LongOp :=
  s.ops.find? (fun o => o.code == .aquiferTrain && o.mayRun && (o.permit == .granted || o.committed))

/-- One training step in a window: the first is the commit point, every 256th ends a channel, and the last the operation; inline
ECC takes effect with the training (R266, R269). ok says whether the channel that ends has trained. -/
def State.trainStep (s : State) (o : LongOp) (ok : Bool) : State :=
  let m := bits (o.args.get 0) 1 0
  let steps := 256 * maskCount m
  let p := o.progress + 1
  let good := if p % 256 = 0 ∧ p ≤ steps ∧ ok ∧ s.aq.present then 1 else 0
  let count := o.value.toNat + good
  let s1 := s.updOp o.handle (fun o => { o with committed := true, progress := p, value := w32 count })
  if steps ≤ p then
    (s1.modAq (fun q => q.trainedOn count)).finishOp o.handle csDone [w32 count]
  else s1

/-- The tenancy whose partition holds a device address. -/
def State.partitionOwner (s : State) (a : Nat) : Option Nat :=
  firstTen (fun n => decide ((s.partition n).1 ≤ a) && decide (a < (s.partition n).1 + (s.partition n).2))

/-- The patrol scrub of one line with inline ECC (R268): the next line of the memory fitted, with its finding. -/
def State.patrolStep (s : State) (view : EccView) : State :=
  let line := s.aq.patrol
  let lines := s.aq.raw * 1048576 / 64
  let s1 := s.modAq (fun q => { q with patrol := if line + 1 < lines then line + 1 else 0 })
  let seen := match view with
    | .clean => eccView s.mem.aqEcc (line * 64) 64
    | v => v
  match seen with
  | .clean => s1
  | .corrected =>
    (s1.modAq (fun q => { q with cecc := errCount q.cecc 1 })).modMem (fun m =>
      { m with aqEcc := m.aqEcc.filter (fun e => e.2 || e.1 / 8 != line) })
  | .uncorrectable =>
    let s2 := s1.modAq (fun q => { q with uecc := errCount q.uecc 1, elog := w32 line })
    let s3 := match s.partitionOwner (line * 64) with
      | some n => s2.modAq (fun q => { q with
          pstatus := q.pstatus.put n true,
          pelog := q.pelog.put n (w32 ((line * 64 - (s.partition n).1) / 64)) })
      | none => s2
    s3.pulse 889 0#32

/-- What a refresh window does: a training or ZQ step, a drift check or nothing, and the patrol (R268, R269, R279). -/
def State.refreshStep (s : State) (patrol : EccView) (trainOk : Bool) : State :=
  let s1 := match s.trainer with
    | some o => s.trainStep o trainOk
    | none =>
      if s.aq.zqDue then s.modAq (fun q => { q with zqDue := false })
      else if s.aq.dqsDue then s.modAq (fun q => { q with dqsDue := false })
      else s
  if s1.aq.iecc then s1.patrolStep patrol else s1

/-- AQUIFER_REFRESH: a refresh window with its refresh and at most one training, ZQ or DQS step, and a patrol line with inline ECC
(R268). The window's length in AQC cycles is the refresh's, or the longest with a step. -/
def State.refresh (s : State) (patrol : EccView) (trainOk : Bool) : State :=
  if s.aq.selfRefresh || s.aq.deepDown then s
  else
    let cycles := (Config.freeWord s.free).toNat % 640
    let s0 := (s.modAq (fun q => { q with winMax := max q.winMax cycles })).modFree (· + 1)
    s0.refreshStep patrol trainOk

/-- AQUIFER_REFRESH. -/
def execAquiferRefresh (patrol : EccView) (trainOk : Bool) (s : State) : Res := .next (s.refresh patrol trainOk)

/-- ZQ_CALIBRATION falls due; the next free window runs it (R268). -/
def execZqCalibration (s : State) : Res :=
  .next (if !s.aq.selfRefresh && !s.aq.deepDown then s.modAq (fun q => { q with zqDue := true }) else s)

/-- DQS_DRIFT_CHECK falls due; the next free window runs it (R268). -/
def execDqsDriftCheck (s : State) : Res :=
  .next (if !s.aq.selfRefresh && !s.aq.deepDown then s.modAq (fun q => { q with dqsDue := true }) else s)

/-- AQ_CTRL_WRITE: IECC takes effect at the next training (R266, R282). -/
def State.aqCtrl (s : State) (v : Word) : State := s.modAq (fun q => { q with ctrl := v.getLsbD 0 })

/-- AQ_CTRL_WRITE. -/
def execAqCtrlWrite (t : Fin 8) (v : Word) (s : State) : Res :=
  .next (s.access t 0x220104 true (t == 0) (fun s => s.aqCtrl v))

end Sys2Proof.Machine
end

