-- ==== Sys2Proof/Machine/Outputs.lean ====
section
/-! DEFINITION. What entering and leaving RUNNING does to the outputs, the voices and the memories: fades (R313), high impedance
and its end (R319, R320), voices freed (R24), the drain of stores (R277, R278). -/

namespace Sys2Proof.Machine

/-! ### Fade gains (R313) -/

/-- The fade gain that a fade has reached. -/
def Fade.gain (f : Fade) : F32 :=
  if f.len ≤ f.pos then f.target else gAdd f.from_ (gMul (gSub f.target f.from_) (gRatio f.pos f.len))

/-- A fade from the gain reached to a target over len frames. -/
def Fade.start (f : Fade) (target : F32) (len : Nat) : Fade := { from_ := f.gain, target := target, len := len, pos := 0 }

/-- A fade one frame on. -/
def Fade.advance (f : Fade) : Fade := if f.pos < f.len then { f with pos := f.pos + 1 } else f

/-- A fade gain that stands at a value. -/
def Fade.at_ (v : F32) : Fade := { from_ := v, target := v, len := 0, pos := 0 }

/-- Tenancy n's fade gain starts towards a target. -/
def State.fadeTo (s : State) (n : Nat) (target : F32) (len : Nat) : State :=
  s.modSpout (fun p => { p with fades := p.fades.upd n (fun f => f.start target len) })

/-- Every tenancy's fade gain starts towards 0.0 (R392, R78). -/
def State.fadeAll (s : State) (len : Nat) : State :=
  s.modSpout (fun p => { p with fades := p.fades.mapi (fun _ f => f.start 0#32 len) })

/-- A dormant entry under way starts its output fade over PARK_FADE when no long operation is left to complete (R78). -/
def State.dormantFadeStart (s : State) : State :=
  match s.dev.dormEntry with
  | none => s
  | some e =>
    if e.fadeLeft.isNone && s.ops.all (fun o => o.done.isSome) then
      (s.fadeAll s.cfg.dev.parkFade).modDev (fun d => { d with dormEntry := some { e with fadeLeft := some s.cfg.dev.parkFade } })
    else s

/-! ### High impedance -/

/-- Every analogue output at high impedance (R319). -/
def State.outputsOff (s : State) : State :=
  s.modSpout (fun p => { p with
    lga := p.lga.mapi (fun _ g => { g with precharge := false, enabled := false }),
    lgc := p.lgc.mapi (fun _ g => { g with enabled := false }) })

/-- The code that audio ball i carries, or none at high impedance (R319): its group's stage is enabled, and on a stage-pair device the
ownership interlock lets it drive. -/
def State.aoutBall (s : State) (i : Nat) : Option (BitVec 24) :=
  if (s.spout.lga.get (i / 4)).enabled && s.drives then some (s.spout.aouts.get i).loaded else none

/-- The code that control-voltage ball i carries, or none at high impedance (R319). -/
def State.cvBall (s : State) (i : Nat) : Option (BitVec 18) :=
  if (s.spout.lgc.get (i / 8)).enabled && s.drives then some (s.spout.cvs.get i).out else none

/-- The samples that SAPp_DO sends, or none while the port is off or the ownership interlock withholds OE (R406). -/
def State.sapBall (s : State) (p : Nat) : Option (Bank Word 16) :=
  if (s.sap.get p).en && s.drives then some (s.sap.get p).tx else none

/-- Whether SAPp_BCLK and SAPp_FS are driven: by an enabled controller that the ownership interlock lets drive (R406). -/
def State.sapClocks (s : State) (p : Nat) : Bool :=
  (s.sap.get p).en && !(s.sap.get p).cfg.getLsbD 5 && s.drives

/-- Whether every tenancy's outputs are being faded out by a park or a dormant entry. -/
def State.fadingOut (s : State) : Bool :=
  s.supply.parking.isSome || (match s.dev.dormEntry with
    | some e => e.fadeLeft.isSome
    | none => false)

/-- Whether a tenancy owns an AOUT group, whose precharge its fade gain waits for (R320). -/
def State.ownsLga (s : State) (n : Nat) : Bool := (List.range 4).any (fun g => s.groupOwner g == some n)

/-- Outputs leave high impedance (R320): owned AOUT groups precharge with F_t at 0.0; owned CV groups drive at once. first is the
entry to RUNNING from LOADING, after which a tenancy without an AOUT group has F_t 1.0; otherwise its gain rises at once. -/
def State.outputsOn (s : State) (first : Bool) : State :=
  let groups := s.modSpout (fun p => { p with
    lga := p.lga.mapi (fun g x => { x with precharge := (s.groupOwner g).isSome, enabled := false }),
    lgc := p.lgc.mapi (fun h x => { x with enabled := (s.groupOwner (4 + h)).isSome }) })
  groups.modSpout (fun p => { p with fades := p.fades.mapi (fun n _ =>
    if !s.spawned n then Fade.at_ 0#32
    else if s.ownsLga n then Fade.at_ 0#32
    else if first then Fade.at_ fOne
    else (Fade.at_ 0#32).start fOne s.cfg.dev.parkFade) })

/-! ### Voices freed (R24, R52, R392) -/

/-- A gill with no voice in any slot, shadow slot or the cut lane; the samples of its last frame are still on their way (R14). -/
def Gill.freed (g : Gill) : Gill :=
  { g with slots := g.slots.mapi (fun _ x => { x with cur := Voice.none, next := none }),
           shadows := Bank.all 2 Voice.none, cut := Voice.none }

/-- A pool with no copy waiting, no commit under way and no held note. -/
def Pool.freed (p : Pool) : Pool := { p with lane := [], claims := [], monoStacks := [] }

/-- The streams of a gill end (R276). -/
def State.endGillStreams (s : State) (gill : Nat) : State :=
  s.modPumps (fun b => b.mapi (fun _ q =>
    { q with streams := q.streams.mapi (fun _ c => c.filter (fun x => x.gill != gill)),
             waiting := q.waiting.filter (fun x => x.gill != gill) }))

/-- The voices of tenancy n freed, in its gills and its pools. -/
def State.freeTenVoices (s : State) (n : Nat) : State :=
  let mine := (List.range 48).filter (fun g => s.gillOwner g == some n)
  let s1 := mine.foldl State.endGillStreams s
  let s2 := s1.modGills (fun b => mine.foldl (fun b g => b.upd g Gill.freed) b)
  s2.modPools (fun b => b.mapi (fun p x => if s.poolOwner p == some n then x.freed else x))

/-- An engine without programs: what was loaded is gone, its counters, logs and registers stay. -/
def Engine.unloaded (x : Engine) : Engine :=
  { x with code := Engine.reset.code, spore := Engine.reset.spore, programs := [], loaded := 0, lanes := [], queue := [],
           windowOpen := false, run := .idle, jobHandle := none, jobPaused := false }

/-- Tenancy n left unspawned (R54): its voices end, it keeps its ownership and has no structure, pool, route, well or program. -/
def State.unspawnTen (s : State) (n : Nat) : State :=
  let none_ := TenancyCfg.default
  let c := s.tcfg n
  let kept (x : TenancyState) : TenancyState :=
    if x.spawned then { x with keptPools := c.forager.pools.map PoolRec.pool, keptRoutes := c.routes } else x
  let mine (e : Nat) : Bool := s.engineOwner e == some n
  let s1 := (s.modTen (fun b => b.upd n kept)).modEngines (fun b => b.mapi (fun e x => if mine e then x.unloaded else x))
  ((s1.freeTenVoices n).modSpawn (fun p => { p with active := { p.active with ten := p.active.ten.upd n (fun t =>
    { t with structs := [], myc := none_.myc, forager := none_.forager, wells := [], routes := [], reflex := [],
             spore := none_.spore }) } })).modTen (fun b => b.upd n (fun x => { x with spawned := false, respawn := none }))

/-- Every voice freed. -/
def State.freeAllVoices (s : State) : State :=
  let s1 := s.modPumps (fun b => b.mapi (fun _ q => { q with streams := q.streams.mapi (fun _ _ => none), waiting := [] }))
  (s1.modGills (fun b => b.mapi (fun _ g => { g.freed with out := Bank.all 4 0#32 }))).modPools (fun b => b.mapi (fun _ p => p.freed))

/-! ### Stores drained (R277, R278) -/

/-- The next sequence number of the Adeder link, taken (R400). -/
def State.adederSend (s : State) (type : Nat) (words : List Word) : State :=
  if s.pair.link then
    (s.modPair (fun p => { p with txSeq := p.txSeq + 1#16 })).emit
      (.adeder type (w32 s.pair.txSeq.toNat :: words))
  else s

/-- The words of bytes, little-endian. -/
def wordsOf : List Byte → List Word
  | a :: b :: c :: d :: rest => wordOf a b c d :: wordsOf rest
  | [] => []
  | l => [wordOf (l.getD 0 0#8) (l.getD 1 0#8) (l.getD 2 0#8) 0#8]

/-- A line of the mirror queue sent as a MIRROR packet: its cistern, its offset and its 64 bytes (Table 2 of chapter 17). -/
def State.mirrorSend (s : State) (l : Nat × List Byte) : State :=
  s.adederSend 6 ([w32 (l.1 / cisBytes), w32 (l.1 % cisBytes)] ++ wordsOf l.2)

/-- The mirror queue sent while the link is up; otherwise discarded, which unsynchronises the pair (R278, R404). -/
def State.mirrorFlush (s : State) : State :=
  let s1 := s.modMem (fun m => { m with mirrorQ := [] })
  if s.mem.mirrorQ.isEmpty then s
  else if s.pair.link then s.mem.mirrorQ.foldl State.mirrorSend s1
  else s1.unsync 6

/-- Every pump's store buffer drained. -/
def State.drainPumps (s : State) : State := (List.range 32).foldl (fun s p => s.drainStores 8 p) s

/-- The drain of park and dormant entry: host writes, pump stores, the mirror queue and dirty L1 lines (R270, R277). -/
def State.drainMemory (s : State) : State :=
  (s.retireAll.drainPumps.mirrorFlush).modMem (fun m => m.flushL1 (fun _ => true))

/-- The operations past their commit point complete (K4 of Table 6 of chapter 16, R78). -/
def State.completeCommitted (s : State) : State :=
  (s.ops.filter (fun o => o.committed && o.done.isNone)).foldl (fun s o =>
    match o.code with
    | .cisternWipe => s.cisternWipeDone o.handle
    | .cisternHandover => s.handoverWipeDone (o.args.get 0).toNat
    | .aquiferTrain =>
      let n := maskCount (bits (o.args.get 0) 1 0)
      (s.modAq (fun q => q.trainedOn n)).finishOp o.handle csDone [w32 n]
    | .powerPark => s
    | _ => s.finishOp o.handle csDone []) s

/-! ### Voter loss (R30 to R32) -/

/-- What three copies of a voted unit with a mask say: the mask after it, whether a copy was newly masked, and whether no two unmasked
copies agree. -/
def voted (mask : BitVec 3) (v : Vote) : BitVec 3 × Bool × Bool :=
  match v with
  | .agree => (mask, false, false)
  | .dissent c =>
    if mask.getLsbD c then (mask, false, false)
    else if mask = 0#3 then (BitVec.ofNat 3 (2 ^ c.val), true, false)
    else (mask, false, true)
  | .noMajority => (mask, false, true)

/-- Unissued buffered stores discarded, and the mirror queue with the pair unsynchronised (Table 5 of chapter 11). -/
def State.discardStores (s : State) : State :=
  let s1 := (s.modHost (fun h => { h with wcb := [] })).modPumps (fun b => b.mapi (fun _ p => { p with buffer := [] }))
  (s1.modMem (fun m => { m with mirrorQ := [] })).unsync 6

/-! ### USB attachment (R342) and SAFE -/

/-- Whether USB traffic runs in the device state: where the device stays attached. -/
def DevPhase.usbStays : DevPhase → Bool
  | .running | .parked | .dormantK | .dormantL => true
  | _ => false

/-- The USB device off the bus, or back in its default state. -/
def UsbState.fresh (u : UsbState) (p : UsbPhase) : UsbState :=
  { u with phase := p, suspended := false, addr := 0#7, config := 0#8, alt := false, remoteWake := false, haltOut := false,
           haltIn := false, outPart := [] }

/-- The pull-up brought up to date (R342): it connects in RUNNING and stays in dormancy and PARKED. -/
def State.usbAttach (s : State) : State :=
  let u := s.usb
  let may := u.vbus && u.connect && s.cfg.dev.usbPresent
  let on := may && (s.dev.phase == .running || (u.attached && s.dev.phase.usbStays))
  if on == u.attached then s
  else s.modUsb (fun u => { u.fresh (if on then .default_ else .detached) with attached := on })

/-- SAFE entered from RUNNING or PARKED (R22, R31, R32): outputs at high impedance, frames stopped, buffered stores discarded, the
ownership of a pair given up (R399), the USB device detached (R342). A dormant entry under way is dropped with ES1008 (R23). -/
def State.enterSafe (s : State) : State :=
  if s.dev.phase == .running || s.dev.phase == .parked then
    let s1 := s.outputsOff.discardStores
    let s2 := s1.modTime (fun x => { x with framesRun := false })
    let s3 := s2.modSupply (fun p => { p with parking := none, parkAck := false })
    let s4 := (s3.modPair (fun p => { p with req := false, own := false, switch := none })).modDev
      (fun d => { d with phase := .safe, dormEntry := none, waking := false })
    let s5 := s4.usbAttach
    if s.dev.dormEntry.isSome then s5.pulse 1008 0#32 else s5
  else s

/-- Frames per packet. -/
def packetFrames (code : Nat) : Nat :=
  match code with
  | 0 => 6 | 1 => 6 | 2 => 12 | 3 => 12 | _ => 24

/-- round(v × 2^k), beyond every code for an infinity, and a free value of k + 1 bits for a NaN, whose code the manual does not state. -/
def codeNear (k : Nat) (v : F32) (free : Word) : Int :=
  if fIsNaN v then signed (k + 1) free.toNat
  else if fIsInf v then (if fSign v then -(2 ^ 80) else 2 ^ 80)
  else gScaledInt v k

end Sys2Proof.Machine
end

