-- ==== Sys2Proof/Machine/Power.lean ====
section
/-! DEFINITION. The commands of chapter 16: the permit pool, the monitors and thermal stages, the supply watch, park and unpark. -/

namespace Sys2Proof.Machine

/-- Whether the MON domain runs: in every state but OFF, AON and dormancy. -/
def DevPhase.monitors : DevPhase → Bool
  | .off | .aon | .dormantK | .dormantL => false
  | _ => true

/-! ### The permit pool (R381) -/

/-- L_T of Table 1 for a temperature. -/
def leakOf (tj : F32) : Nat :=
  if gLt tj (gOfInt 60) then 0 else if gLt tj (gOfInt 85) then 20 else if gLt tj (gOfInt 95) then 40 else 60

/-- L = ceil(L_T x F_P), with F_P in quarters by process band. -/
def leakage (tj : F32) (band : Nat) : Nat := ceilDiv (leakOf tj * (if band = 0 then 3 else if band = 1 then 4 else 6)) 4

/-- The pool A recomputed. -/
def State.poolUpdate (s : State) : State :=
  let l := leakage s.windlass.tj s.windlass.band.toNat
  s.modWindlass (fun w => { w with leak := l, pool := s.cfg.dev.budget - w.reserve - l })

/-- PERMIT_POOL_UPDATE. -/
def execPermitPoolUpdate (s : State) : Res := .next (if s.dev.phase.monitors then s.poolUpdate else s)

/-- The deadline of a request: ARG7 in microseconds from acceptance, 0 without limit (R121, R383). -/
def LongOp.deadline (o : LongOp) : Nat := (o.args.get 7).toNat

/-- PERMIT_DEADLINE: a request that was never granted completes NO_PERMIT (R383). -/
def State.permitDeadline (s : State) (h : Word) : State :=
  match s.findOp h with
  | none => s
  | some o =>
    if o.done.isNone && o.permit == .waiting && !o.everGranted && o.deadline != 0 then s.noPermit o else s

/-- PERMIT_DEADLINE. -/
def execPermitDeadline (handle : Word) (s : State) : Res := .next (s.permitDeadline handle)

/-! ### Supply level (R390, R391) -/

/-- Whether the supply watch runs its detectors and actions: not in OFF and AON, and in LOADING and UNSPAWNED not at all. -/
def DevPhase.supplyWatched : DevPhase → Bool
  | .off | .aon | .loading | .unspawned => false
  | _ => true

/-- The response level of a detector's record. -/
def State.detRec (s : State) (c d : Nat) : Option SupplyRec :=
  s.cfg.dev.supply.find? (fun r => r.channel == c &&
    (match r.detector with | .sag => 0 | .dip => 1 | .surge => 2 | .ripple => 3) == d)

/-- The level that the active detectors and PFAIL_N give (R390). -/
def State.levelNow (s : State) : Nat :=
  if s.supply.pfail then 2
  else (List.range 16).foldl (fun m i =>
    if ((s.supply.chans.get (i / 4)).dets.get (i % 4)).active then
      match s.detRec (i / 4) (i % 4) with
      | some r => max m r.level
      | none => m
    else m) 0

/-- The level brought up to date: entering a level raises its source, and leaving 0 revokes every permit (R391). -/
def State.levelUpdate (s : State) : State :=
  let old := s.supply.level
  let new := s.levelNow
  let s1 := (s.modSupply (fun p => { p with level := new })).modWindlass (fun w => { w with shed := decide (0 < new) })
  let s2 := if old = 0 ∧ 0 < new then (s1.supplyFlag 0).revokePermits (fun _ => true) else s1
  if old < 2 ∧ new = 2 then s2.supplyFlag 1 else s2

/-- The values in volts of a SUP channel's window (R389). -/
def supVolts (x : F32) : F32 := gDiv (gMul x (gRatio 33 10)) (gOfInt 65536)

/-- One evaluation of a detector: met says whether its criterion holds (R389). -/
def State.detStep (s : State) (c d : Nat) (r : SupplyRec) (met : Bool) : State :=
  let x := (s.supply.chans.get c).dets.get d
  let run := if met then x.run + 1 else 0
  let fires := !x.active && met && decide (r.windows ≤ run)
  let s1 := s.modSupply (fun p => { p with chans := p.chans.upd c (fun q =>
    { q with dets := q.dets.put d { active := x.active || fires, run := run, criterion := met },
             detCnt := if fires then errCount q.detCnt 1 else q.detCnt }) })
  if fires then s1.supplyFlag (6 + c) else s1

/-- The DIP detector on a coarse code (R389). -/
def State.dipSample (s : State) (c code : Nat) : State :=
  match s.detRec c 1 with
  | none => s
  | some r =>
    if s.dev.phase.supplyWatched then
      (s.detStep c 1 r (gLt (gDiv (gMul (gOfInt code) (gRatio 33 10)) (gOfInt 4096)) r.threshold)).levelUpdate
    else s

/-- A fine value of a SUP channel joins the window under way (R389). -/
def State.supFine (s : State) (c : Nat) (x : F32) : State :=
  s.modSupply (fun p => { p with chans := p.chans.upd c (fun q => { q with values := supVolts x :: q.values }) })

/-- SUP_WINDOW_END: the window's figures, the detectors over windows, and the level (R389, R390). A window in which the channel's converter has
returned no code, which is 1 ms at least, raises ES0980 + c, and the detectors keep their last state (chapter 16, "When it fails"; DEDUCED, log
entry 127). -/
def State.supWindowEnd (s : State) (c : Nat) : State :=
  let vals := (s.supply.chans.get c).values.reverse
  if vals.isEmpty then (if s.dev.phase.supplyWatched && (s.chan (40 + c)).on then s.supplyFlag (6 + c) else s)
  else
    let hi := vals.foldl gMax (vals.headD 0#32)
    let lo := vals.foldl gMin (vals.headD 0#32)
    let rms := gSqrt (gDiv (vals.foldl (fun a v => gAdd a (gMul v v)) 0#32) (gOfInt vals.length))
    let s1 := s.modSupply (fun p => { p with chans := p.chans.upd c (fun q =>
      { q with rms := rms, max := hi, min := lo, values := [] }) })
    if s.dev.phase.supplyWatched then
      let run (s : State) (d : Nat) (met : F32 → Bool) : State :=
        match s.detRec c d with
        | none => s
        | some r => s.detStep c d r (met r.threshold)
      (run (run (run s1 0 (fun t => gLt rms t)) 2 (fun t => gLt t hi)) 3 (fun t => gLt t (gSub hi lo))).levelUpdate
    else s1

/-- SUP_WINDOW_END. -/
def execSupWindowEnd (c : Fin 4) (s : State) : Res := .next (if s.dev.phase.monitors then s.supWindowEnd c else s)

/-- Whether a park cause stands. -/
def State.parkCause (s : State) : Bool :=
  decide (s.supply.level = 2) || s.supply.pfail || s.supply.railPark || s.supply.thermPark || s.supply.swPark

/-- Whether the device has a park to begin: a cause, or a POWER_PARK whose cause UNPARK has cleared before its fade began. -/
def State.parkDue (s : State) : Bool := s.parkCause || s.supply.parkHandle.isSome

/-- A wake that a park cause held acts once every cause has cleared (R23, "Questions" of chapter 16). -/
def State.wakeRelease (s : State) : State :=
  if (s.dev.phase == .dormantK || s.dev.phase == .dormantL) && s.dev.wakeHeld && !s.parkCause then
    s.modDev (fun d => { d with wakeHeld := false, waking := true })
  else s

/-- SUP_DETECTOR_HOLDOFF_END: an active detector whose criterion is false becomes inactive (R389). -/
def State.detRelease (s : State) (c d : Nat) : State :=
  let x := (s.supply.chans.get c).dets.get d
  if x.active && !x.criterion then
    (s.modSupply (fun p => { p with chans := p.chans.upd c (fun q =>
      { q with dets := q.dets.put d { x with active := false } }) })).levelUpdate.wakeRelease
  else s

/-- SUP_DETECTOR_HOLDOFF_END. -/
def execSupDetectorHoldoffEnd (c d : Fin 4) (s : State) : Res := .next (s.detRelease c d)

/-- Whether PFAIL_N acts: in every state but OFF and AON (R390). -/
def DevPhase.pfailActs : DevPhase → Bool
  | .off | .aon => false
  | _ => true

/-- PFAIL_ASSERT: level 2 with its park cause; in LOADING and UNSPAWNED only the state is recorded (R390). -/
def State.pfailOn (s : State) : State :=
  if !s.dev.phase.pfailActs || s.supply.pfail then s
  else
    let s1 := s.modSupply (fun p => { p with pfail := true })
    if s.dev.phase.supplyWatched then (s1.supplyFlag 2).levelUpdate else s1

/-- PFAIL_ASSERT. -/
def execPfailAssert (s : State) : Res := .next s.pfailOn

/-- PFAIL_RELEASE: PFAIL_N has been high for the hold-off (R390). -/
def State.pfailOff (s : State) : State :=
  let s1 := s.modSupply (fun p => { p with pfail := false })
  if s.dev.phase.supplyWatched then s1.levelUpdate.wakeRelease else s1

/-- PFAIL_RELEASE. -/
def execPfailRelease (s : State) : Res := .next (if s.supply.pfail then s.pfailOff else s)

/-! ### Monitors and thermal stages (R385 to R388) -/

/-- A list of binary32 values in ascending order. -/
def sortF (l : List F32) : List F32 :=
  l.foldl (fun acc x => acc.filter (fun y => gLe y x) ++ x :: acc.filter (fun y => !gLe y x)) []

/-- The median, of an even number the mean of the middle two (DEDUCED, log entry 129). -/
def medianF (l : List F32) : F32 :=
  let v := sortF l
  let n := v.length
  if n % 2 = 1 then v.getD (n / 2) 0#32 else gDiv (gAdd (v.getD (n / 2 - 1) 0#32) (v.getD (n / 2) 0#32)) (gOfInt 2)

/-- The polyphony cap k changed (R388). -/
def State.setCap (s : State) (k : Nat) : State :=
  if k = s.windlass.cap then s
  else (s.modWindlass (fun w => { w with cap := k, capFlag := true })).windlassFlag 3

/-- The thermal stages on a Tj sample; few means that fewer than 2 TMONs are valid (R387, R385). -/
def State.thermalStages (s : State) (tj : F32) (few : Bool) : State :=
  let w := s.windlass
  let stage (on : Bool) (enter leave : Int) : Bool := few || gLe (gOfInt enter) tj || (on && !gLt tj (gOfInt leave))
  let crit := stage w.crit 110 95
  let reduce := stage w.reduce 100 97
  let warn := stage w.warn 95 92
  let s1 := s.modWindlass (fun w => { w with warn := warn, reduce := reduce, crit := crit })
  let s2 := s1.modSupply (fun p => { p with thermPark := crit })
  let s3 := if warn && !w.warn then (s2.windlassFlag 0).revokePermits (fun o => o.code == .truffleJob) else s2
  let s4 := if reduce && !w.reduce then (s3.windlassFlag 1).setCap (max 1 (w.cap - 1)) else s3
  (if crit && !w.crit then s4.windlassFlag 2 else s4).wakeRelease

/-- WL_MONSTAT bits set, with their sources (R396). -/
def State.monFlags (s : State) (bs : List Nat) : State :=
  let mask := bs.foldl (fun m b => m ||| 2 ^ b) 0
  (s.modWindlass (fun w => { w with monStat := w.monStat ||| w32 mask })).settleAll (bs.map (936 + ·))

/-- TMON_SAMPLE: readings with the results of the self-checks (R385, R387). Without a valid monitor Tj is a free value. -/
def State.tmonSample (s : State) (r : List (BitVec 32 × Bool)) : State :=
  let rs := (List.range 12).map (fun t => r.getD t (0#32, false))
  let passing := (rs.filter Prod.snd).map Prod.fst
  let med := medianF passing
  let valid (x : BitVec 32 × Bool) : Bool := x.2 && gLe (fAbs (gSub x.1 med)) (gOfInt 15)
  let good := (rs.filter valid).map Prod.fst
  let bad := rs.zipIdx.filterMap (fun x => if valid x.1 then none else some x.2)
  let tj := match good with
    | [] => Config.freeWord s.free
    | x :: l => l.foldl gMax x
  let s0 := if good.isEmpty then s.modFree (· + 1) else s
  let s1 := s0.modWindlass (fun w => { w with tmon := Bank.make 12 (fun t => (rs.getD t (0#32, false)).1), tj := tj })
  (s1.monFlags bad).thermalStages tj (decide (good.length < 2))

/-- TMON_SAMPLE. -/
def execTmonSample (r : List (BitVec 32 × Bool)) (s : State) : Res := .next (if s.dev.phase.monitors then s.tmonSample r else s)

/-- CAP_STEP: down by 1 while Reduce holds, or Critical, which includes its action, up by 1 once it has been left, between 1 and 8
(R387, R388). -/
def State.capStep (s : State) : State :=
  s.setCap (if s.windlass.reduce || s.windlass.crit then max 1 (s.windlass.cap - 1) else min 8 (s.windlass.cap + 1))

/-- CAP_STEP. -/
def execCapStep (s : State) : Res := .next (if s.dev.phase.monitors then s.capStep else s)

/-- The limit of VMON v (Table 3): VDDIO A to D at 95 % of the nominal that IO_BANKS gives. -/
def State.vmonLimit (s : State) (v : Nat) : F32 :=
  if v < 4 then gRatio 720 1000
  else if v < 6 then gRatio 760 1000
  else if v = 6 then gRatio 1710 1000
  else if v = 7 then gRatio 3135 1000
  else if v < 12 then (if s.cfg.dev.ioBanks.testBit (v - 8) then gRatio 3135 1000 else gRatio 1710 1000)
  else if v = 12 then gRatio 570 1000
  else if v = 13 then gRatio 1045 1000
  else if v = 14 then gRatio 855 1000
  else gRatio 1710 1000

/-- VMON_SAMPLE: a reading below its limit sets its bit; one of VMON0 to VMON5 is the rail cause (R385, R386). -/
def State.vmonSample (s : State) (v : List (BitVec 32)) : State :=
  let low := (List.range 16).filter (fun i => gLt (v.getD i 0#32) (s.vmonLimit i))
  let s1 := s.modWindlass (fun w => { w with vmon := Bank.make 16 (fun i => v.getD i 0#32) })
  let s2 := s1.monFlags (low.map (12 + ·))
  if low.any (fun i => decide (i < 6)) then s2.modSupply (fun p => { p with railPark := true }) else s2

/-- VMON_SAMPLE. -/
def execVmonSample (v : List (BitVec 32)) (s : State) : Res := .next (if s.dev.phase.monitors then s.vmonSample v else s)

/-- RAIL_CAUSE_CLEAR: VMON0 to VMON5 have read above their limits for 100 ms (R386). -/
def execRailCauseClear (s : State) : Res :=
  .next (if (List.range 6).all (fun i => gLt (s.vmonLimit i) (s.windlass.vmon.get i)) then
    (s.modSupply (fun p => { p with railPark := false })).wakeRelease
  else s)

/-- The process band of a ratio: 0 slow, 1 typical, 2 fast (Table 1). -/
def bandOf (r : F32) : Nat := if gLt r (gRatio 95 100) then 0 else if gLe r (gRatio 105 100) then 1 else 2

/-- PMON_SAMPLE: the process ratio is the mean of the eight readings; a reading out of range sets its pair's bit (R385, R386). -/
def State.pmonSample (s : State) (v : List (BitVec 32)) : State :=
  let rs := (List.range 8).map (fun i => v.getD i 0#32)
  let mean := gDiv (rs.foldl gAdd 0#32) (gOfInt 8)
  let out (x : F32) : Bool := gLt x (gRatio 80 100) || gLt (gRatio 120 100) x
  let bad := (List.range 4).filter (fun k => out (rs.getD (2 * k) 0#32) || out (rs.getD (2 * k + 1) 0#32))
  (s.modWindlass (fun w => { w with pmon := Bank.make 8 (fun i => v.getD i 0#32), band := BitVec.ofNat 2 (bandOf mean) })).monFlags
    (bad.map (28 + ·))

/-- PMON_SAMPLE. -/
def execPmonSample (v : List (BitVec 32)) (s : State) : Res := .next (if s.dev.phase.monitors then s.pmonSample v else s)

/-! ### Park and unpark (R392, R393) -/

/-- POWER_PARK submitted (R392): its fade is ARG0, 64 to 4,096 frames, or PARK_FADE for 0. A device that is parked already completes
it at once. -/
def State.subPowerPark (s : State) (n : Nat) (args : Bank Word 8) (via : SubmitVia) : State :=
  let f := (args.get 0).toNat
  s.submit n .powerPark args 0 via (fun h s =>
    if f ≠ 0 ∧ (f < 64 ∨ 4096 < f) then s.finishOp h csBadArg []
    else
      let s1 := s.modSupply (fun p => { p with swPark := true, parkHandle := if p.parkHandle.isSome then p.parkHandle else some h })
      if s.dev.phase == .parked then
        (s1.modSupply (fun p => { p with parkHandle := none })).finishOp h csDone []
      else if s.supply.parking.isSome then s1.updOp h (fun o => { o with committed := true })
      else s1)

/-- POWER_PARK. -/
def execPowerPark (t : Fin 8) (s : State) : Res := .next (s.qpWrite t State.subPowerPark)

/-- The fade of the park about to start: the POWER_PARK's own when it is the only cause, otherwise PARK_FADE (R392). -/
def State.parkLength (s : State) : Nat :=
  let own := match s.supply.parkHandle.bind s.findOp with
    | some o => (o.args.get 0).toNat
    | none => 0
  let others := decide (s.supply.level = 2) || s.supply.pfail || s.supply.railPark || s.supply.thermPark
  if others || own = 0 then s.cfg.dev.parkFade else own

/-- A respawn of tenancy n ended before its commit point (Table 10 of chapter 02): in WAIT_PERMIT nothing has changed; in VALIDATE and
QUIESCE the old configuration resumes at the next boundary, or a park leaves the tenancy unspawned, as it is from WRITE on. -/
def State.respawnStop (s : State) (n : Nat) (r : Respawn) (park : Bool) : State :=
  let upd (s : State) (x : Option Respawn) : State := s.modTen (fun b => b.upd n (fun y => { y with respawn := x }))
  match r.phase with
  | .waitPermit => upd s none
  | .validate | .quiesce => if park then s.unspawnTen n else upd s (some { r with phase := .resume })
  | .write | .commit => s.unspawnTen n
  | .resume => if park then upd s none else s

/-- What an operation's abort undoes beside its own completion (Table 12 of chapter 05): a drain ends, jobs leave their engine,
and respawns and calibrations end through their own tables where those say so. -/
def State.abortHook (s : State) (park : Bool) (o : LongOp) : State :=
  match o.code with
  | .cisternHandover =>
    let c := (o.args.get 0).toNat
    if (s.mem.banks.get c).draining == some o.handle then
      (s.modMem (fun m => { m with banks := m.banks.upd c (fun b => { b with draining := none }) })).serveHeld c
    else s
  | .pumpBulk | .sampleLoad => s.dropStores (bulkArgs o.code o.args).pump o.handle
  | .powerPark =>
    let rest := s.ops.find? (fun x => x.code == .powerPark && x.handle != o.handle && x.done.isNone)
    s.modSupply (fun p => { p with swPark := p.swPark && rest.isSome, parkHandle := rest.map LongOp.handle })
  | .calibrate =>
    let unset (x : Option (Word × Nat)) : Option (Word × Nat) := x.filter (fun k => k.1 != o.handle)
    (s.modFilter (fun f => { f with chans := f.chans.mapi (fun c => FcChan.calAbort c s.fs (s.burstLength c) o.handle) })).modSpout (fun p =>
      { p with lga := p.lga.mapi (fun _ g => { g with cal := unset g.cal }),
               lgc := p.lgc.mapi (fun _ g => { g with cal := unset g.cal }) })
  | .truffleJob => s.modEngines (fun b => b.mapi (fun _ e =>
      if e.jobHandle == some o.handle then
        { e with jobHandle := none, jobPaused := false, run := if e.run == .job then .idle else e.run }
      else e))
  | .pairSync => s.modPair (fun p => { p with syncAt := none })
  | .spawnTenancy => (List.range 8).foldl (fun s n =>
      match (s.ten.get n).respawn with
      | some r => if r.handle == o.handle then s.respawnStop n r park else s
      | none => s) s
  | _ => s

/-- The results of an aborted operation (Table 12 of chapter 05): a bulk copy's bytes and CRC, a job's PC. -/
def State.abortResults (s : State) (o : LongOp) : List Word :=
  match o.code with
  | .pumpBulk | .sampleLoad => bulkResults o 0
  | .truffleJob =>
    match s.engines.toList.find? (fun e => e.jobHandle == some o.handle) with
    | some e => [w32 e.job.pc]
    | none => [0#32]
  | _ => []

/-- One operation before its commit point aborted (R124). -/
def State.abortOne (s : State) (park : Bool) (o : LongOp) : State :=
  let res := s.abortResults o
  let s1 := s.abortHook park o
  let res1 := match s1.findOp o.handle with
    | some x => if x.code == .pumpBulk || x.code == .sampleLoad then bulkResults x 0 else res
    | none => res
  (s1.finishOp o.handle csAborted res1).traceQport o.ten o.handle o.code.opcode 2 1

/-- Every operation for which p holds and that has not reached its commit point completes ABORTED (R57, R96, R392). -/
def State.abortAll (s : State) (park : Bool) (p : LongOp → Bool) : State :=
  (s.ops.filter (fun o => p o && !o.committed && o.done.isNone)).foldl (fun s o => s.abortOne park o) s

/-- The pumps' buffered stores before a park or a dormant entry aborts their operations: they are issued (Table 5 of chapter 11), all but a
descriptor's final one, whose issue would be its commit point. -/
def State.drainBulk (s : State) : State :=
  let final (o : LongOp) (p : Nat) : Bool :=
    let a := bulkArgs o.code o.args
    a.pump == p && o.done.isNone && (o.code == .pumpBulk || o.code == .sampleLoad) &&
      decide (a.len ≤ o.progress + 64 * s.buffered p o.handle)
  (List.range 32).foldl (fun s p =>
    match (s.pumps.get p).buffer.getLast? with
    | none => s
    | some l =>
      let last := (s.findOp l.handle).any (fun o => final o p)
      (if last then s.modPumps (fun b => b.upd p (fun q => { q with buffer := q.buffer.dropLast })) else s).drainStores 8 p) s

/-- PARK_START: permits revoked, uncommitted operations aborted but for POWER_PARK, and every fade gain falls (K1, K2); a dormant
entry in progress gives way (R23). -/
def State.parkStart (s : State) : State :=
  let n := s.parkLength
  let s1 := if s.dev.dormEntry.isSome then
      (s.modDev (fun d => { d with dormEntry := none })).pulse 1008 0#32
    else s
  let s2 := (s1.revokePermits (fun _ => true)).drainBulk.abortAll true (fun o => o.code != .powerPark)
  let s3 := s2.modOps (fun l => l.map (fun o => if o.code == .powerPark && o.done.isNone then { o with committed := true } else o))
  (s3.fadeAll n).modSupply (fun p => { p with parking := some (.fade n) })

/-- PARK_START. -/
def execParkStart (s : State) : Res :=
  .next (if s.dev.phase == .running && s.parkDue && s.supply.parking.isNone then s.parkStart else s)

/-- PARK_FADE_END: outputs at high impedance, frames stop, every slot freed, the ownership of a pair given up (K3, R399). -/
def State.parkFadeEnd (s : State) : State :=
  let s1 := (s.outputsOff.freeAllVoices).modTime (fun x => { x with framesRun := false })
  (s1.modSupply (fun p => { p with parking := some .drain })).modPair (fun p => { p with req := false, own := false })

/-- PARK_FADE_END: the fade's frames have run. -/
def execParkFadeEnd (s : State) : Res :=
  .next (if s.dev.phase == .running && s.supply.parking == some (.fade 0) then s.parkFadeEnd else s)

/-- PARK_COMPLETE: committed operations complete, stores drain, the aquifer enters self-refresh, PARK_ACK goes high and POWER_PARK
completes (K4 to K6). -/
def State.parkComplete (s : State) : State :=
  let s1 := s.completeCommitted.drainMemory
  let s2 := (s1.modAq (fun q => { q with selfRefresh := true })).modDev (fun d => { d with phase := .parked })
  let s3 := s2.modSupply (fun p => { p with parkAck := true, parking := none, parkHandle := none, parkCnt := errCount p.parkCnt 1 })
  let s4 := s3.supplyFlag 3
  (s4.ops.filter (fun o => o.code == .powerPark && o.done.isNone)).foldl (fun s o => s.finishOp o.handle csDone []) s4

/-- PARK_COMPLETE. -/
def execParkComplete (s : State) : Res :=
  .next (if s.dev.phase == .running && s.supply.parking == some .drain then s.parkComplete else s)

/-- SUP_CTRL_UNPARK: clears the POWER_PARK cause when no other stands (R393), in every state in which its block is reachable (R21). -/
def State.supCtrl (s : State) (v : Word) : State :=
  let others := decide (s.supply.level ≠ 0) || s.supply.pfail || s.supply.railPark || s.supply.thermPark
  if v.getLsbD 0 && !others then s.modSupply (fun p => { p with swPark := false }) else s

/-- SUP_CTRL_UNPARK. -/
def execSupCtrlUnpark (t : Fin 8) (v : Word) (s : State) : Res :=
  .next (s.access t 0x3C0004 true (t == 0) (fun s => s.supCtrl v))

/-- UNPARK: with every cause cleared the aquifer retrains and the first frame follows; the channels that were off in PARKED turn on, and
outputs return (R393, R303, R320, R24). -/
def State.unpark (s : State) : State :=
  let s1 := (s.modAq (fun q => { q with selfRefresh := false })).aqTrained.modDev (fun d => { d with phase := .running })
  let s2 := (s1.modSupply (fun p => { p with parkAck := false })).modTime (fun x => { x with framesRun := true })
  ((s2.fcTurnOn (fun c => decide (c < 40))).outputsOn false).supplyFlag 4

/-- UNPARK: supply level 0 and no cause left. -/
def execUnpark (s : State) : Res :=
  .next (if s.dev.phase == .parked && !s.parkCause && decide (s.supply.level = 0) then s.unpark else s)

end Sys2Proof.Machine
end

