-- ==== Sys2Proof/Machine/Observe.lean ====
section
/-! DEFINITION. The commands of chapter 18: event source words, EVT_OUT, performance counters, the trace port and the TAP. -/

namespace Sys2Proof.Machine

/-! ### Event sources (R415, R429, R430) -/

/-- A write of EVS_CFGi by the source's owner: MASK, OUT, WELL, VECTOR and PIN take the values written, PEND clears where bit 1 is 1,
and a source left pending and newly unmasked rises. A PIN that the owner does not hold is a reserved encoding where OUT selects a pin
(R418, R8). -/
def State.evsCfg (s : State) (i : Nat) (v : Word) : State :=
  if sourceReserved i then s
  else
    let c := s.evs.src.get i
    let pin := bits v 17 16
    let out := v.getLsbD 4
    let held := s.periphOwner pcEvtOut pin == s.sourceOwner i
    let bad := out && !held
    let s1 := s.modEvs (fun e => { e with src := e.src.upd i (fun c =>
      { c with mask := v.getLsbD 0, out := out, well := v.getLsbD 5, vector := BitVec.ofNat 6 (bits v 13 8),
               pin := if bad then c.pin else BitVec.ofNat 2 pin }) })
    let s2 := if bad then s1.regRejected (0x4000 + 4 * i) else s1
    if v.getLsbD 1 && c.pend then s2.clearPend i
    else if c.mask && !v.getLsbD 0 then s2.unmasked i
    else s2

/-- EVS_CFG_WRITE. -/
def execEvsCfgWrite (t : Fin 8) (i : Fin 1024) (v : Word) (s : State) : Res :=
  .next (s.access t (0x4000 + 4 * i) true (s.sourceOwner i == some t.val) (fun s => s.evsCfg i v))

/-- A write of EVS_PENDk: pending bits of the tenancy's own sources clear (R430). -/
def State.evsPend (s : State) (t k : Nat) (v : Word) : State :=
  ((List.range 32).filter (fun b => v.getLsbD b && s.sourceOwner (32 * k + b) == some t)).foldl
    (fun s b => s.clearPend (32 * k + b)) s

/-- EVS_PEND_WRITE. -/
def execEvsPendWrite (t : Fin 8) (k : Fin 32) (v : Word) (s : State) : Res :=
  .next (s.access t (0x5000 + 4 * k) true true (fun s => s.evsPend t k v))

/-- EVT_OUT_PULSE_END: 100 ns after the last rise the pin returns low (R418). -/
def execEvtOutPulseEnd (p : Fin 4) (s : State) : Res := .next (s.modEvs (fun e => { e with pulse := e.pulse.put p false }))

/-- The level of pin EVT_OUTp (R418): low unless a tenancy holds it and frames have begun; the OR of the asserted sources routed to it,
or the pulse. -/
def State.evtOut (s : State) (p : Nat) : Bool :=
  match s.pinHolder p with
  | none => false
  | some n =>
    s.dev.phase != .off && s.dev.phase != .aon && s.dev.phase != .loading && s.dev.phase != .unspawned &&
      (if s.evs.mode.get p then s.evs.pulse.get p
       else s.evs.src.toList.zipIdx.any (fun x => x.1.pend && !x.1.mask && x.1.out && x.1.pin.toNat == p &&
         s.sourceOwner x.2 == some n))

/-! ### Performance counters (R420, R421) -/

/-- The counters of a bank cleared, with their saturation marks. -/
def clearCounters (b : Bank PerfCtr 64) : Bank PerfCtr 64 := b.mapi (fun _ c => { c with cnt := 0#32, sat := false })

/-- SNAP: every counter and SAT bit copied, then cleared. -/
def snapCounters (b : Bank PerfCtr 64) : Bank PerfCtr 64 := b.mapi (fun _ c => { c with shot := c.cnt, shotSat := c.sat, cnt := 0#32, sat := false })

/-- A write of PC_CTRLn: SNAP, and CLEAR without copying (R421). -/
def State.pcCtrl (s : State) (n : Nat) (v : Word) : State :=
  let s1 := if v.getLsbD 0 then s.modObs (fun o => { o with perf := o.perf.upd n snapCounters }) else s
  if v.getLsbD 1 then s1.modObs (fun o => { o with perf := o.perf.upd n clearCounters }) else s1

/-- A write of 1 to PC_CTRLn.SNAP. -/
def execPcSnap (t n : Fin 8) (v : Word) (s : State) : Res :=
  .next (s.access t (0x3E2000 + 0x20 * n) true (t == n) (fun s => s.pcCtrl n v))

/-- A write of 1 to PC_CTRLn.CLEAR. -/
def execPcClear (t n : Fin 8) (v : Word) (s : State) : Res :=
  .next (s.access t (0x3E2000 + 0x20 * n) true (t == n) (fun s => s.pcCtrl n v))

/-! ### The trace port (R424 to R427) -/

/-- The bytes of a packet: the header, then the payload words. -/
def packetBytes (cls : Nat) (words : List Word) : List Byte := BitVec.ofNat 8 (cls * 16 + words.length) :: wordsBytes words

/-- The FIFO bytes that packets other than LOST may use (R427). -/
def traceRoom : Nat := 4088

/-- A packet queued: a LOST packet goes first where packets have been dropped; one that does not fit is dropped and counted. -/
def ObsState.queuePacket (o : ObsState) (bytes : List Byte) : ObsState :=
  if o.fifo.length + bytes.length ≤ traceRoom then
    let lost := if o.lostRun = 0 then [] else packetBytes 0xE [w32 o.lostRun]
    { o with fifo := o.fifo ++ lost ++ bytes, lostRun := 0, sinceSync := o.sinceSync + lost.length + bytes.length }
  else { o with lostRun := errCount o.lostRun 1, lostCnt := errCount o.lostCnt 1 }

/-- A SYNC packet queued where one is due: first of all, and once 4,096 bytes have followed the last (R425). -/
def ObsState.queueSync (o : ObsState) (now : DWord) : ObsState :=
  if o.syncSent && decide (o.sinceSync < 4096) then o
  else
    let o1 := o.queuePacket (packetBytes 0xF [lo32 now, hi32 now, 0x4B585452#32])
    if o1.lostCnt = o.lostCnt && o1.lostRun = 0 then { o1 with syncSent := true, sinceSync := 0 } else o1

/-- Whether the filters pass an occurrence (R426): FRAME always; otherwise its tenancy must allow it and some FILTER record, or none
at all, take its class and its source. -/
def State.tracePasses (s : State) (x : TraceItem) : Bool :=
  x.cls == 4 ||
    ((match x.ten with
      | none => true
      | some n => s.obs.allow.get n) &&
     (s.cfg.dev.traceFilters.isEmpty || s.cfg.dev.traceFilters.any (fun f =>
       f.classes.testBit x.cls && (x.cls != 1 || (decide (f.first ≤ x.source) && decide (x.source ≤ f.last))))))

/-- TRACE_PACKET_EMIT: the oldest occurrence is filtered and queued, or dropped and counted (R426, R427). -/
def State.traceEmit (s : State) : State :=
  match s.obs.traceQ with
  | [] => s
  | x :: rest =>
    let s1 := s.modObs (fun o => { o with traceQ := rest })
    if s.cfg.dev.traceOn && s.tracePasses x then
      s1.modObs (fun o => (o.queueSync s.now).queuePacket (packetBytes x.cls x.words))
    else s1

/-- TRACE_PACKET_EMIT. -/
def execTracePacketEmit (s : State) : Res := .next s.traceEmit

/-- The trace port in one PER cycle: at 200 MHz over the divider it sends the bytes that fall due (R424). -/
def State.traceSend (s : State) : State :=
  if s.obs.fifo.isEmpty || !s.cfg.dev.traceOn then s
  else
    let t := s.now.toNat
    let n := 2 * (t + 1) / s.cfg.dev.traceDiv - 2 * t / s.cfg.dev.traceDiv
    if n = 0 then s else (s.modObs (fun o => { o with fifo := o.fifo.drop n })).emit (.trace (s.obs.fifo.take n))

/-! ### The TAP (R10, R428) -/

/-- The bits of a word, bit 0 first. -/
def bitList (n : Nat) (x : Nat) : List Bool := (List.range n).map (fun i => x.testBit i)

/-- A TAP instruction with what its data register captures, in every state but OFF. -/
def State.tap (s : State) (ir : BitVec 4) (dr : List Bool) : State :=
  if s.dev.phase == .off then s else (s.modObs (fun o => { o with tapIr := ir, tapDr := dr })).emit (.tap dr)

/-- TAP_IDCODE: the 32-bit IDCODE register. -/
def execTapIdcode (s : State) : Res := .next (s.tap 1#4 (bitList 32 0x28480A6B))

/-- The number of signal balls (chapter 19), one boundary cell each. -/
def signalBalls : Nat := 411

/-- The balls whose direction is A or HS (Tables 3 to 5 of chapter 19): first and last index of each run. -/
def analogBalls : List (Nat × Nat) := [
  (0, 1), (22, 23), (45, 47), (67, 67), (72, 74), (93, 96), (183, 184), (191, 192), (221, 224), (225, 228), (231, 234),
  (235, 238)] ++ [
  (245, 248), (253, 256), (261, 264), (269, 272), (277, 280), (285, 288), (293, 296), (321, 337), (346, 362), (371, 386),
  (392, 408)]

/-- Whether a ball's cell captures 0 whatever its level (R433). -/
def analogBall (i : Nat) : Bool := analogBalls.any (fun r => decide (r.1 ≤ i) && decide (i ≤ r.2))

/-- TAP_SAMPLE: the received level of each signal ball in ball-index order; an analogue or high-speed ball's cell captures 0. -/
def execTapSample (levels : List Bool) (s : State) : Res :=
  .next (s.tap 2#4 ((List.range signalBalls).map (fun i => !analogBall i && levels.getD i false)))

/-- TAP_BYPASS: the 1-bit bypass register, which captures 0 (IEEE 1149.1, PRESUMED, log entry 20). -/
def execTapBypass (s : State) : Res := .next (s.tap 15#4 [false])

end Sys2Proof.Machine
end

