-- ==== Sys2Proof/Machine/Net.lean ====
section
/-! DEFINITION. The network ports (R329 to R341): PHY, gPTP, talkers, listeners, CRF and packet wells. The byte layouts of AVTP and
gPTP messages are those of the standards the manual names (PRESUMED, log entry 20). -/

namespace Sys2Proof.Machine

/-! ### Ports -/

/-- Whether the ports run: with the applied configuration, in RUNNING and PARKED. -/
def DevPhase.networked : DevPhase → Bool
  | .running | .parked => true
  | _ => false

/-- A port changed. -/
def State.updPort (s : State) (p : Nat) (f : NetPort → NetPort) : State :=
  s.modNet (fun n => { n with ports := n.ports.upd p f })

/-- A bit of NET_PSTATp set, with its source (R345). -/
def State.portFlag (s : State) (p b : Nat) : State :=
  (s.updPort p (fun x => { x with stat := x.stat ||| BitVec.ofNat 4 (2 ^ b) })).settle (912 + 4 * p + b)

/-- Whether a port is named by a PORT record and up (R329). -/
def State.portUp (s : State) (p : Nat) : Bool := s.dev.phase.networked && (s.portRec p).isSome && (s.net.ports.get p).link

/-- The bytes of a 48-bit address, byte 0 first. -/
def macBytes (m : BitVec 48) : List Byte := (List.range 6).map (fun k => BitVec.ofNat 8 (m.toNat / 2 ^ (8 * k)))

/-- The clock identity of a port: its address with 0xFFFE after the third byte (R331). -/
def NetPort.identity (x : NetPort) : DWord :=
  let b := macBytes x.mac
  w64 (beNat (b.take 3 ++ [0xFF#8, 0xFE#8] ++ b.drop 3))

/-- Whether a port may transmit: it is up and its address is not zero (R330). -/
def State.portSends (s : State) (p : Nat) : Bool := s.portUp p && (s.net.ports.get p).mac != 0#48

/-- The port whose media clock the RATE record selects. -/
def State.mediaPort (s : State) : Option Nat := if s.cfg.dev.clock = 1 then some 0 else if s.cfg.dev.clock = 2 then some 1 else none

/-- The audio PLL holds its last frequency for want of a media clock, and ES1005 (R68). -/
def State.holdover (s : State) : State :=
  if s.mediaPort.isNone || s.dev.holdover then s
  else (s.modDev (fun d => { d with holdover := true, mediaLock := false, lockRun := 0 })).clockFault

/-- Whether the port of the media clock is down or not synchronised (R333). -/
def State.mediaGone (s : State) : Bool :=
  match s.mediaPort with
  | none => false
  | some p => !(s.portUp p && (s.net.ports.get p).synced)

/-- HOLDOVER while the port of the media clock is down or not synchronised (R333, R345). -/
def State.mediaCheck (s : State) : State := if s.mediaGone then s.holdover else s

/-- Whether the CRF listener is enabled on a port (R333). -/
def State.crfListens (s : State) (p : Nat) : Bool :=
  s.net.crfCtl.getLsbD 1 && (if s.net.crfCtl.getLsbD 2 then 1 else 0) == p

/-- GPTP_CHG where AS_CAPABLE, IS_GM, SYNCED or the grandmaster differ from before (R346). -/
def State.gptpChanged (s old : State) (p : Nat) : State :=
  let a := s.net.ports.get p
  let b := old.net.ports.get p
  if a.asCapable != b.asCapable || a.isGm != b.isGm || a.synced != b.synced || a.gmId != b.gmId then s.portFlag p 2 else s

/-- PHY_POLL: the device reads register 1 of the PHY at the PORT record's address over clause 22; the port is up while the PHY says so, its
receive clock is good and its speed is 1000 Mb/s (R329). A port that goes down is no longer part of a gPTP domain, and leads to holdover
where the media clock was taken from it (R345). -/
def State.phyPoll (s : State) (p : Nat) (reg1 : BitVec 16) (clockGood gigabit : Bool) : State :=
  match s.portRec p with
  | none => s
  | some r =>
    if !s.dev.phase.networked then s
    else
      let linked := reg1.getLsbD 2
      let up := linked && clockGood && gigabit
      let was := (s.net.ports.get p).link
      let down (x : NetPort) : NetPort :=
        { x with asCapable := false, isGm := false, synced := false, gmId := 0#64,
                 gptp := { x.gptp with best := none, fromSync := false, sync := none } }
      let s1 := s.updPort p (fun x => { (if up then x else down x) with link := up })
      let s2 := s1.gptpChanged s p
      let s3 := if up != was then s2.portFlag p 0 else s2
      let s4 := if linked && !gigabit then s3.portFlag p 1 else s3
      s4.mediaCheck.emit (.mdio (w32 (r.mdio % 32 + fld 1 5)))

/-- PHY_POLL. -/
def execPhyPoll (p : Fin 2) (reg1 : BitVec 16) (clockGood gigabit : Bool) (s : State) : Res :=
  .next (s.phyPoll p reg1 clockGood gigabit)

/-- Ticks of 10 ns that an MDIO access takes: 64 bits at an MDC of 2.5 MHz (PRESUMED, log entry 72: the length of a management frame is that
of clause 22). -/
def mdioTicks : Nat := 2560

/-- NET_MDIO_CMD: the access runs; a read leaves the PHY's answer in NET_MDIO_STAT, which shows BUSY while the access is on the bus (R329). -/
def State.mdioCmd (s : State) (v : Word) (answer : BitVec 16) : State :=
  (s.modNet (fun n => { n with mdioEnd := s.now + w64 mdioTicks, mdioData := if v.getLsbD 10 then n.mdioData else answer })).emit (.mdio v)

/-- NET_MDIO_CMD. -/
def execNetMdioCmd (t : Fin 8) (v : Word) (answer : BitVec 16) (s : State) : Res :=
  .next (s.access t 0x340A00 true (t == 0) (fun s => s.mdioCmd v answer))

/-! ### gPTP (R331, R332) -/

/-- gPTP nanoseconds at a device time in nanoseconds. -/
def Gptp.at_ (g : Gptp) (dev : Nat) : Nat := g.refTime + (dev - g.refDev) * g.rate / 4294967296

/-- Device time in nanoseconds. -/
def State.nowNs (s : State) : Nat := s.now.toNat * 10

/-- The gPTP time of port p at a device time in nanoseconds: as grandmaster, device time plus the epoch (R332). -/
def State.gptpTime (s : State) (p dev : Nat) : Nat :=
  let x := s.net.ports.get p
  if x.isGm then dev + s.net.epoch.toNat else x.gptp.at_ dev

/-- The time stamp of an event message sent now: device time at 8 ns resolution, with the PHY's latency added (R332). -/
def State.stampNs (s : State) (x : NetPort) : Nat := s.nowNs / 8 * 8 + x.txLat.toNat

/-- The gPTP role of a port: 0 off, 1 end station, 2 grandmaster-capable. -/
def State.gptpRole (s : State) (p : Nat) : Nat :=
  match s.portRec p with
  | some r => if s.portUp p then r.role else 0
  | none => 0

/-- The rank of a system identity and its distance in the best master clock algorithm: lower is better (R331). -/
def announceRank (a : GptpAnnounce) : List Nat :=
  [a.priority1.toNat, a.clockClass.toNat, a.accuracy.toNat, a.variance.toNat, a.priority2.toNat, a.gm.toNat, a.steps.toNat,
    a.source.toNat]

/-- Whether one rank is better than another. -/
def betterRank : List Nat → List Nat → Bool
  | a :: as, b :: bs => if a < b then true else if b < a then false else betterRank as bs
  | _, _ => false

/-- The system identity of port p, if it may become grandmaster: role 2 with a priority1 below 255 (R331). -/
def State.ownAnnounce (s : State) (p : Nat) : Option GptpAnnounce :=
  match s.portRec p with
  | none => none
  | some r =>
    if r.role = 2 ∧ r.priority1 < 255 then
      let id := (s.net.ports.get p).identity
      some { priority1 := BitVec.ofNat 8 r.priority1, clockClass := 248#8, accuracy := 0xFE#8, variance := 0x436A#16,
             priority2 := 248#8, gm := id, steps := 0#16, source := id, inPath := false }
    else none

/-- The outcome of the best master clock algorithm put into effect: who is grandmaster, and GPTP_CHG where the port's state or
grandmaster changes. -/
def State.gptpElect (s : State) (p : Nat) : State :=
  let x := s.net.ports.get p
  let own := s.ownAnnounce p
  let gm := match own, x.gptp.best with
    | none, _ => false
    | some _, none => true
    | some o, some b => betterRank (announceRank o) (announceRank b)
  let id := if gm then x.identity else match x.gptp.best with
    | some b => b.gm
    | none => 0#64
  s.updPort p (fun y =>
    { y with isGm := gm, gmId := id, synced := gm || (y.synced && !y.isGm && y.gmId == id),
             gptp := if gm then { y.gptp with fromSync := false, sync := none } else y.gptp })

/-- GPTP_SYNC: a Sync from the grandmaster's port waits for its Follow_Up. -/
def State.gptpSyncRx (s : State) (p : Nat) (m : GptpSync) : State :=
  let x := s.net.ports.get p
  let wanted := !x.isGm && x.asCapable && (match x.gptp.best with
    | some b => b.source == m.source
    | none => false)
  if s.gptpRole p = 0 || !wanted then s
  else s.updPort p (fun x => { x with gptp := { x.gptp with sync := some m } })

/-- GPTP_SYNC. -/
def execGptpSync (p : Fin 2) (m : GptpSync) (s : State) : Res := .next (s.gptpSyncRx p m)

/-- A Follow_Up completes the time transfer: the origin time, corrected and delayed by the link, is the gPTP time of the Sync's
receipt; two transfers give the rate (R331, R332). -/
def State.gptpFollowRx (s : State) (p : Nat) (m : GptpFollowUp) : State :=
  let x := s.net.ports.get p
  match x.gptp.sync with
  | none => s
  | some y =>
    if s.gptpRole p = 0 || y.source != m.source || y.seq != m.seq then s
    else
      let dev := y.rxTime - x.rxLat.toNat
      let time := ((m.origin : Int) + m.correction + x.pdelay.toNat).toNat
      let rate := if x.gptp.fromSync && decide (x.gptp.refDev < dev) then
          (time - x.gptp.refTime) * 4294967296 / (dev - x.gptp.refDev)
        else 4294967296
      let s1 := s.updPort p (fun x =>
        { x with synced := true,
                 gptp := { x.gptp with refDev := dev, refTime := time, rate := rate, fromSync := true, sync := none } })
      s1.gptpChanged s p

/-- GPTP_FOLLOW_UP. -/
def execGptpFollowUp (p : Fin 2) (m : GptpFollowUp) (s : State) : Res := .next (s.gptpFollowRx p m)

/-- GPTP_ANNOUNCE: one from the master known replaces what is known of it; a better one becomes the best (R331). -/
def State.gptpAnnounceRx (s : State) (p : Nat) (m : GptpAnnounce) : State :=
  let x := s.net.ports.get p
  if s.gptpRole p = 0 || m.inPath || decide (255 ≤ m.steps.toNat) || m.source == x.identity then s
  else
    let take := match x.gptp.best with
      | none => true
      | some b => b.source == m.source || betterRank (announceRank m) (announceRank b)
    if take then
      (((s.updPort p (fun x => { x with gptp := { x.gptp with best := some m } })).gptpElect p).gptpChanged s p).mediaCheck
    else s

/-- GPTP_ANNOUNCE. -/
def execGptpAnnounce (p : Fin 2) (m : GptpAnnounce) (s : State) : Res := .next (s.gptpAnnounceRx p m)

/-- GPTP_PDELAY: a request is answered with a response and its follow-up; a response and its follow-up give the link delay, and
asCapable while it stays within 800 ns (R331). -/
def State.gptpPdelayRx (s : State) (p : Nat) (m : GptpPdelay) : State :=
  let x := s.net.ports.get p
  if s.gptpRole p = 0 then s
  else match m with
    | .request source seq rx =>
      if s.portSends p then
        (s.emit (.gptp p 3 seq source (rx - x.rxLat.toNat))).emit (.gptp p 10 seq source (s.stampNs x))
      else s
    | .response req seq t2 tx rx =>
      if req == x.identity && seq == x.gptp.seqPdelay then
        s.updPort p (fun x => { x with gptp := { x.gptp with
          t1 := tx + x.txLat.toNat, t2 := t2, t4 := rx - x.rxLat.toNat } })
      else s
    | .responseFollowUp req seq t3 =>
      if req == x.identity && seq == x.gptp.seqPdelay && x.gptp.t4 != 0 then
        let g := x.gptp
        let ratio := match g.peer with
          | some (a, b) => if b < g.t4 then (t3 - a) * 4294967296 / (g.t4 - b) else g.ratio
          | none => g.ratio
        let d := ((g.t4 - g.t1) * ratio / 4294967296 - (t3 - g.t2)) / 2
        let s1 := s.updPort p (fun x =>
          { x with pdelay := w32 d, asCapable := decide (d ≤ 800),
                   gptp := { x.gptp with peer := some (t3, g.t4), ratio := ratio, t4 := 0, lost := 0 } })
        s1.gptpChanged s p
      else s

/-- GPTP_PDELAY. -/
def execGptpPdelay (p : Fin 2) (m : GptpPdelay) (s : State) : Res := .next (s.gptpPdelayRx p m)

/-- GPTP_SYNC_TX: a grandmaster port sends Sync and its Follow_Up (R331). -/
def State.gptpSyncSend (s : State) (p : Nat) : State :=
  let x := s.net.ports.get p
  if s.gptpRole p = 0 || !x.isGm || !x.asCapable || !s.portSends p then s
  else
    let q := x.gptp.seqSync
    let origin := s.gptpTime p (s.stampNs x)
    ((s.updPort p (fun x => { x with gptp := { x.gptp with seqSync := q + 1#16 } })).emit (.gptp p 0 q 0#64 0)).emit
      (.gptp p 8 q 0#64 origin)

/-- GPTP_SYNC_TX. -/
def execGptpSyncTx (p : Fin 2) (s : State) : Res := .next (s.gptpSyncSend p)

/-- Requests without an answer after which a port is no longer asCapable (PRESUMED, log entry 20: allowedLostResponses of IEEE
802.1AS-2020). -/
def allowedLost : Nat := 9

/-- A peer-delay request goes out; too many in a row without an answer end asCapable (R331). -/
def State.pdelaySend (s : State) (p : Nat) : State :=
  let q := (s.net.ports.get p).gptp.seqPdelay + 1#16
  let s1 := s.updPort p (fun x =>
    { x with asCapable := x.asCapable && decide (x.gptp.lost < allowedLost),
             gptp := { x.gptp with seqPdelay := q, t4 := 0, lost := x.gptp.lost + 1 } })
  (s1.gptpChanged s p).emit (.gptp p 2 q 0#64 0)

/-- GPTP_ANNOUNCE_TX: a peer-delay request goes out, and from a grandmaster port an Announce with its priorities, clock quality and identity;
a port that may become grandmaster and knows no better one becomes it (R331). -/
def State.gptpAnnounceSend (s : State) (p : Nat) : State :=
  if s.gptpRole p = 0 then s
  else
    let e := ((s.gptpElect p).gptpChanged s p).mediaCheck
    if !e.portSends p then e
    else
      let s1 := e.pdelaySend p
      let x := s1.net.ports.get p
      match s1.ownAnnounce p with
      | some a =>
        if x.isGm && x.asCapable then
          (s1.updPort p (fun x => { x with gptp := { x.gptp with seqAnn := x.gptp.seqAnn + 1#16 } })).emit
            (.gptpAnnounce p x.gptp.seqAnn a)
        else s1
      | none => s1

/-- GPTP_ANNOUNCE_TX. -/
def execGptpAnnounceTx (p : Fin 2) (s : State) : Res := .next (s.gptpAnnounceSend p)

/-- GPTP_SYNC_TIMEOUT: the port is no longer synchronised, and what it knew of its master has aged (R332); a media clock taken from it leads
to holdover (R333). -/
def State.gptpTimeout (s : State) (p : Nat) : State :=
  let x := s.net.ports.get p
  if s.gptpRole p = 0 || x.isGm then s
  else
    (((s.updPort p (fun x => { x with synced := false, gptp := { x.gptp with best := none, fromSync := false, sync := none } })).gptpElect
      p).gptpChanged s p).mediaCheck

/-- GPTP_SYNC_TIMEOUT. -/
def execGptpSyncTimeout (p : Fin 2) (s : State) : Res := .next (s.gptpTimeout p)

/-! ### Media clock (R68, R333, R334) -/

/-- A bit of NET_CRF_STAT set, with its source. -/
def State.crfFlag (s : State) (b : Nat) : State :=
  (s.modNet (fun n => { n with crfStat := n.crfStat ||| BitVec.ofNat 2 (2 ^ b) })).settle 920

/-- CRF_PDU_RX: the PLL places boundaries on the timestamps of the CRF listener's stream; a base frequency other than Fs sets FORMAT
(R333). -/
def State.crfRx (s : State) (m : CrfPdu) : State :=
  if !s.net.crfCtl.getLsbD 1 || m.streamId != s.net.crfLsid || !s.portUp (if s.net.crfCtl.getLsbD 2 then 1 else 0) then s
  else if m.base ≠ s.fs then s.crfFlag 0
  else s.modNet (fun n => { n with crfTargets := m.stamps, crfLocked := true })

/-- CRF_PDU_RX. -/
def execCrfPduRx (m : CrfPdu) (s : State) : Res := .next (s.crfRx m)

/-- CRF_TIMEOUT: no CRF PDU for 100 ms puts the PLL in holdover and sets LOST (R333). -/
def State.crfTimeout (s : State) : State :=
  if s.net.crfCtl.getLsbD 1 then
    ((s.modNet (fun n => { n with crfLocked := false })).crfFlag 1).holdover
  else s

/-- CRF_TIMEOUT. -/
def execCrfTimeout (s : State) : Res := .next s.crfTimeout

/-- Whether a boundary at gPTP time t lies within 100 ns of the grid that passes through the time t0, in steps of 10^9 / fs ns (R333). -/
def onGrid (fs t t0 : Nat) : Bool :=
  let e := (((t : Int) - t0) * fs % 1000000000).toNat
  decide (min e (1000000000 - e) ≤ 100 * fs)

/-- The media clock at a frame boundary (R333): without its port, holdover; else the phase error of the boundary against the grid k × 10^9 / Fs,
or where the CRF listener runs on that port against its timestamps, and MEDIA_LOCK once it has stayed within ±100 ns for 1 s. Between two
timestamps the grid has steps of 10^9 / Fs ns (DEDUCED, log entry 125). -/
def State.mediaStep (s : State) : State :=
  match s.mediaPort with
  | none => s
  | some p =>
    if s.mediaGone then s.holdover
    else
      let crf := s.crfListens p
      let origin := if crf then (s.net.crfTargets.getLastD 0#64).toNat else 0
      let good := !s.dev.holdover && !s.dev.clamp && (!crf || s.net.crfLocked) &&
        onGrid s.fs (s.net.ports.get p).gtime.toNat origin
      let run := if good then min s.fs (s.dev.lockRun + 1) else 0
      s.modDev (fun d => { d with lockRun := run, mediaLock := decide (s.fs ≤ run) })

/-- The Ethernet and VLAN header of a class A frame. -/
def avtpHeader (dst src : BitVec 48) (vlan : Word) : List Byte :=
  macBytes dst ++ macBytes src ++ beBytes 2 0x8100 ++ beBytes 2 (fld (bits vlan 15 13) 13 + bits vlan 11 0) ++ beBytes 2 0x22F0

/-- The CRF base-frequency field and one PDU (R334). -/
def crfFrame (src dst : BitVec 48) (id : DWord) (seq : Byte) (fs : Nat) (stamps : List DWord) : List Byte :=
  avtpHeader dst src 0x6002#32 ++ [0x04#8, 0x80#8, seq, 0x01#8] ++ beBytes 8 id.toNat ++ beBytes 4 fs ++
    beBytes 2 (8 * stamps.length) ++ beBytes 2 (fs / 300) ++ stamps.flatMap (fun x => beBytes 8 x.toNat)

/-- CRF_PDU_TX: a PDU of six boundary timestamps (R334). -/
def State.crfTx (s : State) : State :=
  let p := if s.net.crfCtl.getLsbD 2 then 1 else 0
  if s.net.crfCtl.getLsbD 0 && s.portSends p && decide (6 ≤ s.net.crfStamps.length) then
    (s.modNet (fun n => { n with crfStamps := n.crfStamps.drop 6, crfSeq := n.crfSeq + 1#8 })).emit
      (.netFrame p (crfFrame (s.net.ports.get p).mac s.net.crfDmac s.net.crfTsid s.net.crfSeq s.fs (s.net.crfStamps.take 6)))
  else s

/-- CRF_PDU_TX. -/
def execCrfPduTx (s : State) : Res := .next s.crfTx

/-! ### Talkers (R335, R336) -/

/-- A sample converted for a talker, and whether it was limited (R336). free is what a NaN gives. -/
def aafSample (format : Nat) (v : F32) (free : Word) : Word × Bool :=
  if format = 2 then (v, false)
  else
    let k := if format = 0 then 23 else 31
    let top : Int := 2 ^ k - 1
    let raw := codeNear k v free
    let q := clampInt (-top) top raw
    (BitVec.ofInt 32 (if format = 0 then q * 256 else q), q != raw)

/-- The AAF frame of a packet (Table 1 of chapter 14). -/
def aafFrame (src : BitVec 48) (x : Talker) (r : StreamRec) (fsCode : Nat) (k : TalkPacket) : List Byte :=
  let fmt := if r.format = 2 then 0x01 else 0x02
  let depth := if r.format = 0 then 24 else 32
  avtpHeader x.dmac src x.vlan ++ [0x02#8, 0x81#8, k.seq, 0#8] ++ beBytes 8 r.streamId.toNat ++
    beBytes 4 ((k.time.toNat + r.offset * 1000) % 2 ^ 32) ++ beBytes 1 fmt ++
    beBytes 3 (fld (fsCode + 4) 20 + fld r.channels 8 + depth) ++ beBytes 2 (4 * k.words.length) ++ [0#8, 0#8] ++
    k.words.flatMap (fun w => beBytes 4 w.toNat)

/-- Whether a talker may send now (R335). -/
def State.talkerSends (s : State) (i : Nat) (r : StreamRec) : Bool :=
  let x := s.net.talkers.get i
  x.en && s.portSends r.port && (s.net.ports.get r.port).synced && x.dmac != 0#48 && s.drives

/-- TALKER_PACKET_TX: the oldest finished packet is queued, or discarded and counted while the talker may not send (R335). -/
def State.talkerTx (s : State) (i : Nat) : State :=
  match s.streamRec false i, (s.net.talkers.get i).ready with
  | some (_, r), k :: rest =>
    let s1 := s.modNet (fun n => { n with talkers := n.talkers.upd i (fun x => { x with ready := rest }) })
    if s.talkerSends i r then
      s1.emit (.netFrame r.port (aafFrame (s.net.ports.get r.port).mac (s.net.talkers.get i) r s.cfg.dev.fs k))
    else
      s1.modNet (fun n => { n with talkers := n.talkers.upd i (fun x =>
        { x with drops := errCount x.drops 1, stat := x.stat ||| 2#2 }) })
  | _, _ => s

/-- TALKER_PACKET_TX. -/
def execTalkerPacketTx (stream : Fin 16) (s : State) : Res := .next (s.talkerTx stream)

/-- The samples that a talker's channels take in one frame, gathered into its packet (R335, R336); start is the gPTP time of the
boundary of the frame they belong to, free where the free values of NaN samples begin. -/
def Talker.gather (x : Talker) (r : StreamRec) (frames : Nat) (start : DWord) (free : Nat) (samples : List F32) : Talker :=
  let conv := samples.zipIdx.map (fun v => aafSample r.format v.1 (Config.freeWord (free + v.2)))
  let clipped := (conv.filter Prod.snd).length
  let x1 :=
    { x with clips := errCount x.clips clipped, stat := if clipped = 0 then x.stat else x.stat ||| 1#2,
             start := if x.count = 0 then start else x.start, count := x.count + 1, words := x.words ++ conv.map Prod.fst }
  if frames ≤ x1.count then
    { x1 with seq := x1.seq + 1#8, count := 0, words := [],
              ready := x1.ready ++ [{ time := x1.start, seq := x1.seq, words := x1.words }] }
  else x1

/-! ### Listeners (R338, R339) -/

/-- A bit of NET_LSTATs set, with its source. -/
def State.listenFlag (s : State) (i b : Nat) : State :=
  (s.modNet (fun n => { n with listeners := n.listeners.upd i (fun x => { x with stat := x.stat ||| BitVec.ofNat 5 (2 ^ b) }) })).settle
    (896 + i)

/-- A listener changed. -/
def State.updListener (s : State) (i : Nat) (f : Listener → Listener) : State :=
  s.modNet (fun n => { n with listeners := n.listeners.upd i f })

/-- The 64-bit time nearest to t with given low 32 bits (R339). -/
def nearestTime (t low : Nat) : Nat :=
  let base := t - t % 4294967296 + low
  if base + 2147483648 < t then base + 4294967296
  else if t + 2147483648 < base then base - 4294967296
  else base

/-- A received sample as binary32 (R336). -/
def aafValue (format : Nat) (w : Word) : F32 :=
  if format = 2 then gFlush w
  else if format = 0 then gRatio (signed 24 (w.toNat / 256)) 8388608
  else gRatio (signed 32 w.toNat) 2147483648

/-- Whether a packet's header agrees with its stream's record and Fs (R338). -/
def aafMatches (r : StreamRec) (fsCode : Nat) (m : AafPacket) : Bool :=
  m.tv && m.subtype == 2#8 && m.format == (if r.format = 2 then 1#8 else 2#8) &&
    m.bitDepth == (if r.format = 0 then 24#8 else 32#8) && m.nsr == BitVec.ofNat 4 (fsCode + 4) && m.channels == r.channels

/-- One frame of a packet placed in its listener's buffer, or discarded as late or early (R339). last and next are the gPTP times of
the last and the next boundary, now the present; times are compared in units of 1 / Fs nanoseconds. -/
def State.placeFrame (s : State) (i fs now last next : Nat) (h : HeldFrame) : State :=
  let pres := h.p * fs + h.j * 1000000000
  if pres ≤ last * fs || (decide (pres ≤ next * fs) && decide (next < now + 100)) then
    (s.updListener i (fun x => { x with lates := errCount x.lates 1 })).listenFlag i 0
  else if next * fs + 768 * 1000000000 < pres || decide (768 ≤ (s.net.listeners.get i).buf.length) then s.listenFlag i 1
  else
    let margin := (pres - now * fs) / fs / 1000
    s.updListener i (fun x => { x with buf := x.buf ++ [h], margin := BitVec.ofNat 16 (min x.margin.toNat margin) })

/-- The words of a packet, a list for each frame. -/
def packetRows (ch : Nat) : Nat → List Word → List (List Word)
  | 0, _ => []
  | k + 1, l => if l.length < ch then [] else l.take ch :: packetRows ch k (l.drop ch)

/-- LISTENER_PACKET: the packet is checked, its sequence number compared, and its frames are placed (R338, R339). -/
def State.listenerRx (s : State) (i : Nat) (m : AafPacket) : State :=
  match s.streamRec true i with
  | none => s
  | some (_, r) =>
    let x := s.net.listeners.get i
    if !x.en || !s.portUp r.port || m.streamId != r.streamId then s
    else if !aafMatches r s.cfg.dev.fs m then s.listenFlag i 4
    else
      let gap := match x.lastSeq with
        | some q => m.seq != q + 1#8
        | none => false
      let s1 := s.updListener i (fun x => { x with lastSeq := some m.seq, seqs := if gap then errCount x.seqs 1 else x.seqs })
      let s2 := if gap then s1.listenFlag i 3 else s1
      let fs := s.fs
      let now := s.gptpTime r.port s.nowNs
      let last := (s.net.ports.get r.port).gtime.toNat
      let next := last + 1000000000 / fs
      let p := nearestTime now m.timestamp.toNat
      (packetRows r.channels m.words.length m.words).zipIdx.foldl (fun s x =>
        s.placeFrame i fs now last next { p := p, j := x.2, samples := x.1.map (aafValue r.format) }) s2

/-- LISTENER_PACKET. -/
def execListenerPacket (s : Fin 16) (m : AafPacket) (st : State) : Res := .next (st.listenerRx s m)

/-- What a listener delivers at a boundary with gPTP time tm: the newest sample due, the oldest due within the next frame, or none
(R339). The second and third answers say that a SLIP or a LATE is counted. -/
def Listener.deliver (x : Listener) (fs tm channels : Nat) : Listener × Bool × Bool :=
  let pres (h : HeldFrame) : Nat := h.p * fs + h.j * 1000000000
  let newest := x.buf.foldl (fun b h => if pres h ≤ tm * fs then
      match b with
      | none => some h
      | some k => if pres k ≤ pres h then some h else b
    else b) none
  let early := x.buf.foldl (fun b h => if pres h ≤ tm * fs + 1000000000 then
      match b with
      | none => some h
      | some k => if pres h < pres k then some h else b
    else b) none
  match newest with
  | some h =>
    let older := x.buf.any (fun k => decide (pres k < pres h))
    ({ x with buf := x.buf.filter (fun k => decide (pres h < pres k)), out := h.samples }, older, false)
  | none => match early with
    | some h => ({ x with buf := x.buf.filter (fun k => k != h), out := h.samples }, true, false)
    | none => ({ x with out := List.replicate channels 0#32 }, false, true)

/-- LISTENER_DELIVER of one stream at the boundary (R339). -/
def State.listenerDeliver (s : State) (i : Nat) : State :=
  match s.streamRec true i with
  | none => s
  | some (_, r) =>
    let x := s.net.listeners.get i
    if !x.en then s.updListener i (fun x => { x with out := List.replicate r.channels 0#32 })
    else
      let d := x.deliver s.fs (s.net.ports.get r.port).gtime.toNat r.channels
      let s1 := s.updListener i (fun _ =>
        { d.1 with slips := if d.2.1 then errCount d.1.slips 1 else d.1.slips,
                   lates := if d.2.2 then errCount d.1.lates 1 else d.1.lates })
      let s2 := if d.2.1 then s1.listenFlag i 2 else s1
      if d.2.2 then s2.listenFlag i 0 else s2

/-! ### Packet wells (R340, R341) -/

/-- The EtherType of a frame, behind a VLAN tag where it has one. -/
def etherType (b : List Byte) : Nat :=
  let t := beNat ((b.drop 12).take 2)
  if t = 0x8100 then beNat ((b.drop 16).take 2) else t

/-- The bytes behind the EtherType. -/
def etherBody (b : List Byte) : List Byte := if beNat ((b.drop 12).take 2) = 0x8100 then b.drop 18 else b.drop 14

/-- Whether a rule's destination class takes a frame: 0 any, 1 the port's address, 2 broadcast, 3 multicast. -/
def destClass (cls : Nat) (mac : BitVec 48) (b : List Byte) : Bool :=
  let d := b.take 6
  let broadcast := d == List.replicate 6 0xFF#8
  match cls with
  | 0 => true
  | 1 => d == macBytes mac
  | 2 => broadcast
  | _ => (d.headD 0#8).getLsbD 0 && !broadcast

/-- The PKT well that steering gives a frame (R340). -/
def State.steer (s : State) (p : Nat) (b : List Byte) : Option Nat :=
  let takes (r : Word) : Bool :=
    r.getLsbD 31 && (bits r 15 0 == 0 || bits r 15 0 == etherType b) && (bits r 19 18).testBit p &&
      destClass (bits r 17 16) (s.net.ports.get p).mac b
  let w := match s.net.steer.toList.find? takes with
    | some r => some (bits r 27 20)
    | none => if s.net.defWell.getLsbD 8 then some (bits s.net.defWell 7 0) else none
  w.filter (fun w => match s.wellRec w with
    | some (_, r) => r.type == .pkt
    | none => false)

/-- The entries of a received frame in a PKT well (Table 7 of chapter 05). -/
def pktEntries (port lost : Nat) (time : DWord) (b : List Byte) : List (List Byte) :=
  let n := 1 + ceilDiv (b.length - 48) 56
  let first := beBytes 0 0 ++ [BitVec.ofNat 8 b.length, BitVec.ofNat 8 (b.length / 256), BitVec.ofNat 8 (5 + flag (n == 1) 1),
    BitVec.ofNat 8 port] ++ wordBytes (w32 lost) ++ wordBytes (lo32 time) ++ wordBytes (hi32 time) ++ b.take 48
  let more (k : Nat) : List Byte :=
    [0#8, 0#8, BitVec.ofNat 8 (flag (k + 2 == n) 1), BitVec.ofNat 8 port] ++ wordBytes 0#32 ++ (b.drop (48 + 56 * k)).take 56
  let pad (x : List Byte) : List Byte := (x ++ List.replicate 64 0#8).take 64
  (first :: (List.range (n - 1)).map more).map pad

/-- A received frame stored in a PKT well, or dropped whole (R119, R340). -/
def State.pktStore (s : State) (w port : Nat) (time : DWord) (b : List Byte) : State :=
  match s.wellRec w with
  | none => s
  | some (n, r) =>
    let x := s.wells.get w
    let es := pktEntries port x.lostBefore time b
    if wellCapacity r.k < x.fill + es.length then (s.modWells (fun b => b.put w x.drop)).settle (384 + w)
    else
      let s1 := es.zipIdx.foldl (fun s e => s.cisWrite (r.entryAt (x.p.toNat + e.2)) e.1) s
      ((s1.modWells (fun b => b.put w (x.produced es.length))).count n 12 w 1).settle (384 + w)

/-- Whether a listener or the CRF listener takes an AVTP frame (R338, R333). -/
def State.avtpTaken (s : State) (p : Nat) (b : List Byte) : Bool :=
  let id := w64 (beNat (((etherBody b).drop 4).take 8))
  etherType b == 0x22F0 &&
    ((List.range 16).any (fun i => match s.streamRec true i with
      | some (_, r) => r.port == p && r.streamId == id && (s.net.listeners.get i).en
      | none => false) ||
     (s.net.crfCtl.getLsbD 1 && (if s.net.crfCtl.getLsbD 2 then 1 else 0) == p && s.net.crfLsid == id))

/-- Whether gPTP takes a frame: every gPTP message but Signaling, which goes to packet steering (R331). -/
def gptpTaken (b : List Byte) : Bool := etherType b == 0x88F7 && bits ((etherBody b).headD 0#8) 3 0 != 12

/-- RX_FRAME: checked, taken by gPTP or a listener, whose own commands bring its contents, or steered (R330, R340). -/
def State.rxFrame (s : State) (p : Nat) (fr : RxFrame) : State :=
  if !s.portUp p then s
  else
    let n := fr.bytes.length + 4
    if !fr.fcsGood || decide (1522 < n) then s.updPort p (fun x => { x with rxErr := errCount x.rxErr 1 })
    else if n < 64 || gptpTaken fr.bytes || s.avtpTaken p fr.bytes then s
    else match s.steer p fr.bytes with
      | some w => s.pktStore w p fr.time fr.bytes
      | none => (s.updPort p (fun x => { x with rxDrop := errCount x.rxDrop 1 })).portFlag p 3

/-- RX_FRAME. -/
def execRxFrame (p : Fin 2) (fr : RxFrame) (s : State) : Res := .next (s.rxFrame p fr)

/-- The entries of the next frame of a transmit well, from C on: up to LAST, or up to where the form breaks. The answer says whether
the frame is whole. -/
def State.txFrame (s : State) (r : WellRec) : Nat → Nat → Bool → List (List Byte) → List (List Byte) × Bool
  | 0, _, _, acc => (acc, false)
  | k + 1, i, first, acc =>
    let e := s.mem.cis.getBytes (r.entryAt i) 64
    let fl := e.getD 2 0#8
    if first then
      if !fl.getLsbD 0 then ([e], false)
      else if fl.getLsbD 1 then ([e], true)
      else s.txFrame r k (i + 1) false [e]
    else if fl.getLsbD 0 then (acc, false)
    else if fl.getLsbD 1 then (acc ++ [e], true)
    else s.txFrame r k (i + 1) false (acc ++ [e])

/-- Whether a transmit well holds a frame that can be taken: not one whose LAST entry has not been produced. -/
def State.txReady (s : State) (w : Nat) : Bool :=
  match s.wellRec w with
  | none => false
  | some (_, r) =>
    let x := s.wells.get w
    let f := s.txFrame r x.fill x.c.toNat true []
    r.type == .pkt && x.fill != 0 && (f.2 || f.1.length != x.fill || (f.1.headD []).getD 2 0#8 &&& 1#8 != 1#8)

/-- The transmit register of a port whose well sends next, and the well: round-robin frame by frame over those with a frame (R337). -/
def State.txTurn (s : State) (p : Nat) : Option (Nat × Nat) :=
  (List.range 8).findSome? (fun k =>
    let i := (s.net.txNext.get p + k) % 8
    let r := s.net.txWell.get (8 * p + i)
    if r.getLsbD 8 && s.txReady (bits r 7 0) then some (i, bits r 7 0) else none)

/-- The next frame of a transmit PKT well is sent, padded to 60 bytes, or consumed with CMD_ERR (R341). -/
def State.pktSend (s : State) (w p n : Nat) (r : WellRec) : State :=
  let x := s.wells.get w
  let f := s.txFrame r x.fill x.c.toNat true []
  let len := (wordOf ((f.1.headD []).getD 0 0#8) ((f.1.headD []).getD 1 0#8) 0#8 0#8).toNat
  let body := ((f.1.headD []).drop 16 ++ (f.1.drop 1).flatMap (fun e => e.drop 8)).take len
  let whole := f.2 && decide (14 ≤ len) && decide (len ≤ 1518) && decide (f.1.length = 1 + ceilDiv (len - 48) 56)
  let y := { x with c := x.c + BitVec.ofNat 16 f.1.length,
                    status := if whole then x.status else x.status ||| 8#5 }
  let s1 := ((s.modWells (fun b => b.put w y)).count n 12 w 1).settle (384 + w)
  if whole then s1.emit (.netFrame p (body ++ List.replicate (60 - body.length) 0#8)) else s1

/-- PKT_WELL_TX: the well sends a frame when its turn has come on a port that may send; out of its turn nothing happens (DEDUCED, log entry
126: the command names the well that transmit selection has reached). -/
def State.pktTx (s : State) (w : Nat) : State :=
  match s.wellRec w, (List.range 2).findSome? (fun p => if s.portSends p then
      (s.txTurn p).bind (fun t => if t.2 = w then some (p, t.1) else none) else none) with
  | some (n, r), some (p, i) =>
    (s.modNet (fun x => { x with txNext := x.txNext.put p ((i + 1) % 8) })).pktSend w p n r
  | _, _ => s

/-- PKT_WELL_TX. -/
def execPktWellTx (w : Fin 256) (s : State) : Res := .next (s.pktTx w)

end Sys2Proof.Machine
end

