-- ==== Sys2Proof/Machine/Usb.lean ====
section
/-! DEFINITION. The USB device (R342 to R347): attachment, standard requests, MIDI in both forms, and the queues to the USB host. The
layouts of USB-MIDI event packets and UMP messages are those of the standards the manual names (PRESUMED, log entry 20). -/

namespace Sys2Proof.Machine

/-- Events that an ingress queue holds (R130). -/
def ingressMax : Nat := 16

/-! ### Attachment (R342) -/

/-- USB_EVT bits set, with their source (R345). -/
def State.usbEvt (s : State) (b : Nat) : State :=
  (s.modUsb (fun u => { u with evt := u.evt ||| BitVec.ofNat 5 (2 ^ b) })).settle 928

/-- USB_VBUS_CHANGE. -/
def execUsbVbusChange (level : Bool) (s : State) : Res := .next (s.modUsb (fun u => { u with vbus := level })).usbAttach

/-- USB_CTRL_WRITE: CONNECT (R342). -/
def State.usbCtrl (s : State) (v : Word) : State := (s.modUsb (fun u => { u with connect := v.getLsbD 0 })).usbAttach

/-- USB_CTRL_WRITE. -/
def execUsbCtrlWrite (t : Fin 8) (v : Word) (s : State) : Res := .next (s.access t 0x360000 true (t == 0) (fun s => s.usbCtrl v))

/-- USB_BUS_RESET: the default state, at the speed agreed, and BUS_RESET (R347). -/
def execUsbBusReset (highSpeed : Bool) (s : State) : Res :=
  .next (if s.usb.attached then
    (s.modUsb (fun u => { u.fresh .default_ with highSpeed := highSpeed })).usbEvt 0
  else s)

/-- Resume signalled while the bus is suspended, the host has enabled remote wakeup and a message waits (R344). -/
def State.usbWake (s : State) : State :=
  if s.usb.suspended && s.usb.remoteWake && s.usb.tx.toList.any (fun x => !x.queue.isEmpty) then s.emit .usbResume else s

/-- USB_SUSPEND. A message that already waits makes the device signal resume (R344). -/
def execUsbSuspend (s : State) : Res :=
  .next (if s.usb.attached && !s.usb.suspended then ((s.modUsb (fun u => { u with suspended := true })).usbEvt 2).usbWake else s)

/-- USB_RESUME. -/
def execUsbResume (s : State) : Res :=
  .next (if s.usb.suspended then (s.modUsb (fun u => { u with suspended := false })).usbEvt 3 else s)

/-! ### Standard requests (R343) -/

/-- Whether the device answers requests. -/
def UsbState.answers (u : UsbState) : Bool := u.attached && !u.suspended

/-- An answer on the control endpoint. -/
def State.usbAnswer (s : State) (a : Option (List Byte)) : State := if s.usb.answers then s.emit (.usbControl a) else s

/-- A request that changes the device's state and ends without data. -/
def State.usbDo (s : State) (f : UsbState → UsbState) : State :=
  if s.usb.answers then (s.modUsb f).emit (.usbControl (some [])) else s

/-- The little-endian 16-bit value of two bytes. -/
def le16 (a b : Byte) : Nat := a.toNat + 256 * b.toNat

/-- The image's descriptors, each whole: a configuration and a group terminal block with all they contain. -/
def descriptors : Nat → List Byte → List (List Byte)
  | 0, _ => []
  | k + 1, b =>
    match b with
    | [] => []
    | l :: _ =>
      let t := b.getD 1 0#8
      let n := if t = 2#8 then le16 (b.getD 2 0#8) (b.getD 3 0#8)
        else if t = 0x26#8 then le16 (b.getD 3 0#8) (b.getD 4 0#8)
        else l.toNat
      if n = 0 then [] else b.take n :: descriptors k (b.drop n)

/-- The descriptor of a type and index, in order of appearance. -/
def State.descriptor (s : State) (type index : Nat) : Option (List Byte) :=
  ((descriptors s.cfg.dev.usbDesc.length s.cfg.dev.usbDesc).filter (fun d => (d.getD 1 0#8).toNat == type))[index]?

/-- The descriptors inside the configuration, one by one. -/
def configParts : Nat → List Byte → List (List Byte)
  | 0, _ => []
  | k + 1, b =>
    match b with
    | [] => []
    | l :: _ => if l.toNat = 0 then [] else b.take l.toNat :: configParts k (b.drop l.toNat)

/-- The parts of the configuration descriptor. -/
def State.configParts (s : State) : List (List Byte) :=
  match s.descriptor 2 0 with
  | some d => Sys2Proof.Machine.configParts d.length d
  | none => []

/-- The number of the MIDI streaming interface: audio class, MIDI streaming subclass. -/
def State.midiInterface (s : State) : Option Nat :=
  (s.configParts.find? (fun d => d.getD 1 0#8 == 4#8 && d.getD 5 0#8 == 1#8 && d.getD 6 0#8 == 3#8)).map
    (fun d => (d.getD 2 0#8).toNat)

/-- Whether the configuration has an interface. -/
def State.hasInterface (s : State) (i : Nat) : Bool :=
  s.configParts.any (fun d => d.getD 1 0#8 == 4#8 && (d.getD 2 0#8).toNat == i)

/-- GET_DESCRIPTOR: device, configuration, device qualifier, string in order of appearance, or group terminal block; others stall. -/
def execGetDescriptor (r : UsbSetup) (s : State) : Res :=
  let type := bits r.value 15 8
  .next (s.usbAnswer (if [1, 2, 3, 6, 0x26].contains type then
    (s.descriptor type (bits r.value 7 0)).map (fun d => d.take r.length.toNat)
  else none))

/-- SET_ADDRESS. -/
def execSetAddress (r : UsbSetup) (s : State) : Res :=
  .next (s.usbDo (fun u =>
    let phase := if u.phase == .configured then .configured else if bits r.value 6 0 = 0 then .default_ else .address
    { u with addr := BitVec.ofNat 7 (bits r.value 6 0), phase := phase }))

/-- SET_CONFIGURATION: 0 or the configuration's own value; CONFIG is set. Other values, and the default state, stall. -/
def execSetConfiguration (r : UsbSetup) (s : State) : Res :=
  let v := bits r.value 7 0
  let own := ((s.descriptor 2 0).getD []).getD 5 0#8
  let good := s.usb.phase != .default_ && (v == 0 || v == own.toNat)
  .next (if s.usb.answers && good then
    (s.usbDo (fun u =>
      { u with config := BitVec.ofNat 8 v, phase := if v = 0 then .address else .configured, alt := false, haltOut := false,
               haltIn := false, outPart := [] })).usbEvt 1
  else s.usbAnswer none)

/-- GET_CONFIGURATION. -/
def execGetConfiguration (r : UsbSetup) (s : State) : Res := .next (s.usbAnswer (some ([s.usb.config].take r.length.toNat)))

/-- SET_INTERFACE: alternate setting 0 or 1 of the MIDI streaming interface, and 0 of any other; others stall. -/
def execSetInterface (r : UsbSetup) (s : State) : Res :=
  let i := bits r.index 7 0
  let midi := s.midiInterface == some i
  let good := s.usb.phase == .configured && s.hasInterface i && decide (r.value.toNat ≤ if midi then 1 else 0)
  .next (if good then
    s.usbDo (fun u => if midi then { u with alt := r.value.toNat == 1, haltOut := false, haltIn := false, outPart := [] } else u)
  else s.usbAnswer none)

/-- GET_INTERFACE. -/
def execGetInterface (r : UsbSetup) (s : State) : Res :=
  let i := bits r.index 7 0
  .next (s.usbAnswer (if s.usb.phase == .configured && s.hasInterface i then
    some ([if s.midiInterface == some i && s.usb.alt then 1#8 else 0#8].take r.length.toNat)
  else none))

/-- The recipient of a request: 0 device, 1 interface, 2 endpoint. -/
def usbRecipient (r : UsbSetup) : Nat := bits r.requestType 4 0

/-- GET_STATUS: self-powered and remote wakeup of the device; the halt of an endpoint. -/
def execGetStatus (r : UsbSetup) (s : State) : Res :=
  let power := (((s.descriptor 2 0).getD []).getD 7 0#8).getLsbD 6
  let ep := bits r.index 7 0
  let a : Option Nat := match usbRecipient r with
    | 0 => some (flag power 0 + flag s.usb.remoteWake 1)
    | 1 => if s.hasInterface ep then some 0 else none
    | 2 => if ep = 1 then some (flag s.usb.haltOut 0) else if ep = 0x81 then some (flag s.usb.haltIn 0)
           else if ep = 0 ∨ ep = 0x80 then some 0 else none
    | _ => none
  .next (s.usbAnswer (a.map (fun v => [BitVec.ofNat 8 v, 0#8].take r.length.toNat)))

/-- Remote wakeup or an endpoint halt set or cleared; other features stall. -/
def State.usbFeature (s : State) (r : UsbSetup) (on : Bool) : State :=
  let ep := bits r.index 7 0
  if usbRecipient r = 0 ∧ r.value.toNat = 1 then s.usbDo (fun u => { u with remoteWake := on })
  else if usbRecipient r = 2 ∧ r.value.toNat = 0 ∧ ep = 1 then s.usbDo (fun u => { u with haltOut := on })
  else if usbRecipient r = 2 ∧ r.value.toNat = 0 ∧ ep = 0x81 then s.usbDo (fun u => { u with haltIn := on })
  else s.usbAnswer none

/-- SET_FEATURE. -/
def execSetFeature (r : UsbSetup) (s : State) : Res := .next (s.usbFeature r true)

/-- CLEAR_FEATURE. -/
def execClearFeature (r : UsbSetup) (s : State) : Res := .next (s.usbFeature r false)

/-- USB_UNSUPPORTED_REQUEST: a stall. -/
def execUsbUnsupportedRequest (_ : UsbSetup) (s : State) : Res := .next (s.usbAnswer none)

/-! ### UMP and USB-MIDI (R343, R344) -/

/-- The words of a UMP message by its type. -/
def umpWords (w : Word) : Nat :=
  match bits w 31 28 with
  | 0 | 1 | 2 | 6 | 7 => 1
  | 3 | 4 | 8 | 9 | 10 => 2
  | 11 | 12 => 3
  | _ => 4

/-- The group of a UMP message; types 0x0 and 0xF have none. -/
def umpGroup (w : Word) : Option Nat := if bits w 31 28 = 0 ∨ bits w 31 28 = 15 then none else some (bits w 27 24)

/-- The messages in a run of UMP words, and the words of an unfinished one. -/
def umpSplit : Nat → List Word → List (List Word) × List Word
  | 0, l => ([], l)
  | k + 1, l =>
    match l with
    | [] => ([], [])
    | w :: _ =>
      if l.length < umpWords w then ([], l)
      else
        let r := umpSplit k (l.drop (umpWords w))
        (l.take (umpWords w) :: r.1, r.2)

/-- The UMP packet of up to six bytes of system exclusive data (type 0x3): status 0 whole, 1 start, 2 continue, 3 end. -/
def sysexUmp (group status : Nat) (data : List Byte) : Msg :=
  let b (i : Nat) : Nat := (data.getD i 0#8).toNat
  .ump (w32 (fld 3 28 + fld group 24 + fld status 20 + fld data.length 16 + fld (b 0) 8 + b 1))
    (w32 (fld (b 2) 24 + fld (b 3) 16 + fld (b 4) 8 + b 5))

/-- The UMP packet of a system common or real-time message (type 0x1). -/
def systemUmp (group : Nat) (status d1 d2 : Byte) : Msg :=
  .ump (w32 (fld 1 28 + fld group 24 + fld status.toNat 16 + fld d1.toNat 8 + d2.toNat)) 0#32

/-- The message of a USB-MIDI event packet, with its cable number; none for a reserved code. -/
def usbMidiMsg (w : Word) : Option Msg :=
  let cable := bits w 7 4
  let b0 := byteOf w 1
  let b1 := byteOf w 2
  let b2 := byteOf w 3
  let sys (n : Nat) : Option Msg :=
    let l := [b0, b1, b2].take n
    let start := l.headD 0#8 == 0xF0#8
    let stop := l.getLastD 0#8 == 0xF7#8
    let data := l.filter (fun x => x != 0xF0#8 && x != 0xF7#8)
    some (sysexUmp cable (if start then (if stop then 0 else 1) else if stop then 3 else 2) data)
  match bits w 3 0 with
  | 2 => some (systemUmp cable b0 b1 0#8)
  | 3 => some (systemUmp cable b0 b1 b2)
  | 4 => sys 3
  | 5 => if b0 == 0xF7#8 then sys 1 else some (systemUmp cable b0 0#8 0#8)
  | 6 => sys 2
  | 7 => sys 3
  | 8 | 9 | 10 | 11 | 14 => some (.midi1 cable b0 b1 b2)
  | 12 | 13 => some (.midi1 cable b0 b1 0#8)
  | 15 => some (systemUmp cable b0 0#8 0#8)
  | _ => none

/-- The message of a UMP packet of any type. An event carries 64 bits of body (R133): of a longer message its first two words. -/
def umpMsg (l : List Word) : Msg :=
  let w := l.headD 0#32
  if bits w 31 28 = 2 then .midi1 (bits w 27 24) (byteOf w 2) (byteOf w 1) (byteOf w 0) else .ump w (l.getD 1 0#32)

/-- The tenancy that MIDI_MAP gives an interface and group. -/
def State.midiMap (s : State) (iface group : Nat) : Option Nat :=
  (s.cfg.dev.midiMap.find? (fun r => r.iface == iface && r.group == group)).map MidiMapRec.tenancy

/-- One message from the USB host: to its ingress with the tenancy MIDI_MAP gives, or dropped and counted (R343). -/
def State.usbDeliver (s : State) (iface : Nat) (group : Option Nat) (m : Option Msg) : State :=
  match m, group.bind (s.midiMap iface) with
  | none, _ => s
  | some _, none => (s.modUsb (fun u => { u with unmapped := errCount u.unmapped 1 })).usbEvt 4
  | some m, some n =>
    let e : RawEvent := { msg := m, playAt := 0#64, value := none, mirror := none, ten := n }
    s.modFront (fun f => if iface = 0 then { f with usb1 := f.usb1 ++ [e] } else { f with usb2 := f.usb2 ++ [e] })

/-- The bulk maximum packet size in bytes: 512 at high speed, 64 at full speed (R342). -/
def UsbState.bulkMax (u : UsbState) : Nat := if u.highSpeed then 512 else 64

/-- USB_OUT_DATA: the data of one OUT packet of at most the bulk maximum, NAKed while the ingress queue is full (R343). Messages of the packet beyond the queue's
room wait in the endpoint's buffer, which the model keeps at the queue's end (DEDUCED, log entry 26). -/
def State.usbOut (s : State) (data : List Word) : State :=
  let u := s.usb
  if !u.answers || u.phase != .configured || u.haltOut || decide (u.bulkMax < 4 * data.length) then s
  else if !u.alt then
    if ingressMax ≤ s.front.usb1.length then s.emit .usbNak
    else data.foldl (fun s w => s.usbDeliver 0 (some (bits w 7 4)) (usbMidiMsg w)) s
  else if ingressMax ≤ s.front.usb2.length then s.emit .usbNak
  else
    let r := umpSplit (u.outPart.length + data.length) (u.outPart ++ data)
    (r.1.foldl (fun s l => s.usbDeliver 1 (umpGroup (l.headD 0#32)) (some (umpMsg l))) s).modUsb (fun u => { u with outPart := r.2 })

/-- USB_OUT_DATA. -/
def execUsbOutData (data : List Word) (s : State) : Res := .next (s.usbOut data)

/-- A bit of USB_TXSTATn set with a dropped message counted, and the source (R344, R345). -/
def State.usbTxDrop (s : State) (n b : Nat) : State :=
  (s.modUsb (fun u => { u with tx := u.tx.upd n (fun x =>
    { x with stat := x.stat ||| BitVec.ofNat 3 (2 ^ b), drops := errCount x.drops 1 }) })).settle (928 + n)

/-- A write of USB_TXDATAn: the word joins the message being gathered; a whole message is queued or dropped whole (R344). -/
def State.usbTxData (s : State) (n : Nat) (v : Word) : State :=
  let x := s.usb.tx.get n
  let l := x.asm ++ [v]
  if l.length < umpWords (l.headD 0#32) then s.modUsb (fun u => { u with tx := u.tx.upd n (fun x => { x with asm := l }) })
  else
    let s1 := s.modUsb (fun u => { u with tx := u.tx.upd n (fun x => { x with asm := [] }) })
    let iface := if s.usb.alt then 1 else 0
    let mine := match umpGroup (l.headD 0#32) with
      | some g => s.midiMap iface g == some n
      | none => true
    if !mine then s1.usbTxDrop n 1
    else if 64 < x.fill + l.length then s1.usbTxDrop n 0
    else
      (s1.modUsb (fun u => { u with tx := u.tx.upd n (fun x => { x with queue := x.queue ++ [l] }) })).usbWake

/-- USB_TXDATA_WRITE. -/
def execUsbTxdataWrite (t n : Fin 8) (v : Word) (s : State) : Res :=
  .next (s.access t (0x360100 + 0x10 * n) true (t == n) (fun s => s.usbTxData n v))

/-- A USB-MIDI event packet of a cable. -/
def usbMidiPacket (cable cin : Nat) (b : List Byte) : Word :=
  w32 (fld cable 4 + cin + fld (b.getD 0 0#8).toNat 8 + fld (b.getD 1 0#8).toNat 16 + fld (b.getD 2 0#8).toNat 24)

/-- A MIDI 1.0 channel message as a packet: the code index is the status nibble. -/
def usbChannelPacket (cable status d1 d2 : Nat) : Word :=
  usbMidiPacket cable (status / 16) [BitVec.ofNat 8 status, BitVec.ofNat 8 d1, BitVec.ofNat 8 d2]

/-- System exclusive bytes as packets of three; the last of an ended message by its size, bytes left over of an unended one alone. -/
def usbSysex (cable : Nat) (ends : Bool) : Nat → List Byte → List Word
  | 0, _ => []
  | k + 1, b =>
    if b.isEmpty then []
    else if 3 < b.length ∨ (b.length = 3 ∧ !ends) then usbMidiPacket cable 4 (b.take 3) :: usbSysex cable ends k (b.drop 3)
    else if ends then [usbMidiPacket cable (4 + b.length) b]
    else b.map (fun x => usbMidiPacket cable 15 [x])

/-- A type 0x4 message as MIDI 1.0 packets (R344): velocity >> 9, controller and pressure >> 25, pitch bend >> 18. -/
def usbFromMidi2 (w0 w1 : Word) : Option (List Word) :=
  let g := bits w0 27 24
  let op := bits w0 23 20
  let status := fld op 4 + bits w0 19 16
  let note := bits w0 14 8
  let cc (a b : Nat) : Word := usbChannelPacket g (0xB0 + bits w0 19 16) a b
  match op with
  | 8 | 9 => some [usbChannelPacket g status note (bits w1 31 16 / 512)]
  | 10 => some [usbChannelPacket g status note (bits w1 31 25)]
  | 11 => some [usbChannelPacket g status note (bits w1 31 25)]
  | 12 =>
    let bank := if w0.getLsbD 0 then [cc 0 (bits w1 14 8), cc 32 (bits w1 6 0)] else []
    some (bank ++ [usbChannelPacket g status (bits w1 30 24) 0])
  | 13 => some [usbChannelPacket g status (bits w1 31 25) 0]
  | 14 => some [usbChannelPacket g status (bits w1 24 18) (bits w1 31 25)]
  | 2 => some [cc 101 note, cc 100 (bits w0 6 0), cc 6 (bits w1 31 25), cc 38 (bits w1 24 18)]
  | 3 => some [cc 99 note, cc 98 (bits w0 6 0), cc 6 (bits w1 31 25), cc 38 (bits w1 24 18)]
  | _ => none

/-- A UMP message as USB-MIDI 1.0 packets; none where it has no form there (R344). -/
def usbConvert (l : List Word) : Option (List Word) :=
  let w0 := l.headD 0#32
  let w1 := l.getD 1 0#32
  let g := bits w0 27 24
  match bits w0 31 28 with
  | 1 =>
    let st := bits w0 23 16
    let cin := if st = 0xF1 ∨ st = 0xF3 then 2 else if st = 0xF2 then 3 else if st < 0xF8 then 5 else 15
    some [usbMidiPacket g cin [byteOf w0 2, byteOf w0 1, byteOf w0 0]]
  | 2 => some [usbMidiPacket g (bits w0 23 20) [byteOf w0 2, byteOf w0 1, byteOf w0 0]]
  | 3 =>
    let st := bits w0 23 20
    let data := ([byteOf w0 1, byteOf w0 0, byteOf w1 3, byteOf w1 2, byteOf w1 1, byteOf w1 0]).take (bits w0 19 16)
    let starts := st == 0 || st == 1
    let ends := st == 0 || st == 3
    some (usbSysex g ends 8 ((if starts then [0xF0#8] else []) ++ data ++ (if ends then [0xF7#8] else [])))
  | 4 => usbFromMidi2 w0 w1
  | _ => none

/-- USB_IN_SEND: the next queued message, tenancy by tenancy, unchanged under alternate setting 1 and converted under 0 (R344). -/
def State.usbInSend (s : State) : State :=
  let u := s.usb
  if !u.answers || u.phase != .configured || u.haltIn then s
  else match ((List.range 8).map (fun i => (u.rr + i) % 8)).find? (fun n => !(u.tx.get n).queue.isEmpty) with
    | none => s
    | some n =>
      let m := (u.tx.get n).queue.headD []
      let s1 := s.modUsb (fun u => { u with
        rr := (n + 1) % 8,
        tx := u.tx.upd n (fun x => { x with queue := x.queue.drop 1 }) })
      if u.alt then s1.emit (.usbIn m)
      else match usbConvert m with
        | some p => s1.emit (.usbIn p)
        | none => s1.usbTxDrop n 2

/-- USB_IN_SEND. -/
def execUsbInSend (s : State) : Res := .next s.usbInSend

end Sys2Proof.Machine
end

