-- ==== Sys2Proof/Machine/Filter.lean ====
section
/-! DEFINITION. The commands of chapter 12: samples and conversions, the coarse path, triggers, sensor events and calibration. -/

namespace Sys2Proof.Machine

/-- Whether a channel's DC blocker is enabled. -/
def State.dcbOf (s : State) (c : Nat) : Bool := match s.channelRec c with
  | some r => r.dcBlock
  | none => false

/-- The preset S-DRIFT. -/
def presetDrift : Nat := 0x13

/-- Whether a channel converts: it is on while frames run, and the supply channels in PARKED too. -/
def State.fcActive (s : State) (c : Nat) : Bool :=
  (s.chan c).on && (s.dev.phase == .running || (decide (40 ≤ c) && s.dev.phase == .parked))

/-- Whether a SEN channel is triggered (R297). -/
def FcChan.triggered (ch : FcChan) : Bool := bits ch.trig 1 0 != 0

/-! ### Triggers (R297, R298) -/

/-- Whether a trigger finds the channel busy: a burst runs, or a calibration that counts as one (R298, R301). -/
def FcChan.busy (ch : FcChan) : Bool := ch.burst.isSome || ch.cal.isSome

/-- A trigger of channel c: it starts a burst, is held under PEND1, or is dropped and counted (R298). -/
def State.fcTrigger (s : State) (c : Nat) : State :=
  let ch := s.chan c
  if !s.fcActive c || !ch.triggered then s
  else if !ch.busy then s.updChan c (fun ch => { ch with burst := some { left := s.burstLength c } })
  else
    let pend := match s.channelRec c with
      | some r => r.pend1
      | none => false
    if pend && !ch.held then s.updChan c (fun ch => { ch with held := true })
    else s.updChan c (fun ch => { ch with ovlCnt := errCount ch.ovlCnt 1, status := ch.status ||| 2#5 })

/-- The SEN channels that a boundary triggers: SRC 1 and an index that is a multiple of 2^j (R297). -/
def State.frameTriggers (s : State) (idx : Nat) : State :=
  ((List.range 32).filter (fun k =>
    let t := (s.chan (8 + k)).trig
    bits t 1 0 == 1 && idx % 2 ^ bits t 4 2 == 0)).foldl (fun s k => s.fcTrigger (8 + k)) s

/-- The SEN channels of the same tenancy that an event of timer channel u.k triggers (R297, R354). -/
def State.timerTriggers (s : State) (u k : Nat) : State :=
  ((List.range 32).filter (fun i =>
    let t := (s.chan (8 + i)).trig
    bits t 1 0 == 2 && bits t 15 8 == 4 * u + k && s.fcOwner (8 + i) == s.periphOwner pcTimer u)).foldl
      (fun s i => s.fcTrigger (8 + i)) s

/-- A write of FC_TRIGc: a source, or a timer channel for source 2, that the channel may not have keeps that field's value with ES1004, a held
trigger is discarded unless the write is one of SWTRIG, and SWTRIG triggers a software-triggered channel (R297, R298). -/
def State.fcTrigReg (s : State) (c : Nat) (v : Word) : State :=
  let ch := s.chan c
  let src := bits v 1 0
  let tc := bits v 15 8
  let sen := decide (8 ≤ c) && decide (c < 40)
  let badSrc := src != 0 && (!sen || s.presetOf c == presetDrift)
  let badTimer := src == 2 && (decide (96 ≤ tc) || s.periphOwner pcTimer (tc / 4) != s.fcOwner c)
  let trig := w32 ((if badSrc then bits ch.trig 1 0 else src) + fld (bits v 4 2) 2 + fld (if badTimer then bits ch.trig 15 8 else tc) 8)
  let s1 := s.updChan c (fun ch =>
    { ch with trig := trig, held := ch.held && v.getLsbD 16 && bits trig 1 0 != 0,
              burst := if bits trig 1 0 = 0 then none else ch.burst })
  let s2 := if badSrc || badTimer then s1.regRejected (0x300008 + 0x80 * c) else s1
  if v.getLsbD 16 && bits trig 1 0 == 3 then s2.fcTrigger c else s2

/-- FC_TRIG_WRITE. -/
def execFcTrigWrite (t : Fin 8) (c : Fin 44) (v : Word) (s : State) : Res :=
  .next (s.access t (0x300008 + 0x80 * c) true (s.fcOwner c == some t.val) (fun s => s.fcTrigReg c v))

/-- SWTRIG: the same register, with its SWTRIG bit. -/
def execSwtrig (t : Fin 8) (c : Fin 44) (v : Word) (s : State) : Res :=
  .next (s.access t (0x300008 + 0x80 * c) true (s.fcOwner c == some t.val) (fun s => s.fcTrigReg c v))

/-! ### Samples and conversions (R284 to R293) -/

/-- AIN_SAMPLE: one decimated sample (R285), and one sample of the steps of a calibration (Table 6). -/
def State.ainSample (s : State) (c : Nat) (raw : BitVec 32) : State :=
  let s1 := s.updChan c (fun ch => (ainSampleStep s.fs (s.dcbOf c) ch raw).calTick)
  if (s.chan c).cal.isSome && (s1.chan c).cal.isNone then s1.spareBack c else s1

/-- AIN_SAMPLE. -/
def execAinSample (c : Fin 8) (raw : BitVec 32) (s : State) : Res := .next (if s.fcActive c then s.ainSample c raw else s)

/-- The least coarse magnitude that is 0.98 of full scale, and full scale (R293, R294). -/
def coarseOverload (full : Nat) : Nat := ceilDiv (98 * full) 100

/-- A coarse sample's overload: OVERLOAD set, and the DC estimate frozen (R294, R305). -/
def FcChan.overload (ch : FcChan) (overrun : Bool) : FcChan :=
  if overrun then { ch with status := ch.status ||| 1#5, ovlFreeze := true } else ch

/-- Whether a calibration's measurement runs: it has come to it, and its operation holds its permit. -/
def State.calRuns (s : State) (k : ChanCal) : Bool :=
  k.step == .measure && match k.handle with
    | none => true
    | some h => match s.findOp h with
      | some o => o.done.isNone && o.permit == .granted
      | none => false

/-- AIN_COARSE_SAMPLE: the coarse value, overload, the run at full scale, and the disturbance of a calibration's measurement (R293, R299, R305). -/
def State.ainCoarse (s : State) (c : Nat) (code : BitVec 12) : State :=
  if !s.fcActive c then s
  else
    let x := (signed 12 code.toNat).natAbs
    let full := decide (2047 ≤ x)
    s.updChan c (fun ch =>
      let ch1 := ({ ch with coarse := code, fullRun := if full then ch.fullRun + 1 else 0 }).overload (decide (coarseOverload 2048 ≤ x))
      { ch1 with cal := ch1.cal.map (fun k =>
          if s.calRuns k && gLt ch.calCoup (gRatio x 2048) then { k with disturbed := true } else k) })

/-- AIN_COARSE_SAMPLE. -/
def execAinCoarseSample (c : Fin 8) (code : BitVec 12) (s : State) : Res := .next (s.ainCoarse c code)

/-- MOD_RESET: after 64 coarse samples at full scale the modulator is reset and the output holds for up to 32 samples (R305). -/
def execModReset (c : Fin 8) (s : State) : Res :=
  .next (if s.fcActive c && decide (64 ≤ (s.chan c).fullRun) then
    s.updChan c (fun ch => { ch with fullRun := 0, modHold := 32, status := ch.status ||| 16#5 })
  else s)

/-- DC_FREEZE_EXPIRE: 100 ms after the last overload sample (R294). -/
def execDcFreezeExpire (c : Fin 44) (s : State) : Res := .next (s.updChan c (fun ch => { ch with ovlFreeze := false }))

/-- The fine path of a continuous SEN or SUP channel on a 16-bit code (R288). -/
def State.finePath (s : State) (c code : Nat) (ch : FcChan) : FcChan :=
  let preset := s.presetOf c
  let first := ch.history.isEmpty
  let a := movingAverage (presetM preset) ch code
  let b := if preset = presetDrift then driftLowPass a.1 first a.2 else a
  fineValue c (fcRate c preset s.fs false) (s.dcbOf c) false b.1 b.2

/-- One conversion of a triggered channel: the moving average takes the code (R289), and a burst's last conversion delivers the fine value
of its window, the burst's codes alone (R297). A held trigger waits for a calibration too, which counts as a burst throughout (R301). -/
def State.burstStep (s : State) (c code : Nat) (ch : FcChan) : FcChan :=
  let a := movingAverage (presetM (s.presetOf c)) ch code
  match ch.burst with
  | none => a.1
  | some b =>
    if 1 < b.left then { a.1 with burst := some { left := b.left - 1 } }
    else
      let done := { fineValue c (fcRate c (s.presetOf c) s.fs true) false true a.1 a.2 with burst := none }
      if done.cal.isSome then done else done.release (s.burstLength c)

/-- A conversion that a SEN calibration measures (R301): it joins the first 256. -/
def State.calGather (s : State) (code : Nat) (ch : FcChan) : FcChan :=
  { ch with cal := ch.cal.map (fun k => if s.calRuns k && decide (k.codes.length < 256) then { k with codes := code :: k.codes } else k) }

/-- SEN_CONVERSION: a slot of a channel that is on and not idle (R284, R288, R293). -/
def State.senConvert (s : State) (c : Nat) (code : BitVec 16) : State :=
  let ch := s.chan c
  if !s.fcActive c || (ch.triggered && !ch.busy) then s
  else
    let x := code.toNat
    s.updChan c (fun ch =>
      let ch1 := (s.calGather x { ch with coarse := BitVec.ofNat 12 (x / 16) }).overload (decide (coarseOverload 4096 ≤ x / 16))
      if ch1.triggered then s.burstStep c x ch1 else s.finePath c x ch1)

/-- SEN_CONVERSION. -/
def execSenConversion (c : Fin 32) (code : BitVec 16) (s : State) : Res := .next (s.senConvert (8 + c) code)

/-- SUP_CONVERSION: the 12-bit code, multiplied by 16 into the fine path; the supply watch's window and DIP detector take what it
gives (R288, R389). -/
def State.supConvert (s : State) (i : Nat) (code : BitVec 16) : State :=
  let c := 40 + i
  if !s.fcActive c then s
  else
    let x := code.toNat % 4096
    let s1 := s.updChan c (fun ch =>
      s.finePath c (16 * x) (({ ch with coarse := BitVec.ofNat 12 x }).overload (decide (coarseOverload 4096 ≤ x))))
    (s1.supFine i (s1.chan c).fine).dipSample i x

/-- SUP_CONVERSION. -/
def execSupConversion (c : Fin 4) (code : BitVec 16) (s : State) : Res := .next (s.supConvert c code)

/-- FC_PHASEc: a new phase delay of an AIN channel, through the ramp of R286; on other channels a reserved encoding. -/
def State.fcPhase (s : State) (c : Nat) (v : Word) : State :=
  if 8 ≤ c then s.regRejected (0x300018 + 0x80 * c)
  else s.updChan c (fun ch =>
    let p := BitVec.ofNat 7 (bits v 6 0)
    if !ch.on then { ch with phase := p, delay := p }
    else match ch.ramp with
      | .down left => { ch with phase := p, ramp := .down left }
      | .wait _ => { ch with phase := p, delay := p, ramp := .wait 64 }
      | _ => { ch with phase := p, ramp := .down 32 })

/-- FC_PHASE_WRITE. -/
def execFcPhaseWrite (t : Fin 8) (c : Fin 44) (v : Word) (s : State) : Res :=
  .next (s.access t (0x300018 + 0x80 * c) true (s.fcOwner c == some t.val) (fun s => s.fcPhase c v))

/-- FC_CTRLc: FREEZE (R294). -/
def State.fcCtrl (s : State) (c : Nat) (v : Word) : State := s.updChan c (fun ch => { ch with freeze := v.getLsbD 0 })

/-- FC_FREEZE_WRITE. -/
def execFcFreezeWrite (t : Fin 8) (c : Fin 44) (v : Word) (s : State) : Res :=
  .next (s.access t (0x300004 + 0x80 * c) true (s.fcOwner c == some t.val) (fun s => s.fcCtrl c v))

/-! ### The frame boundary (R291, R296) -/

/-- FC_VALUEc latched: an AIN sample, a SEN n or a SUP fine value (R306). -/
def State.fcLatch (s : State) : State :=
  s.modFilter (fun x => { x with chans := x.chans.mapi (fun c ch =>
    { ch with value := if c < 8 then ch.out else if c < 40 then ch.norm else ch.fine }) })

/-- The control change of a sensor event (R296). -/
def sensorMsg (evt : Word) (n : F32) : Msg :=
  let q := gFraction n
  let data := (2 * q.1 * 4294967295 + q.2) / (2 * q.2)
  .ump (w32 (fld 4 28 + fld 11 20 + fld (bits evt 7 4) 16 + fld (bits evt 14 8) 8)) (w32 (min 4294967295 data))

/-- Whether a SEN channel sends at this boundary, and the channel after it (R296). -/
def sensorStep (ch : FcChan) : Bool × FcChan :=
  let n := ch.value
  if !ch.evt.getLsbD 0 then (false, ch)
  else if !ch.evt.getLsbD 1 then
    if gLe ch.evtLev (fAbs (gSub n ch.lastSent)) then (true, { ch with lastSent := n }) else (false, ch)
  else if ch.evArmed && gLe ch.evtLev n then (true, { ch with evArmed := false, lastSent := n })
  else if !ch.evArmed && gLe n (gSub ch.evtLev ch.evtHys) then (true, { ch with evArmed := true, lastSent := n })
  else (false, ch)

/-- SENSOR_EVENT at the boundary: each enabled SEN channel in ascending number, skipped while the ingress queue is full (R296). -/
def State.sensorEvents (s : State) : State :=
  (List.range 32).foldl (fun s k =>
    let c := 8 + k
    let ch := s.chan c
    if !ch.on || !ch.evt.getLsbD 0 || decide (ingressMax ≤ s.front.sensors.length) then s
    else
      let r := sensorStep ch
      let s1 := s.modFilter (fun x => { x with chans := x.chans.put c r.2 })
      if r.1 then s1.modFront (fun f => { f with sensors := f.sensors ++
        [{ msg := sensorMsg ch.evt ch.value, playAt := 0#64, value := some ch.value, mirror := none, ten := (s.fcOwner c).getD 0 }] })
      else s1) s

/-! ### Calibration (R299 to R304, R321) -/

/-- Whether the class, channel and kind are among those that can be calibrated, and the channel is on (R302, R321). -/
def State.calOk (s : State) (cls ch kind : Nat) : Bool :=
  match cls with
  | 0 => decide (ch < 8) && kind == 0 && (s.chan ch).on
  | 1 => decide (ch < 32) && (kind == 1 || kind == 2) && (s.chan (8 + ch)).on
  | 2 => decide (ch < 16) && (kind == 0 || kind == 2)
  | 3 => decide (ch < 16) && kind == 0
  | _ => false

/-- The owner of the channel a CALIBRATE names. -/
def State.calOwner (s : State) (cls ch : Nat) : Option Nat :=
  match cls with
  | 0 => s.fcOwner ch
  | 1 => s.fcOwner (8 + ch)
  | 2 => s.periphOwner pcLgc (ch / 8)
  | _ => s.periphOwner pcLga (ch / 4)

/-- Whether two CALIBRATEs use the same channel, or the same load group's converter (R302, R321). -/
def calClash (a b : Nat × Nat × Nat) : Bool :=
  a.1 == b.1 && (match a.1 with
    | 0 => a.2.1 == b.2.1
    | 1 => a.2.1 == b.2.1
    | 2 => a.2.1 / 8 == b.2.1 / 8
    | _ => a.2.1 / 4 == b.2.1 / 4)

/-- The offset and gain, or zero and span, that a CALIBRATE reports (R299, R321). -/
def State.calResults (s : State) (cls ch : Nat) : List Word :=
  match cls with
  | 0 => [(s.chan ch).coef0, (s.chan ch).coef1]
  | 1 => [(s.chan (8 + ch)).coef0, (s.chan (8 + ch)).coef1]
  | 2 => [(s.spout.cvs.get ch).offset, (s.spout.cvs.get ch).gain]
  | _ => [(s.spout.aouts.get ch).offset, (s.spout.aouts.get ch).calGain]

/-- CALIBRATE submitted: checked, then it asks for its permit (R302). -/
def State.subCalibrate (s : State) (n : Nat) (args : Bank Word 8) (via : SubmitVia) : State :=
  let a := calArgs args
  let busy := s.ops.any (fun o => o.code == .calibrate && o.done.isNone && calClash (calArgs o.args) a) || (a.1 == 0 && s.calHold)
  s.submit n .calibrate args 5 via (fun h s =>
    if !s.calOk a.1 a.2.1 a.2.2 then s.finishOp h csBadArg []
    else if s.calOwner a.1 a.2.1 != some n then s.finishOp h csNotOwned []
    else if busy then s.finishOp h csBusy []
    else if a.1 = 0 && s.filter.spareFault then s.finishOp h csDisturbed (s.calResults a.1 a.2.1)
    else s.requestPermit h)

/-- CALIBRATE. -/
def execCalibrate (t : Fin 8) (s : State) : Res := .next (s.qpWrite t State.subCalibrate)

/-- A granted CALIBRATE begins, or begins its measurement again (R302). -/
def State.startCal (s : State) (o : LongOp) : State :=
  let a := calArgs o.args
  match a.1 with
  | 0 => s.startAinCal o
  | 1 =>
    let k : ChanCal := { handle := some o.handle, kind := a.2.2, tries := 1, disturbed := false, codes := [], step := .measure }
    s.updChan (8 + a.2.1) (fun ch => { ch with cal := some k })
  | 2 => s.modSpout (fun p => { p with
      lgc := p.lgc.upd (a.2.1 / 8) (fun g => { g with cal := some (o.handle, a.2.1), calAge := 0 }),
      cvs := p.cvs.upd a.2.1 (fun c => { c with out := 2048#18 }) })
  | _ => s.modSpout (fun p => { p with lga := p.lga.upd (a.2.1 / 4) (fun g => { g with cal := some (o.handle, a.2.1) }) })

/-- A skipped drift step (R300, R305). -/
def State.driftSkipped (s : State) (c : Nat) : State :=
  s.updChan c (fun ch => { ch with driftSkip := errCount ch.driftSkip 1, status := ch.status ||| 8#5 })

/-- AIN_CAL_MEASURE_END: the offset is written, or a disturbed attempt runs again, up to 3 retries (R299, R300); the channel then goes back to
its own modulator (C7). -/
def State.ainCalEnd (s : State) (c : Nat) (mean : BitVec 32) : State :=
  let leave (s : State) : State := s.updChan c (fun ch => ch.calLeave s.fs)
  match (s.chan c).cal with
  | none => s
  | some k =>
    if !s.calRuns k then s
    else if k.disturbed then
      match k.handle with
      | none => leave (s.driftSkipped c)
      | some h =>
        if k.tries < 4 then
          s.updChan c (fun ch => { ch with cal := some { k with tries := k.tries + 1, disturbed := false } })
        else (leave s).finishOp h csDisturbed (s.calResults 0 c)
    else
      let s1 := leave (s.updChan c (fun ch => { ch with coef0 := mean }))
      match k.handle with
      | none => s1
      | some h => (s1.updOp h (fun o => { o with committed := true })).finishOp h csDone (s1.calResults 0 c)

/-- AIN_CAL_MEASURE_END. -/
def execAinCalMeasureEnd (c : Fin 8) (mean : BitVec 32) (s : State) : Res := .next (s.ainCalEnd c mean)

/-- SEN_CAL_MEASURE_END: the mean of 256 codes becomes the zero or span where it is plausible (R301). -/
def State.senCalEnd (s : State) (i : Nat) : State :=
  let c := 8 + i
  let ch := s.chan c
  match ch.cal with
  | none => s
  | some k =>
    if !s.calRuns k || k.codes.length != 256 then s
    else
      let sum := k.codes.sum
      let sq := (k.codes.map (fun x => x * x)).sum
      let m := gRatio (sum : Nat) 256
      let noise := ch.calNoise.toNat * 256
      let win := if k.kind = 1 then ch.zWin else ch.sWin
      let other := if k.kind = 1 then ch.coef1 else ch.coef0
      let bad := decide (noise * noise < 256 * sq - sum * sum) || decide (sum < 256 * bits win 15 0) ||
        decide (256 * bits win 31 16 < sum) || gLt (fAbs (gSub m other)) (gOfInt 1024)
      let s1 := s.updChan c (fun ch =>
        ({ ch with cal := none, coef0 := if !bad && k.kind = 1 then m else ch.coef0,
                   coef1 := if !bad && k.kind = 2 then m else ch.coef1 }).release (s.burstLength c))
      match k.handle with
      | none => s1
      | some h =>
        if bad then s1.finishOp h csImplausible (s1.calResults 1 i)
        else (s1.updOp h (fun o => { o with committed := true })).finishOp h csDone (s1.calResults 1 i)

/-- SEN_CAL_MEASURE_END. -/
def execSenCalMeasureEnd (c : Fin 32) (s : State) : Res := .next (s.senCalEnd c)

/-- An output calibration over: its group is free, with CAL_DONE set (R327). -/
def State.endOutCal (s : State) (cls ch : Nat) : State :=
  if cls = 2 then
    (s.modSpout (fun p => { p with lgc := p.lgc.upd (ch / 8) (fun g => { g with cal := none, status := g.status ||| 8#4 }) })).settle
      (836 + ch / 8)
  else
    (s.modSpout (fun p => { p with lga := p.lga.upd (ch / 4) (fun g => { g with cal := none, status := g.status ||| 2#2 }) })).settle
      (832 + ch / 4)

/-- Whether the measurement of an output calibration can end (Table 4 of chapter 13): an audio DAC's signal has ramped to 0, a CV gain's high code
is driven. -/
def State.outCalReady (s : State) (a : Nat × Nat × Nat) : Bool :=
  if a.1 = 3 then (s.spout.aouts.get a.2.1).mute == 64
  else a.2.2 == 0 || (s.spout.cvs.get a.2.1).out == 260096#18

/-- OUTPUT_CAL_MEASURE_END: the coefficient is written, or the operation fails, an AOUT channel after 3 retries (R321). -/
def State.outCalEnd (s : State) (h : Word) (r : OutputCal) : State :=
  match s.findOp h with
  | none => s
  | some o =>
    let a := calArgs o.args
    if o.code != .calibrate || a.1 < 2 || o.done.isSome || o.permit != .granted || !s.outCalReady a then s
    else if a.1 = 3 then
      if r.disturbed then
        if o.retries < 3 then s.updOp h (fun o => { o with retries := o.retries + 1 })
        else (s.endOutCal 3 a.2.1).finishOp h csDisturbed (s.calResults 3 a.2.1)
      else
        let s1 := (s.modSpout (fun p => { p with aouts := p.aouts.upd a.2.1 (fun x => { x with offset := r.value }) })).endOutCal 3 a.2.1
        (s1.updOp h (fun o => { o with committed := true })).finishOp h csDone (s1.calResults 3 a.2.1)
    else if r.loaded then (s.endOutCal 2 a.2.1).finishOp h csLoaded (s.calResults 2 a.2.1)
    else
      let s1 := (s.modSpout (fun p => { p with cvs := p.cvs.upd a.2.1 (fun x =>
        if a.2.2 = 0 then { x with offset := gSub (gOfInt 2048) r.value } else { x with gain := gDiv (gOfInt 258048) r.value }) })).endOutCal
          2 a.2.1
      (s1.updOp h (fun o => { o with committed := true })).finishOp h csDone (s1.calResults 2 a.2.1)

/-- OUTPUT_CAL_MEASURE_END. -/
def execOutputCalMeasureEnd (handle : Word) (o : OutputCal) (s : State) : Res := .next (s.outCalEnd handle o)

/-- The AIN channel that the next drift step serves: the next one on, in ascending order with wrap (R300). -/
def State.driftNext (s : State) : Option Nat :=
  ((List.range 8).map (fun i => (s.filter.driftLast + 1 + i) % 8)).find? (fun c => (s.chan c).on)

/-- DRIFT_STEP: a spare that carries no channel has measured its own offset, and takes the next AIN channel; a faulty one skips and counts.
Drift steps wait for a CALIBRATE, and stand still with FC_DRIFTPER 0 and while the supply level is not 0 (R299, R300, R305, R391). -/
def State.driftBegin (s : State) (spareOffset : BitVec 32) : State :=
  if s.dev.phase != .running || !s.spareFree then s
  else
    let fault := s.filter.spareFault || gLt (gRatio 1 100) (fAbs spareOffset)
    let s1 := s.modFilter (fun f => { f with spareFault := fault })
    if s.filter.driftPer == 0#16 || s.supply.level != 0 then s1
    else match s.driftNext with
      | none => s1
      | some c =>
        let s2 := s1.modFilter (fun f => { f with driftLast := c })
        if fault then s2.driftSkipped c
        else (s2.modFilter (fun f => { f with drift := some c })).lend c none

/-- DRIFT_STEP. -/
def execDriftStep (spareOffset : BitVec 32) (s : State) : Res := .next (s.driftBegin spareOffset)

end Sys2Proof.Machine
end

