-- ==== Sys2Proof/Machine/Submit.lean ====
section
/-! DEFINITION. The long operations that start in other units, TRUFFLE_JOB, CHECKPOINT, PAIR_SYNC and SPAWN_TENANCY, and the
submission of any long operation by its opcode (Table 12 of chapter 05). -/

namespace Sys2Proof.Machine

/-! ### SPAWN_TENANCY (R52) -/

/-- A respawn as it enters WAIT_PERMIT. -/
def Respawn.begin (h : Word) : Respawn :=
  { handle := h, phase := .waitPermit, validated := false, quiesced := false, fadeLeft := 0, faded := false, written := false,
    cfg := TenancyCfg.default, sections := [], words := [], reserve := 0 }

/-- SPAWN_TENANCY submitted (R52, R125): only the steward or the target may issue it, and the image lies wholly inside cisterns of
the issuer. DESIGN CHOICE: the steward's naming a tenancy that the mask does not have is BAD_ARG; the manual gives it no status (log entry
107). -/
def State.subSpawnTenancy (s : State) (n : Nat) (args : Bank Word 8) (via : SubmitVia) : State :=
  let target := (args.get 0).toNat
  s.submit n .spawnTenancy args 40 via (fun h s =>
    if n ≠ 0 ∧ n ≠ target then s.finishOp h (csSpawn 0x11) []
    else if 8 ≤ target ∨ !s.present target then s.finishOp h csBadArg []
    else if !s.ownsRange n (args.get 1).toNat (args.get 2).toNat then s.finishOp h (csSpawn 0x11) []
    else (s.modTen (fun b => b.upd target (fun x => { x with respawn := some (Respawn.begin h) }))).requestPermit h)

/-- SPAWN_TENANCY. -/
def execSpawnTenancy (t : Fin 8) (s : State) : Res := .next (s.qpWrite t State.subSpawnTenancy)

/-! ### TRUFFLE_JOB (R232) -/

/-- The engine of a job. -/
def jobEngine (args : Bank Word 8) : Nat := bits (args.get 0) 1 0

/-- The oldest job of engine e in flight. -/
def State.jobHead (s : State) (e : Nat) : Option LongOp :=
  s.ops.find? (fun o => o.code == .truffleJob && jobEngine o.args == e)

/-- The job at the head of an engine's queue asks for its permit (R232). -/
def State.jobKick (s : State) (e : Nat) : State :=
  match s.jobHead e with
  | some o => if o.permit == .notNeeded && !o.started && o.done.isNone then s.requestPermit o.handle else s
  | none => s

/-- TRUFFLE_JOB submitted: the engine must be the tenancy's, the width code at most 2 and the entry a sequencer address. -/
def State.subTruffleJob (s : State) (n : Nat) (args : Bank Word 8) (via : SubmitVia) : State :=
  let w := bits (args.get 0) 9 8
  s.submit n .truffleJob args (30 * 2 ^ w) via (fun h s =>
    if 2 < w ∨ 4096 ≤ (args.get 1).toNat then s.finishOp h csBadArg []
    else if s.engineOwner (jobEngine args) != some n then s.finishOp h csNotOwned []
    else s.jobKick (jobEngine args))

/-- TRUFFLE_JOB. -/
def execTruffleJob (t : Fin 8) (s : State) : Res := .next (s.qpWrite t State.subTruffleJob)

/-! ### CHECKPOINT -/

/-- CHECKPOINT submitted: it writes at the next frame boundary, its commit point. -/
def State.subCheckpoint (s : State) (n : Nat) (args : Bank Word 8) (via : SubmitVia) : State :=
  s.submit n .checkpoint args 0 via (fun h s =>
    if s.ownsRange n (args.get 0).toNat (args.get 1).toNat then s else s.finishOp h csNotOwned [])

/-- CHECKPOINT. -/
def execCheckpoint (t : Fin 8) (s : State) : Res := .next (s.qpWrite t State.subCheckpoint)

/-- The bytes of one checkpoint: how many and which the manual does not state, so both are free (DESIGN CHOICE, log entry 16). -/
def checkpointBytes (free room : Nat) : List Byte :=
  (List.range ((Config.freeWord free).toNat % (room + 1))).map (fun i => (Config.freeWord (free + 1 + i)).setWidth 8)

/-- One checkpoint captured at the boundary of frame F: results 0 bytes written, 1 and 2 the frame index. -/
def State.captureOne (s : State) (o : LongOp) : State :=
  let bs := checkpointBytes s.free (o.args.get 1).toNat
  let s1 := (s.modFree (fun k => k + 1 + bs.length)).updOp o.handle (fun x => { x with committed := true })
  (s1.cisWrite (o.args.get 0).toNat bs).finishOp o.handle csDone [w32 bs.length, lo32 s.time.frameIdx, hi32 s.time.frameIdx]

/-- The checkpoints waiting for a capture boundary, captured in order of submission: one whose cisterns a handover holds waits for a later
boundary, and one that has lost them completes NOT_OWNED with nothing written (R94, R259). -/
def State.capture (s : State) : State :=
  (s.ops.filter (fun o => o.code == .checkpoint && o.done.isNone)).foldl (fun s o =>
    let x := (o.args.get 0).toNat
    let n := (o.args.get 1).toNat
    if (cisOf x n).any s.cisHolds then s
    else if s.ownsRange o.ten x n then s.captureOne o
    else s.finishOp o.handle csNotOwned []) s

/-! ### PAIR_SYNC (R410) -/

/-- Whether the partner is known to run the same configuration (R398). -/
def State.digestsAgree (s : State) : Bool := s.pair.pdigestKnown && s.pair.pdigest == s.pairCfg.digest

/-- PAIR_SYNC submitted: refused on the follower, while the link is down and while the digests differ. -/
def State.subPairSync (s : State) (n : Nat) (args : Bank Word 8) (via : SubmitVia) : State :=
  s.submit n .pairSync args 8 via (fun h s =>
    if s.pair.forwarder && s.pair.link && s.digestsAgree then s.requestPermit h else s.finishOp h csBadArg [])

/-- PAIR_SYNC. -/
def execPairSync (t : Fin 8) (s : State) : Res := .next (s.qpWrite t State.subPairSync)

/-! ### By opcode -/

/-- A submission of an opcode: a reserved one is refused, BAD_OPCODE unless the tenancy is unspawned (R96, R121). -/
def State.submitCode (s : State) (n op : Nat) (args : Bank Word 8) (via : SubmitVia) : State :=
  match LongCode.ofOpcode op with
  | none => s.refuse n (s.qpAnswer n op (args.get 0)) via
  | some .spawnTenancy => s.subSpawnTenancy n args via
  | some .cisternHandover => s.subHandover n args via
  | some .cisternWipe => s.subWipe n args via
  | some .pumpBulk => s.subPumpBulk n args via
  | some .sampleLoad => s.subSampleLoad n args via
  | some .calibrate => s.subCalibrate n args via
  | some .aquiferTrain => s.subTrain n args via
  | some .truffleJob => s.subTruffleJob n args via
  | some .sealKeyInstall => s.subSealKey n args via
  | some .checkpoint => s.subCheckpoint n args via
  | some .pairSync => s.subPairSync n args via
  | some .powerPark => s.subPowerPark n args via

end Sys2Proof.Machine
end

