-- ==== Sys2Proof/Machine/Sequencer.lean ====
section
/-! DEFINITION. The contexts of a Truffle engine: its registers, lanes and modes (R210, R211, R217 to R219), its memory (R221), its
traps (R223 to R225) and the issue of one instruction. The instructions stand in Scalar.lean and Vector.lean. -/

namespace Sys2Proof.Machine

/-! ### Registers (R210, R219) -/

/-- The window that register numbers name: the trap window in a trap, otherwise the current one. -/
def Ctx.win (c : Ctx) : Win := if c.inTrap then c.trapWin else c.wins.headD Win.zero

/-- The exchange registers of that window. -/
def Ctx.exchange (c : Ctx) : Bank Word 8 := if c.inTrap then c.trapX else c.x

/-- The context with that window changed. -/
def Ctx.setWin (c : Ctx) (w : Win) : Ctx := if c.inTrap then { c with trapWin := w } else { c with wins := w :: c.wins.drop 1 }

/-- Sequencer register r: Y0 to Y7, P0 to P7, Q0 to Q6, LK, X0 to X7. -/
def Ctx.reg (c : Ctx) (r : Nat) : Word :=
  if r < 8 then c.y.get r
  else if r < 16 then c.win.p.get (r - 8)
  else if r < 23 then c.win.q.get (r - 16)
  else if r = 23 then c.win.lk
  else c.exchange.get (r - 24)

/-- Sequencer register r written. -/
def Ctx.setReg (c : Ctx) (r : Nat) (v : Word) : Ctx :=
  if r < 8 then { c with y := c.y.put r v }
  else if r < 16 then c.setWin { c.win with p := c.win.p.put (r - 8) v }
  else if r < 23 then c.setWin { c.win with q := c.win.q.put (r - 16) v }
  else if r = 23 then c.setWin { c.win with lk := v }
  else if c.inTrap then { c with trapX := c.trapX.put (r - 24) v }
  else { c with x := c.x.put (r - 24) v }

/-- The context at another code address. -/
def Ctx.goto (c : Ctx) (pc : Nat) : Ctx := { c with pc := pc }

/-- The context n words on. -/
def Ctx.skip (c : Ctx) (n : Nat) : Ctx := c.goto ((c.pc + n) % 4294967296)

/-! ### Lanes and modes (R211, R217, R218) -/

/-- The rounding and subnormal modes of CTRL. -/
def Ctx.mode (c : Ctx) : FMode := { rz := c.ctrl.getLsbD 0, ftz := c.ctrl.getLsbD 1 }

/-- Whether lane i is active under mask field km (R211). -/
def Ctx.active (c : Ctx) (km : BitVec 3) (i : Nat) : Bool :=
  decide (i < c.width) && (km == 0#3 || (c.k.get km.toNat).getLsbD i)

/-- The active lanes in ascending number. -/
def Ctx.lanesOf (c : Ctx) (km : BitVec 3) : List Nat := (List.range 32).filter (fun i => c.active km i)

/-- A word whose bit i is p i. -/
def maskOf (p : Nat → Bool) : Word := w32 (((List.range 32).filter p).map (fun i => 2 ^ i)).sum

/-- The OR of the flags of the lanes for which p holds. -/
def orFlags (p : Nat → Bool) (f : Nat → FFlags) : FFlags :=
  ((List.range 32).filter p).foldl (fun acc i => acc ||| f i) 0#6

/-- The flags of an instruction ORed into STICKY (R217). -/
def Ctx.raise (c : Ctx) (f : FFlags) : Ctx := { c with sticky := c.sticky ||| f }

/-! ### The running context (R209) -/

/-- The running context of an engine. -/
def Engine.ctx (x : Engine) : Ctx := if x.run == .job then x.job else x.frame

/-- The running context replaced. -/
def Engine.setCtx (x : Engine) (c : Ctx) : Engine := if x.run == .job then { x with job := c } else { x with frame := c }

/-- Engine e. -/
def State.engine (s : State) (e : Nat) : Engine := s.engines.get e

/-- Engine e changed. -/
def State.updEngine (s : State) (e : Nat) (f : Engine → Engine) : State := s.modEngines (fun b => b.upd e f)

/-- A bit of TRF_STATUSe set, with its source (R238). -/
def State.engineFlag (s : State) (e b : Nat) : State :=
  (s.updEngine e (fun x => { x with status := x.status ||| BitVec.ofNat 4 (2 ^ b) })).settle (848 + 4 * e + b)

/-- The running context of engine e replaced. -/
def State.setCtx (s : State) (e : Nat) (c : Ctx) : State := s.updEngine e (fun x => x.setCtx c)

/-! ### Jobs (R232) -/

/-- The job at the head of engine e's queue starts, or goes on: it runs unless the frame context does. -/
def Engine.startJob (x : Engine) (o : LongOp) : Engine :=
  let top := x.job.wins.headD Win.zero
  let fresh : Ctx :=
    { x.job with
      wins := [{ top with p := top.p.put 0 (o.args.get 2) }], spilled := 0, inTrap := false, pc := (o.args.get 1).toNat,
      width := 8 * 2 ^ bits (o.args.get 0) 9 8, ctrl := 0#2, sticky := 0#6, fte := 0#6, tba := 0#12, aqw := 0#3 }
  { x with job := if o.started then x.job else fresh, jobHandle := some o.handle, jobPaused := false,
           run := if x.run == .frame then .frame else .job }

/-- Engine e takes up the job that holds its permit, unless it is halted. -/
def State.jobResume (s : State) (e : Nat) : State :=
  match s.jobHead e with
  | some o =>
    if o.permit == .granted && o.done.isNone && !(s.engine e).halted then
      (s.updEngine e (fun x => x.startJob o)).updOp o.handle (fun o => { o with started := true })
    else s
  | none => s

/-- The frame context is over for now: the job context runs on, where a job may. -/
def State.frameDone (s : State) (e : Nat) : State :=
  (s.updEngine e (fun x => { x with run := .idle, queue := [] })).jobResume e

/-- The running job ends with a completion (R232). -/
def State.jobEnd (s : State) (e : Nat) (status : BitVec 16) (res : List Word) : State :=
  match (s.engine e).jobHandle with
  | none => s
  | some h =>
    (s.updEngine e (fun x => { x with jobHandle := none, jobPaused := false, run := if x.run == .job then .idle else x.run })).finishOp
      h status res

/-! ### Traps (R223 to R225) -/

/-- The positions that an engine's chain uses, ascending. -/
def positionsOf (recs : List ChainRec) : List Nat := (List.range 64).filter (fun p => recs.any (fun r => r.position == p))

/-- The chain records of engine e, in record order (R228). -/
def State.chainOf (s : State) (e : Nat) : List ChainRec :=
  match s.engineOwner e with
  | none => []
  | some n => (s.tcfg n).spore.chain.filter (fun r => r.engine == e)

/-- The bits of a list of positions. -/
def positionBits (l : List Nat) : BitVec 64 := BitVec.ofNat 64 ((l.map (fun p => 2 ^ p)).foldl (· ||| ·) 0)

/-- A trap refused in the trap window: the engine halts (R225). -/
def State.doubleTrap (s : State) (e handled refused pc : Nat) : State :=
  let job := (s.engine e).run == .job
  let all := positionBits (positionsOf (s.chainOf e))
  let log := w32 (fld (handled % 16) 0 + fld refused 4 + flag job 8 + fld (pc % 4096) 16 + flag true 31)
  let s1 := s.updEngine e (fun x =>
    { x with halted := true, run := .idle, queue := [], trapLog := log, bypTarget := x.bypTarget ||| all, overrun := x.overrun ||| all })
  (s1.jobEnd e csJobTrap []).engineFlag e 1

/-- MEM_FAULT and MEM_ECC: TRF_STATUS.MEM and the address (R237). -/
def State.memTrap (s : State) (e cause : Nat) (detail : Word) : State :=
  if cause = 4 ∨ cause = 5 then (s.updEngine e (fun x => { x with memLog := detail })).engineFlag e 2 else s

/-- The entry into the trap window (R224). -/
def Ctx.enterTrap (c : Ctx) (cause : Nat) (detail : Word) (lk : Nat) : Ctx :=
  { c with
    inTrap := true, tcause := cause,
    trapWin := { c.trapWin with p := (c.trapWin.p.put 0 (w32 cause)).put 1 detail, lk := w32 lk },
    pc := c.tba.toNat + 4 * cause }

/-- A trap of engine e with context c, raised by the instruction at pc (R223, R225). -/
def State.trapTake (s : State) (e : Nat) (c : Ctx) (pc cause : Nat) (detail : Word) : State :=
  let s1 := s.memTrap e cause detail
  if c.inTrap then (s1.setCtx e c).doubleTrap e c.tcause cause pc
  else s1.setCtx e (c.enterTrap cause detail pc)

/-! ### Memory (R221) -/

/-- The place of an address that engine e produces with aquifer window aqw; none raises MEM_FAULT. -/
def State.enginePlace (s : State) (e aqw addr : Nat) : Option Phys :=
  match s.engineOwner e with
  | none => none
  | some n =>
    if addr % 4 ≠ 0 then none
    else if addr < cisSpace then (if s.cisOwner (addr / cisBytes) == some n then some (.cis addr) else none)
    else if 0x40000000 ≤ addr ∧ addr < 0x80000000 then
      let o := aqw * 0x40000000 + (addr - 0x40000000)
      let part := s.partition n
      if o < part.2 then some (.aq (part.1 + o)) else none
    else none

/-- The places of several addresses: all of them, the first that faults, or a wait for a cistern in a handover (R259). -/
inductive EnginePlaces where
  | all (l : List Phys)
  | fault (addr : Nat)
  | wait
deriving DecidableEq, Repr, Inhabited

/-- The places of the addresses of an instruction. -/
def State.enginePlaces (s : State) (e aqw : Nat) (addrs : List Nat) : EnginePlaces :=
  match addrs.find? (fun a => (s.enginePlace e aqw a).isNone) with
  | some a => .fault a
  | none =>
    let l := addrs.filterMap (s.enginePlace e aqw)
    if l.any s.physHeld then .wait else .all l

/-- A word of an L1 line as its holder or the memory has it. -/
def MemState.lineWord (m : MemState) (a : Nat) : Word :=
  let b := (m.lineData (a / 64)).drop (a % 64)
  wordOf (b.getD 0 0#8) (b.getD 1 0#8) (b.getD 2 0#8) (b.getD 3 0#8)

/-- A load of one word by engine e: its value, or none on an uncorrectable error (R279, R237). An aquifer line is fetched into L1 first
(R271). -/
def State.engineLoad (s : State) (e : Nat) (p : Phys) : State × Option Word :=
  match p with
  | .cis x =>
    let r := s.physRead p 4
    (r.1, if r.2.2 = .uncorrectable then none else some (s.mem.cis.word x))
  | .aq a =>
    if s.mem.holds e (a / 64) false || s.mem.holds e (a / 64) true then (s, some (s.mem.lineWord a))
    else
      let s1 := s.noteAqEcc (a / 64 * 64) 64
      if eccView s.mem.aqEcc (a / 64 * 64) 64 = .uncorrectable then (s1, none)
      else (s1.l1Gets e a, some (s.mem.lineWord a))
  | _ => (s, some 0#32)

/-- A store of one word by engine e: an aquifer line is owned first (R271). -/
def State.engineStore (s : State) (e : Nat) (p : Phys) (v : Word) : State :=
  match p with
  | .cis x => s.cisWrite x (wordBytes v)
  | .aq a =>
    (s.l1Getm e a).modMem (fun m => { m with l1 := m.l1.map (fun l =>
      if l.1 == a / 64 then (l.1, l.2.take (a % 64) ++ wordBytes v ++ l.2.drop (a % 64 + 4)) else l) })
  | _ => s

/-- Loads in order: the values, or the index of the first that an uncorrectable error stops. -/
def State.engineLoads (s : State) (e : Nat) : List Phys → State × List Word × Bool
  | [] => (s, [], true)
  | p :: rest =>
    let r := s.engineLoad e p
    match r.2 with
    | none => (r.1, [], false)
    | some v =>
      let q := r.1.engineLoads e rest
      (q.1, v :: q.2.1, q.2.2)

/-- Stores in order. -/
def State.engineStores (s : State) (e : Nat) (l : List (Phys × Word)) : State := l.foldl (fun s x => s.engineStore e x.1 x.2) s

/-! ### Issue -/

/-- What an instruction does to its context: its effect with the flags of its active lanes, a trap without effect, a wait in
which it does not retire, or a built-in spill or fill (cause handled) that faults (R225). -/
inductive Issued where
  | done (c : Ctx) (flags : FFlags)
  | trap (cause : Nat) (detail : Word)
  | wait
  | spillFault (handled refused : Nat) (detail : Word)
deriving Repr, Inhabited

/-- The cycles of an instruction counted for its context (R213, count events 0x08 and 0x09). -/
def State.countCycles (s : State) (e k : Nat) : State :=
  let job := (s.engine e).run == .job
  let s1 := if job then s else s.updEngine e (fun x => { x with cycles := x.cycles + k })
  match s.engineOwner e with
  | some n => s1.count n (if job then 9 else 8) e k
  | none => s1

/-- An instruction of k issue cycles issued by engine e in its running context (R209, R213, R217, R223, R254). -/
def State.issue (s : State) (e k : Nat) (f : State → Ctx → State × Issued) : State :=
  let x := s.engine e
  if x.halted || x.run == .idle then s
  else
    let c := x.ctx
    let r := if 4096 ≤ c.pc then (s, Issued.trap 3 0#32) else f s c
    match r.2 with
    | .wait => s
    | .trap cause detail => (r.1.countCycles e k).trapTake e c c.pc cause detail
    | .spillFault handled refused detail =>
      ((((r.1.countCycles e k).memTrap e refused detail).setCtx e (c.enterTrap handled 0#32 c.pc))).doubleTrap e handled refused c.pc
    | .done c1 flags =>
      let c2 := c1.raise flags
      let s1 := (r.1.countCycles e k).setCtx e c2
      if flags &&& c2.fte = 0#6 then s1 else s1.trapTake e c2 c.pc 6 (w32 flags.toNat)

/-- An instruction that touches its context only. -/
def State.issueCtx (s : State) (e k : Nat) (f : Ctx → Issued) : State := s.issue e k (fun s c => (s, f c))

end Sys2Proof.Machine
end

