-- ==== Sys2Proof/Machine/Chain.lean ====
section
/-! DEFINITION. Frame mode and block mode of a Truffle engine: the frame window, its positions, deadline misses and bypass (R228 to
R234), and the registers TRF_CTRL and TRF_BYP (R237, R238). -/

namespace Sys2Proof.Machine

/-- The cycles W of the frame window for an Fs in Hz and a clock divider (R230). -/
def frameWindow (fs div : Nat) : Nat :=
  (10000000000000 - 14 * fs * 1000250) * (800000000 * 9999) / (fs * 1000250 * 10000000 * div * 10000) - 16

/-! ### Signal flow (R229, R231, R234) -/

/-- The value that a record's position gives in frame f: its last completed output, none before the first, or the block that the frame
falls in. -/
def ChainLane.value (l : ChainLane) (block : Bool) (f spawnFrame : Nat) : Option F32 :=
  if block then
    if !l.blockValid || decide (f < spawnFrame + 33) then some 0#32
    else if f < l.blockAt then l.y
    else some (l.block.getD (min 31 (f - l.blockAt)) 0#32)
  else l.y

/-- (1 - g) y + g x for a gain of g 32nds. -/
def bypassMix (g : Nat) (x y : F32) : F32 :=
  if g = 0 then y
  else if 32 ≤ g then x
  else gAdd (gMul (gRatio (32 - g : Nat) 32) y) (gMul (gRatio g 32) x)

/-- A record's output: its result mixed with its input, or, with no result yet, the input (R234, R311). -/
def chainMix (g : Nat) (x : F32) (y : Option F32) : F32 :=
  match y with
  | none => x
  | some v => bypassMix g x v

/-- The inputs and outputs of a chain's records in frame f, position by position: a record that reads the output of a lower position
receives the processed value (R228). -/
def chainFlow (recs : List ChainRec) (x : Engine) (f : Nat) (bus : Nat → F32) : List (F32 × F32) :=
  let table := (positionsOf recs).foldl (fun (acc : List (Nat × Nat × F32 × F32)) p =>
    acc ++ ((recs.zipIdx.filter (fun r => r.1.position == p)).map (fun r =>
      let input := match acc.find? (fun a => a.2.1 == r.1.busIn) with
        | some a => a.2.2.2
        | none => bus r.1.busIn
      let y := match x.lanes[r.2]? with
        | some l => l.value r.1.block f x.spawnFrame
        | none => none
      (r.2, r.1.busOut, input, chainMix (x.gain.get p) input y)))) []
  (List.range recs.length).map (fun i => match table.find? (fun a => a.1 == i) with
    | some a => (a.2.2.1, a.2.2.2)
    | none => (0#32, 0#32))

/-- A gain one 32nd nearer its target. -/
def gainStep (target : Bool) (g : Nat) : Nat := if target then min 32 (g + 1) else g - 1

/-- The engine with the gains of the frame under way: each has moved since the last frame (R234). -/
def Engine.stepped (x : Engine) : Engine := { x with gain := x.gain.mapi (fun p g => gainStep (x.bypTarget.getLsbD p) g) }

/-- The inputs and outputs of engine e's records in the frame under way, as its targets stand. -/
def State.flow (s : State) (e : Nat) : List (F32 × F32) :=
  chainFlow (s.chainOf e) (s.engine e).stepped s.time.frameIdx.toNat (fun b => (s.spout.buses.get b).val)

/-! ### The window (R229, R231, R233) -/

/-- Whether a position runs in frame f: not while its target is 1 and it has overrun or this frame's gain is 1, and a block position only
in its frames. -/
def Engine.runs (x : Engine) (recs : List ChainRec) (f p : Nat) : Bool :=
  let byp := x.bypTarget.getLsbD p
  !(byp && x.overrun.getLsbD p) && !(byp && x.stepped.gain.get p == 32) &&
    (!recs.any (fun r => r.position == p && r.block) || f % 32 == p % 32)

/-- The 32 inputs that a block position finds, oldest first. -/
def ChainLane.inputs (l : ChainLane) : List F32 := List.replicate (32 - l.history.length) 0#32 ++ l.history

/-- The entry to position p (R229, R231). -/
def Engine.enter (x : Engine) (recs : List ChainRec) (ins : List F32) (f p : Nat) : Engine :=
  let mine := recs.zipIdx.filter (fun r => r.1.position == p)
  let c := x.frame
  let block := mine.any (fun r => r.1.block)
  let v := if block then
      mine.zipIdx.foldl (fun (v : Bank (Bank F32 32) 32) r =>
        let h := match x.lanes[r.1.2]? with
          | some l => l.inputs
          | none => []
        v.put r.2 (Bank.make 32 (fun j => h.getD j 0#32))) c.v
    else
      let l := mine.map (fun r => ins.getD r.2 0#32)
      c.v.put 0 (Bank.make 32 (fun i => l.getD i 0#32))
  let top := c.wins.headD Win.zero
  let params := ((top.p.put 0 (w32 f)).put 1 (w32 mine.length)).put 2 (w32 p)
  let address := match mine.head? with
    | some r => r.1.address
    | none => 0
  { x with pos := p, run := .frame,
           frame := { c with v := v, wins := [{ top with p := params }], spilled := 0, inTrap := false, pc := address } }

/-- The next position of the open window starts, or the frame context is done. -/
def State.nextPosition (s : State) (e : Nat) : State :=
  match (s.engine e).queue with
  | [] => s.frameDone e
  | p :: rest =>
    let ins := (s.flow e).map Prod.fst
    s.updEngine e (fun x => ({ x with queue := rest }).enter (s.chainOf e) ins s.time.frameIdx.toNat p)

/-- The frame window of engine e opens: its positions wait in ascending order. -/
def State.windowOpen (s : State) (e : Nat) : State :=
  let recs := s.chainOf e
  let x := s.engine e
  let q := if x.halted || x.resting then [] else (positionsOf recs).filter (fun p => x.runs recs s.time.frameIdx.toNat p)
  let s1 := s.updEngine e (fun x => { x with opened := true, windowOpen := true, cycles := 0, doneNow := 0#64, queue := q })
  if q.isEmpty then s1 else s1.nextPosition e

/-- FRAME_WINDOW_OPEN: once in a frame, while frames run and the Spout has mixed the input buses. -/
def execFrameWindowOpen (n : Fin 4) (s : State) : Res :=
  .next (if s.dev.phase.frames && s.spout.mixed && (s.engineOwner n).isSome && !(s.engine n).opened then s.windowOpen n else s)

/-- FRET: the position's outputs, and the next position (R229, R231). -/
def State.positionEnd (s : State) (e : Nat) : State :=
  let recs := s.chainOf e
  let f := s.time.frameIdx.toNat
  let s1 := s.updEngine e (fun x =>
    let mine := (recs.zipIdx.filter (fun r => r.1.position == x.pos)).zipIdx
    let lanes := x.lanes.zipIdx.map (fun l =>
      match mine.find? (fun r => r.1.2 == l.2) with
      | none => l.1
      | some r =>
        if r.1.1.block then
          { l.1 with y := l.1.value true f x.spawnFrame, block := (x.frame.v.get (8 + r.2)).toList, blockAt := f + 1, blockValid := true }
        else { l.1 with y := some ((x.frame.v.get 1).get r.2) })
    { x with lanes := lanes, doneNow := x.doneNow ||| BitVec.ofNat 64 (2 ^ x.pos) })
  s1.nextPosition e

/-- The window closes: what has not finished is overrun (R233). The cycles of stalls are a free value (DESIGN CHOICE, log entry 1). -/
def State.windowClose (s : State) (e : Nat) : State :=
  let x := s.engine e
  let late := (if x.run == .frame then [x.pos] else []) ++ x.queue
  let m := positionBits late
  let used := if x.cycles = 0 then 0
    else min (frameWindow s.fs ((s.dev.trfdiv.get e).div.toNat + 1)) (x.cycles + (Config.freeWord s.free).toNat % 65536)
  let s1 := (s.modFree (· + 1)).updEngine e (fun x =>
    { x with windowOpen := false, queue := [], ovr := x.ovr ||| m, ovrCnt := errCount x.ovrCnt late.length,
             bypTarget := x.bypTarget ||| m, overrun := x.overrun ||| m, cycLast := used, cycPeak := max x.cycPeak used })
  let s2 := if x.run == .frame then s1.frameDone e else s1
  if late.isEmpty then s2 else s2.engineFlag e 0

/-- FRAME_WINDOW_CLOSE. -/
def execFrameWindowClose (n : Fin 4) (s : State) : Res := .next (if (s.engine n).windowOpen then s.windowClose n else s)

/-! ### The end of a frame (R234) -/

/-- The chain of engine e at the completion of its frame: gains move, and the outputs of the records' buses are final. -/
def State.chainFinish (s : State) (e : Nat) : State × List (Nat × F32) :=
  let recs := s.chainOf e
  let fl := s.flow e
  let s2 := s.updEngine e (fun x => { x.stepped with lanes := (x.lanes.zip fl).map (fun l =>
    { l.1 with history := (l.1.history ++ [l.2.1]).drop (l.1.history.length - 31) }) })
  (s2, (recs.zip fl).map (fun r => (r.1.busOut, r.2.2)))

/-- The bypass targets that register writes and SET_BYPASS have set for a boundary, in force (R234): a target of 0 lets an overrun
position run again. -/
def Engine.takeBypass (x : Engine) : Engine :=
  let t := (x.bypTarget &&& ~~~x.bypMask) ||| (x.bypNext &&& x.bypMask)
  { x with bypTarget := t, bypMask := 0#64, overrun := x.overrun &&& t, opened := false, resting := false }

/-! ### Registers (R237, R238) -/

/-- The bypass targets as TRF_BYP reads them. -/
def Engine.bypWord (x : Engine) : BitVec 64 := (x.bypTarget &&& ~~~x.bypMask) ||| (x.bypNext &&& x.bypMask)

/-- TRF_BYP_LOe or TRF_BYP_HIe written: the targets of its 32 positions from the next frame boundary. -/
def State.trfByp (s : State) (e : Nat) (hi : Bool) (v : Word) : State :=
  let sh := if hi then 32 else 0
  let m : BitVec 64 := (0xFFFFFFFF#64) <<< sh
  s.updEngine e (fun x => { x with bypNext := (x.bypNext &&& ~~~m) ||| ((v.setWidth 64) <<< sh), bypMask := x.bypMask ||| m })

/-- TRF_BYP_WRITE. -/
def execTrfBypWrite (t : Fin 8) (n : Fin 4) (hi : Bool) (v : Word) (s : State) : Res :=
  .next (s.access t (0x180010 + 0x10000 * n + (if hi then 4 else 0)) true (s.engineOwner n == some t.val) (fun s => s.trfByp n hi v))

/-- A context as RESTART leaves it: windows, special registers and PC reset, and every vector, mask and tile register 0. -/
def Ctx.restart (c : Ctx) : Ctx := { Ctx.zero with y := c.y }

/-- TRF_CTRLe written: RESTART of a halted engine; its positions run from the next frame boundary (R237). -/
def State.trfCtrl (s : State) (e : Nat) (v : Word) : State :=
  if v.getLsbD 0 && (s.engine e).halted then
    (s.updEngine e (fun x => { x with halted := false, resting := true, frame := x.frame.restart, job := x.job.restart, run := .idle })).jobResume e
  else s

/-- TRF_RESTART. -/
def execTrfRestart (t : Fin 8) (n : Fin 4) (v : Word) (s : State) : Res :=
  .next (s.access t (0x180008 + 0x10000 * n) true (s.engineOwner n == some t.val) (fun s => s.trfCtrl n v))

end Sys2Proof.Machine
end

