-- ==== Sys2Proof/Machine/Spout.lean ====
section
/-! DEFINITION. The commands of chapter 13 beside the frame boundary: bus gains, CV groups and their strobes, the AOUT precharge,
the serial audio ports and the end of a no-majority run. -/

namespace Sys2Proof.Machine

/-! ### Bus gains (R309) -/

/-- A bus gain that R309 allows: finite, and from -16 to 16. -/
def gainAllowed (v : F32) : Bool := fIsFinite v && gLe (gOfInt (-16)) v && gLe v (gOfInt 16)

/-- A new gain target: the gain moves to it over 32 frames from the value it has reached. -/
def Bus.aim (b : Bus) (v : F32) : Bus := { b with target := v, from_ := b.gain, left := 32 }

/-- A new gain target of bus b. -/
def State.busGain (s : State) (b : Nat) (v : F32) : State := s.modSpout (fun p => { p with buses := p.buses.upd b (fun x => x.aim v) })

/-- SP_BGAINb written: a gain that R309 does not allow is a reserved encoding. -/
def State.spBgain (s : State) (b : Nat) (v : Word) : State :=
  if gainAllowed v then s.busGain b v else s.regRejected (0x310004 + 0x10 * b)

/-- SP_BGAIN_WRITE. -/
def execSpBgainWrite (t : Fin 8) (b : Fin 64) (v : Word) (s : State) : Res :=
  .next (s.access t (0x310004 + 0x10 * b) true (s.periphOwner pcBus b == some t.val) (fun s => s.spBgain b v))

/-! ### Control voltages (R317, R318) -/

/-- Whether a BUS_OUT record names CV channel k. -/
def State.cvDriven (s : State) (k : Nat) : Bool :=
  (List.range 8).any (fun n => (s.tcfg n).spout.busOut.any (fun r => r.cls == 1 && r.index == k))

/-- Status bits of CV group h set, with its source. -/
def State.cvFlag (s : State) (h : Nat) (b : BitVec 4) : State :=
  (s.modSpout (fun p => { p with lgc := p.lgc.upd h (fun g => { g with status := g.status ||| b }) })).settle (836 + h)

/-- CV_DATAh_k written: a bus-driven channel ignores it and sets WR_IGN. -/
def State.cvData (s : State) (h k : Nat) (v : Word) : State :=
  if s.cvDriven (8 * h + k) then s.cvFlag h 4#4
  else s.modSpout (fun p => { p with cvs := p.cvs.upd (8 * h + k) (fun c => { c with shadow := v.setWidth 18 }) })

/-- CV_DATA_WRITE. -/
def execCvDataWrite (t : Fin 8) (h : Fin 2) (k : Fin 8) (v : Word) (s : State) : Res :=
  .next (s.access t (0x310620 + 0x80 * h + 4 * k) true (s.groupOwner (4 + h) == some t.val) (fun s => s.cvData h k v))

/-- The code that a latched shadow gives (R317): clamp(round(c x gain + offset)) x F_t, rounded to a code. -/
def cvCode (c : Cv) (fade : F32) : BitVec 18 :=
  let x := clampInt 0 262143 (gToInt (gAdd (gMul (gOfInt c.shadow.toNat) c.gain) c.offset))
  BitVec.ofNat 18 (gToInt (gMul (gOfInt x) fade)).toNat

/-- One strobe of CV group h: every shadow is latched and output, but for host-written channels of a half-written group under
SKIP_HALF and for a channel under calibration (R317, R318, R321). During a switch of ownership the outputs hold (R408). -/
def State.cvLatch (s : State) (h : Nat) : State :=
  let g := s.spout.lgc.get h
  let half := g.seq.getLsbD 0
  let fade := match s.groupOwner (4 + h) with
    | some n => (s.spout.fades.get n).gain
    | none => 0#32
  let s1 := s.modSpout (fun p => { p with
    cvs := p.cvs.mapi (fun i c =>
      if i / 8 = h && g.cal.map Prod.snd != some i && s.pair.switch.isNone && (!(half && g.skipHalf) || s.cvDriven i) then { c with out := cvCode c fade } else c),
    lgc := p.lgc.upd h (fun g => if half then { g with halfCnt := errCount g.halfCnt 1 } else g) })
  if half then s1.cvFlag h 1#4 else s1

/-- CV_STROBE_LATCH: a strobe of a group, which latches while the groups are driven. -/
def execCvStrobeLatch (h : Fin 2) (s : State) : Res :=
  .next (if s.dev.phase == .running && (s.groupOwner (4 + h)).isSome then s.cvLatch h else s)

/-- A strobe of the groups that select a source and for which p holds. -/
def State.cvStrobe (s : State) (src : StrobeSrc) (p : Nat → Bool) : State :=
  if s.dev.phase == .running then
    ((List.range 2).filter (fun h => (s.groupOwner (4 + h)).isSome && s.strobeSrc h == src && p h)).foldl State.cvLatch s
  else s

/-- LDAC_N_FALL. -/
def execLdacNFall (s : State) : Res := .next (s.cvStrobe .ldac (fun _ => true))

/-- CV_STROBEh written: a 1 strobes a group strobed by software. -/
def State.cvStrobeReg (s : State) (h : Nat) (v : Word) : State :=
  if v.getLsbD 0 then s.cvStrobe .software (fun x => x == h) else s

/-- CV_STROBE_WRITE. -/
def execCvStrobeWrite (t : Fin 8) (h : Fin 2) (v : Word) (s : State) : Res :=
  .next (s.access t (0x310604 + 0x80 * h) true (s.groupOwner (4 + h) == some t.val) (fun s => s.cvStrobeReg h v))

/-- CV_SEQh written: STEP adds 1 to SEQ (R318). -/
def State.cvSeq (s : State) (h : Nat) (v : Word) : State :=
  if v.getLsbD 0 then s.modSpout (fun p => { p with lgc := p.lgc.upd h (fun g => { g with seq := g.seq + 1#16 }) }) else s

/-- CV_SEQ_STEP. -/
def execCvSeqStep (t : Fin 8) (h : Fin 2) (v : Word) (s : State) : Res :=
  .next (s.access t (0x310608 + 0x80 * h) true (s.groupOwner (4 + h) == some t.val) (fun s => s.cvSeq h v))

/-- CV_GCTRLh written: SKIP_HALF. -/
def State.cvGctrl (s : State) (h : Nat) (v : Word) : State :=
  s.modSpout (fun p => { p with lgc := p.lgc.upd h (fun g => { g with skipHalf := v.getLsbD 8 }) })

/-! ### Audio DACs (R320) -/

/-- AOUT_PRECHARGE_DONE: the stage of group g is enabled, and the owner's fade gain, if it still waits at 0.0 for this, rises over PARK_FADE.
A gain that a park, a dormant entry, a halt or a respawn has brought down stays with them. -/
def State.prechargeDone (s : State) (g : Nat) : State :=
  let s1 := s.modSpout (fun p => { p with lga := p.lga.upd g (fun x => { x with precharge := false, enabled := true }) })
  match s.groupOwner g with
  | none => s1
  | some n => if s.spawned n && s.spout.fades.get n == Fade.at_ 0#32 then s1.fadeTo n fOne s.cfg.dev.parkFade else s1

/-- AOUT_PRECHARGE_DONE. -/
def execAoutPrechargeDone (g : Fin 4) (s : State) : Res :=
  .next (if s.dev.phase == .running && (s.spout.lga.get g).precharge then s.prechargeDone g else s)

/-! ### Voting (R315, R31) -/

/-- SPOUT_NOMAJ_SAFE: 64 no-majority frames in a row bring the device to SAFE. -/
def execSpoutNomajSafe (s : State) : Res :=
  .next (if (s.dev.phase == .running || s.dev.phase == .parked) && decide (64 ≤ s.spout.run) then s.enterSafe else s)

/-! ### Serial audio (R322 to R325) -/

/-- The slots of a port as its configuration gives them: two in I2S, otherwise 2 to 16. -/
def sapSlots (cfg : Word) : Nat := if cfg.getLsbD 0 then 2 ^ (bits cfg 2 1 + 1) else 2

/-- The word width in bits. -/
def sapWidth (cfg : Word) : Nat := if bits cfg 4 3 = 0 then 16 else if bits cfg 4 3 = 1 then 24 else 32

/-- Whether a port is a target. -/
def sapTarget (cfg : Word) : Bool := cfg.getLsbD 5

/-- The largest slots code of a controller at a frame rate (R323). -/
def sapSlotLimit (fs : Nat) : Nat := if fs ≤ 48000 then 3 else if fs ≤ 96000 then 2 else 1

/-- A port with nothing received and nothing to send. -/
def Sap.quiet (x : Sap) : Sap :=
  { x with rx := Bank.all 16 0#32, tx := Bank.all 16 0#32, sent := Bank.all 16 0#32, rxq := [], txq := [], repeatIn := false,
           dropIn := false, repeatOut := false, dropOut := false, noFs := false, status := x.status &&& 5#3 }

/-- The FS phase measured at a port: 0 for a controller, and what the outside gives, a free value, for a target, which measures it at EN, at a
slip and at every frame boundary. -/
def State.sapMeasure (s : State) (p : Nat) : State :=
  if sapTarget (s.sap.get p).cfg then
    (s.modSap (fun b => b.upd p (fun x => { x with phase := (Config.freeWord s.free).setWidth 11 }))).modFree (· + 1)
  else s.modSap (fun b => b.upd p (fun x => { x with phase := 0#11 }))

/-- SAP_CTRLp written: EN starts or stops the port (R322). -/
def State.sapCtrl (s : State) (p : Nat) (v : Word) : State :=
  let on := v.getLsbD 0
  if on == (s.sap.get p).en then s
  else
    let s1 := s.modSap (fun b => b.upd p (fun x => { x.quiet with en := on }))
    (if on then s1.sapMeasure p else s1).settle (838 + p)

/-- SAP_CTRL_WRITE. -/
def execSapCtrlWrite (t : Fin 8) (p : Fin 8) (v : Word) (s : State) : Res :=
  .next (s.access t (0x320000 + 0x100 * p) true (s.periphOwner pcSap p == some t.val) (fun s => s.sapCtrl p v))

/-- SAP_CFGp written: ignored with ES1004 while EN is 1; a word code of 3, and as controller more slots than R323 allows, are
reserved. -/
def State.sapCfg (s : State) (p : Nat) (v : Word) : State :=
  let ofs := 0x320004 + 0x100 * p
  let x := s.sap.get p
  if x.en then s.regRejected ofs
  else
    let badWord := bits v 4 3 == 3
    let badSlots := v.getLsbD 0 && !v.getLsbD 5 && decide (sapSlotLimit s.fs < bits v 2 1)
    let slots := if badSlots then bits x.cfg 2 1 else bits v 2 1
    let word := if badWord then bits x.cfg 4 3 else bits v 4 3
    let cfg := w32 (flag (v.getLsbD 0) 0 + fld slots 1 + fld word 3 + flag (v.getLsbD 5) 5)
    let s1 := s.modSap (fun b => b.put p { x with cfg := cfg })
    if badWord || badSlots then s1.regRejected ofs else s1

/-- SAP_CFG_WRITE. -/
def execSapCfgWrite (t : Fin 8) (p : Fin 8) (v : Word) (s : State) : Res :=
  .next (s.access t (0x320004 + 0x100 * p) true (s.periphOwner pcSap p == some t.val) (fun s => s.sapCfg p v))

/-- Whether a port works as an enabled target. -/
def State.sapFollows (s : State) (p : Nat) : Bool := (s.sap.get p).en && sapTarget (s.sap.get p).cfg

/-- SAP_SLIP: with a late FS one input sample is repeated and one output sample dropped at the next boundary, with an early
one an input sample is dropped and an output sample repeated;
the phase is measured again (R324). -/
def State.sapSlip (s : State) (p : Nat) (late : Bool) : State :=
  let s1 := s.modSap (fun b => b.upd p (fun x =>
    { x with repeatIn := late, dropIn := !late, repeatOut := !late, dropOut := late, status := x.status ||| 1#3, slipCnt := errCount x.slipCnt 1 }))
  (s1.sapMeasure p).settle (838 + p)

/-- SAP_SLIP. -/
def execSapSlip (p : Fin 8) (late : Bool) (s : State) : Res := .next (if s.sapFollows p then s.sapSlip p late else s)

/-- SAP_NOCLK: no FS for 2 frames: the inputs deliver 0.0, DO drives 0 and NOCLK is set (R324). -/
def State.sapNoclk (s : State) (p : Nat) : State :=
  (s.modSap (fun b => b.upd p (fun x =>
    { x with noFs := true, rx := Bank.all 16 0#32, sent := Bank.all 16 0#32, status := x.status ||| 2#3 }))).settle (838 + p)

/-- SAP_NOCLK. -/
def execSapNoclk (p : Fin 8) (s : State) : Res := .next (if s.sapFollows p then s.sapNoclk p else s)

/-- SAP_FS_RETURN: samples flow again and NOCLK, which is set until FS returns, is left (R324). -/
def State.sapFsBack (s : State) (p : Nat) : State :=
  (s.modSap (fun b => b.upd p (fun x => { x with noFs := false, status := x.status &&& 5#3 }))).settle (838 + p)

/-- SAP_FS_RETURN. -/
def execSapFsReturn (p : Fin 8) (s : State) : Res :=
  .next (if s.sapFollows p && (s.sap.get p).noFs then s.sapFsBack p else s)

end Sys2Proof.Machine
end

