-- ==== Sys2Proof/Machine/Ports.lean ====
section
/-! DEFINITION. The commands of chapter 15: timer units, the keybed scanner, the character ports, the I2C controllers and the
boot-flash controller. -/

namespace Sys2Proof.Machine

/-- An event as an ingress presents it, for a tenancy. -/
def plainEvent (m : Msg) (n : Nat) : RawEvent := { msg := m, playAt := 0#64, value := none, mirror := none, ten := n }

/-- The message of up to three MIDI 1.0 bytes in a group: a channel message, or a system message as UMP type 0x1. -/
def midiMsg (group : Nat) (st d1 d2 : Byte) : Msg := if 0xF0 ≤ st.toNat then systemUmp group st d1 d2 else .midi1 group st d1 d2

/-! ### Timer units (R348 to R354) -/

/-- The code of a timer mode. -/
def TimerMode.code : TimerMode → Nat
  | .off => 0 | .capture => 1 | .paired => 2 | .compare => 3 | .autoAdd => 4 | .pwm => 5

/-- A channel as its TIMER record configures it; it starts at TIMER_START (R350, R375). -/
def TimerRec.load (r : TimerRec) : TimerChan :=
  { TimerChan.reset with cfg := BitVec.ofNat 15 (r.mode.code + fld r.prescale 3), run := true, cmp := w32 r.compare }

/-- The mode of a channel. -/
def TimerChan.mode (x : TimerChan) : Nat := bits x.cfg 2 0

/-- A timer channel. -/
def State.tchan (s : State) (u k : Nat) : TimerChan := (s.timers.get u).get k

/-- A timer channel changed, with its source. -/
def State.updTimer (s : State) (u k : Nat) (f : TimerChan → TimerChan) : State :=
  (s.modTimers (fun b => b.upd u (fun c => c.upd k f))).settle (672 + 4 * u + k)

/-- The timer channels of the tenancies for which p holds loaded from their records. -/
def State.timerLoad (s : State) (p : Nat → Bool) : State :=
  s.modTimers (fun b => b.mapi (fun u c => c.mapi (fun k x =>
    match s.timerRec u k with
    | some (n, r) => if p n then r.load else x
    | none => if (match s.periphOwner pcTimer u with | some n => p n | none => true) then TimerChan.reset else x)))

/-- Whether the timers, the keybed and the character ports run: they hold an applied configuration and PER runs. -/
def State.portsRun (s : State) : Bool := s.dev.phase.hosted

/-- A pending message of a channel enters the timer ingress while that has room (R130, R354). -/
def State.timerOffer (s : State) (u k : Nat) : State :=
  match (s.tchan u k).msg with
  | some e =>
    if s.front.timers.length < ingressMax then
      (s.modTimers (fun b => b.upd u (fun c => c.upd k (fun x => { x with msg := none })))).modFront
        (fun f => { f with timers := f.timers ++ [e] })
    else s
  | none => s

/-- The pending messages of all channels offered, in ascending number. -/
def State.timerRefill (s : State) : State :=
  (List.range 96).foldl (fun s i => s.timerOffer (i / 4) (i % 4)) s

/-- The event of a channel (R354): CV strobes, filter-chain triggers, and with EVT its message. -/
def State.chanEvent (s : State) (u k : Nat) : State :=
  let s1 := (s.cvStrobe .timer (fun h => match s.groupRec (4 + h) with
    | some r => r.timer == 4 * u + k
    | none => false)).timerTriggers u k
  let x := s1.tchan u k
  if !x.cfg.getLsbD 14 then s1
  else if x.msg.isSome then s1.updTimer u k (fun x => { x with stat := x.stat ||| 32#6, evLost := errCount x.evLost 1 })
  else
    let e := plainEvent (midiMsg 0 (x.evmsg.setWidth 8) ((x.evmsg >>> 8).setWidth 8) ((x.evmsg >>> 16).setWidth 8))
      ((s.periphOwner pcTimer u).getD 0)
    (s1.updTimer u k (fun x => { x with msg := some e })).timerOffer u k

/-- The counter one tick on, with its wrap into the extension (R349). -/
def TimerChan.count (x : TimerChan) : TimerChan :=
  let c := x.cnt + 1#32
  if c = 0#32 then
    { x with cnt := c, ext := x.ext + 1#16, stat := x.stat ||| 4#6 ||| (if x.ext + 1#16 = 0#16 then 16#6 else 0#6) }
  else { x with cnt := c }

/-- A PWM counter one tick on: its return to 0 takes the waiting values (R353). -/
def TimerChan.pwmCount (x : TimerChan) : TimerChan :=
  let y := if x.add.toNat ≤ x.cnt.toNat + 1 then
      { x with cnt := 0#32, cmp := x.cmpNext.getD x.cmp, add := x.addNext.getD x.add, cmpNext := none, addNext := none }
    else { x with cnt := x.cnt + 1#32 }
  { y with pin := decide (y.cnt.toNat < y.cmp.toNat) }

/-- The pin action of a match: none, set, clear or toggle (R352). -/
def TimerChan.act (x : TimerChan) : Bool :=
  match bits x.cfg 13 12 with
  | 1 => true
  | 2 => false
  | 3 => !x.pin
  | _ => x.pin

/-- A match: CMP, the pin action, and in mode 4 the next compare value (R352). -/
def TimerChan.matched (x : TimerChan) : TimerChan :=
  { x with stat := x.stat ||| 1#6, pin := x.act, cmp := if x.mode = 4 then x.cmp + x.add else x.cmp }

/-- TIMER_TICK: one tick of a running channel. -/
def State.timerTick (s : State) (u k : Nat) : State :=
  let x := s.tchan u k
  if !(s.portsRun && x.started && x.run) || x.mode = 0 || 5 < x.mode then s
  else if x.mode = 5 then s.updTimer u k TimerChan.pwmCount
  else
    let y := x.count
    if 3 ≤ x.mode ∧ y.cnt = y.cmp then (s.updTimer u k (fun _ => y.matched)).chanEvent u k else s.updTimer u k (fun _ => y)

/-- TIMER_TICK. -/
def execTimerTick (u : Fin 24) (k : Fin 4) (s : State) : Res := .next (s.timerTick u k)

/-- A capture that completes: CAP, or CAP_OVR with a count while CAP is still set (R351). -/
def TimerChan.captured (x : TimerChan) : TimerChan :=
  if x.stat.getLsbD 1 then { x with stat := x.stat ||| 10#6, evLost := errCount x.evLost 1 } else { x with stat := x.stat ||| 2#6 }

/-- An accepted edge in mode 1: the channel after it and whether a capture completed. EDGE 0 is rising, 1 falling, 2 both. -/
def TimerChan.edgeSingle (x : TimerChan) (v : Word) (level : Bool) : TimerChan × Bool :=
  let e := bits x.cfg 8 7
  if e = 2 ∨ (e = 0 ∧ level) ∨ (e = 1 ∧ !level) then ({ x with capB := x.capA, capA := v }.captured, true) else (x, false)

/-- An accepted edge in mode 2 (R351): EDGE 0 pairs a rising with the next falling edge, 1 the reverse, 2 and 3 edges of one
polarity, where each ends a pair and starts the next. -/
def TimerChan.edgePaired (x : TimerChan) (v : Word) (level : Bool) : TimerChan × Bool :=
  let e := bits x.cfg 8 7
  let starts := if e = 0 ∨ e = 2 then level else !level
  let ends := if e = 0 then !level else if e = 1 then level else starts
  if ends && x.first then
    ({ x with capA := x.edge, capB := v, pair := v - x.edge, edge := v, first := starts }.captured, true)
  else if starts then ({ x with edge := v, first := true }, false)
  else (x, false)

/-- CAPTURE_EDGE: the input of a capture channel has held a new level for 2^f ticks; the capture value is the count at the first of
those samples (R351). -/
def State.captureEdge (s : State) (u k : Nat) (level : Bool) : State :=
  let x := s.tchan u k
  if !(s.portsRun && x.started) || (x.mode != 1 && x.mode != 2) || level == x.pin then s
  else
    let v := if x.run then x.cnt - w32 (2 ^ bits x.cfg 11 9 - 1) else x.cnt
    let y := { x with pin := level }
    let r := if x.mode = 1 then y.edgeSingle v level else y.edgePaired v level
    let s1 := s.updTimer u k (fun _ => r.1)
    if r.2 then s1.chanEvent u k else s1

/-- CAPTURE_EDGE. -/
def execCaptureEdge (u : Fin 24) (k : Fin 4) (level : Bool) (s : State) : Res := .next (s.captureEdge u k level)

/-- The BAR0 offset of a register of channel k of unit u. -/
def tuOfs (u k r : Nat) : Nat := 0x370000 + 0x100 * u + 0x40 * k + r

/-- TU_CMPu_k written: at once, or at the next return to 0 in PWM (R352, R353). -/
def State.tuCmp (s : State) (u k : Nat) (v : Word) : State :=
  s.updTimer u k (fun x => if x.mode = 5 then { x with cmpNext := some v } else { x with cmp := v })

/-- TU_CMP_WRITE. -/
def execTuCmpWrite (t : Fin 8) (u : Fin 24) (k : Fin 4) (v : Word) (s : State) : Res :=
  .next (s.access t (tuOfs u k 0x10) true (s.periphOwner pcTimer u == some t.val) (fun s => s.tuCmp u k v))

/-- TU_CTRLu_k written: RUN (R350). -/
def State.tuCtrl (s : State) (u k : Nat) (v : Word) : State := s.updTimer u k (fun x => { x with run := v.getLsbD 0 })

/-- TU_CTRL_WRITE. -/
def execTuCtrlWrite (t : Fin 8) (u : Fin 24) (k : Fin 4) (v : Word) (s : State) : Res :=
  .next (s.access t (tuOfs u k 4) true (s.periphOwner pcTimer u == some t.val) (fun s => s.tuCtrl u k v))

/-- TU_ADDu_k written: 0 is reserved in modes 4 and 5; a PWM period waits for the return to 0 (R352, R353). -/
def State.tuAdd (s : State) (u k : Nat) (v : Word) : State :=
  let m := (s.tchan u k).mode
  if v = 0#32 ∧ (m = 4 ∨ m = 5) then s.regRejected (tuOfs u k 0x14)
  else s.updTimer u k (fun x => if x.mode = 5 then { x with addNext := some v } else { x with add := v })

/-- TU_CFGu_k written: MODE and PRESCALE while the owner is unspawned, after which every write of the register raises ES1004 for them, and the
other fields; modes above 5 are reserved, and so is
EDGE 3 in mode 1 (R6, R375). -/
def State.tuCfg (s : State) (u k : Nat) (v : Word) : State :=
  let x := s.tchan u k
  let locked := match s.periphOwner pcTimer u with
    | some n => s.spawned n
    | none => false
  let badMode := !locked && decide (5 < bits v 2 0)
  let mode := if locked || badMode then bits x.cfg 2 0 else bits v 2 0
  let pre := if locked then bits x.cfg 6 3 else bits v 6 3
  let badEdge := mode == 1 && bits v 8 7 == 3
  let edge := if badEdge then bits x.cfg 8 7 else bits v 8 7
  let cfg := BitVec.ofNat 15 (mode + fld pre 3 + fld edge 7 + fld (bits v 14 9) 9)
  let s1 := s.updTimer u k (fun x => { x with cfg := cfg })
  if badMode || locked || badEdge then s1.regRejected (tuOfs u k 0) else s1

/-- Every configured channel that has not started starts at count 0, all in the same cycle (R350). -/
def State.timersStart (s : State) : State :=
  s.modTimers (fun b => b.mapi (fun u c => c.mapi (fun k x =>
    if (s.timerRec u k).isSome && !x.started then { x with cnt := 0#32, run := true, started := true } else x)))

/-- TIMER_START. -/
def execTimerStart (s : State) : Res := .next (if s.dev.phase == .running && s.time.framesRun then s.timersStart else s)

/-! ### The keybed scanner (R355 to R360) -/

/-- The drive lines R. -/
def KeybedRec.lines (r : KeybedRec) : Nat := 2 * ceilDiv r.keys 16

/-- The VELCURVE of the keybed's pool, or the default (R359). -/
def State.velCurve (s : State) : Nat × Nat × List Nat :=
  let dflt := (500, 50000, (List.range 32).map (fun i => 1 + (65534 * (31 - i) * 2 + 31) / 62))
  match s.keybedRec with
  | none => dflt
  | some (n, r) =>
    match (s.tcfg n).forager.velcurves.find? (fun c => c.pool == r.pool) with
    | some c => (c.fastest, c.slowest, c.velocity)
    | none => dflt

/-- The velocity of a curve at an interval of ticks PER cycles (R359): the position is 31 × ln(Δ/t_f) / ln(t_s/t_f), limited to 0 to 31. -/
def velAt (c : Nat × Nat × List Nat) (ticks : Nat) : Nat :=
  let x := if ticks ≤ 100 * c.1 then 0 else if 100 * c.2.1 ≤ ticks then 31 * fxOne else logPosition 31 ticks (100 * c.1) c.2.1 c.1
  let i := x / fxOne
  let v (k : Nat) : Int := (c.2.2.getD k 1 : Nat)
  if 31 ≤ i then (v 31).toNat else ((v i * (2 * fxOne) + (v (i + 1) - v i) * (2 * (x % fxOne)) + fxOne) / (2 * fxOne)).toNat

/-- The velocity v of an interval in PER cycles (R358, R359). -/
def State.velOf (s : State) (ticks : Nat) : Nat := velAt s.velCurve ticks

/-- A key event: note-on or note-off of group 0, channel 0, with a 16-bit velocity (R132). -/
def State.keyMsg (s : State) (key : Nat) (on : Bool) (vel : Nat) : Msg :=
  let first := match s.keybedRec with
    | some (_, r) => r.firstNote
    | none => 0
  .ump (w32 (fld 4 28 + fld (if on then 9 else 8) 20 + fld ((first + key) % 128) 8)) (w32 (fld vel 16))

/-- A key event joins those of the scan under way. -/
def State.keyEvent (s : State) (key : Nat) (on : Bool) (vel : Nat) (time : DWord) : State :=
  s.modKeybed (fun b => { b with scan := b.scan ++
    [{ time := time, sense := key % 16, ev := plainEvent (s.keyMsg key on vel) 0 }] })

/-- ORDER counted (R358). -/
def State.keyOrder (s : State) : State :=
  (s.modKeybed (fun b => { b with status := b.status ||| 1#2, orderCnt := errCount b.orderCnt 1 })).settle 1016

/-- A change latched late (R360). -/
def State.keyLate (s : State) : State :=
  (s.modKeybed (fun b => { b with status := b.status ||| 2#2, lateCnt := errCount b.lateCnt 1 })).settle 1016

/-- A key of the keybed changed. -/
def State.updKey (s : State) (key : Nat) (f : KeyContacts → KeyContacts) : State :=
  s.modKeybed (fun b => { b with keys := b.keys.upd key f })

/-- The velocity of point 0. -/
def State.velPoint0 (s : State) : Nat := s.velCurve.2.2.getD 0 1

/-- Contact B taken as closed at a time (Table 1). -/
def State.keyBCloses (s : State) (key : Nat) (t : DWord) : State :=
  let x := s.keybed.keys.get key
  let s1 := s.updKey key (fun x => { x with sounding := true })
  if !x.a.closed then (s1.keyEvent key true s.velPoint0 t).keyOrder
  else
    let from_ := if x.sounding && decide (x.a.closedAt.toNat ≤ x.b.openedAt.toNat) then x.b.openedAt else x.a.closedAt
    s1.keyEvent key true (s.velOf (t.toNat - from_.toNat)) t

/-- The last closed contact of a sounding key opens at a time: the note-off, with bFirst when B opened first (Table 1). -/
def State.keyReleased (s : State) (key : Nat) (t : DWord) (bFirst : Bool) : State :=
  let x := s.keybed.keys.get key
  let s1 := s.updKey key (fun x => { x with sounding := false })
  if bFirst then s1.keyEvent key false (s.velOf (t.toNat - x.b.openedAt.toNat)) t
  else (s1.keyEvent key false s.velPoint0 t).keyOrder

/-- What a taken change of a contact does; the contact already stands changed (Table 1). A muted key gives nothing until both its
contacts have been open (R357). -/
def State.keyChange (s : State) (key : Nat) (isB closed : Bool) (t : DWord) : State :=
  let x := s.keybed.keys.get key
  if x.mute then (if !x.a.closed && !x.b.closed then s.updKey key (fun x => { x with mute := false }) else s)
  else if closed then (if isB then s.keyBCloses key t else s)
  else if !x.a.closed && !x.b.closed && x.sounding then s.keyReleased key t (!isB)
  else s

/-- Whether the buffer ahead of the ingress is full (R360). -/
def KeybedState.full (b : KeybedState) : Bool := decide (64 ≤ b.buffer.length + b.scan.length)

/-- A contact changed: which of the two. -/
def KeyContacts.upd (x : KeyContacts) (isB : Bool) (f : Contact → Contact) : KeyContacts :=
  if isB then { x with b := f x.b } else { x with a := f x.a }

/-- A contact that reads as taken has no change left to latch (R357, R360). -/
def State.keyUnmiss (s : State) (key : Nat) (isB : Bool) : State :=
  s.modKeybed (fun b => { b with missed := b.missed.filter (fun m => m != (key, isB)) })

/-- A change of a contact taken at a time, or not latched while the buffer is full (R357, R360). -/
def State.keyTake (s : State) (key : Nat) (isB closed : Bool) (t : DWord) : State :=
  let missed := s.keybed.missed.contains (key, isB)
  if s.keybed.full then
    s.modKeybed (fun b => { b with missed := if missed then b.missed else b.missed ++ [(key, isB)] })
  else
    let at_ := if missed then s.now else t
    let s1 := s.updKey key (fun x => x.upd isB (fun c =>
      if closed then { c with closed := true, opens := 0, closedAt := at_ } else { c with closed := false, opens := 0, openedAt := at_ }))
    let s2 := s1.keyUnmiss key isB
    (if missed then s2.keyLate else s2).keyChange key isB closed at_

/-- One sample of a contact: closed at once, open after DEBOUNCE samples in a row (R357). In the first scan it only sets the state. -/
def State.keySample (s : State) (key : Nat) (isB closed : Bool) : State :=
  let k := s.keybed.keys.get key
  let c := if isB then k.b else k.a
  if s.keybed.setup then
    let s1 := s.updKey key (fun x => x.upd isB (fun _ => { Contact.open_ with closed := closed, closedAt := s.now }))
    if isB then s1.updKey key (fun x => { x with mute := closed, sounding := false }) else s1
  else if closed then
    if c.closed then (s.keyUnmiss key isB).updKey key (fun x => x.upd isB (fun c => { c with opens := 0 })) else s.keyTake key isB true s.now
  else if !c.closed then s.keyUnmiss key isB
  else
    let first := if c.opens = 0 then s.now else c.firstOpen
    let s1 := s.updKey key (fun x => x.upd isB (fun c => { c with opens := c.opens + 1, firstOpen := first }))
    if s.keybed.debounce.toNat ≤ c.opens + 1 then s1.keyTake key isB false first else s1

/-- Whether one scan event comes before another: by time, then by sense line (R358). -/
def ScanEvent.before (a b : ScanEvent) : Bool :=
  decide (a.time.toNat < b.time.toNat) || (a.time == b.time && decide (a.sense < b.sense))

/-- Scan events in the order they are presented. -/
def sortScan (l : List ScanEvent) : List ScanEvent :=
  l.foldl (fun acc x => acc.filter (fun y => !x.before y) ++ x :: acc.filter (fun y => x.before y)) []

/-- Buffered key events enter the ingress while that has room (R130, R360). -/
def State.keybedRefill (s : State) : State :=
  let n := min s.keybed.buffer.length (ingressMax - s.front.keybed.length)
  (s.modFront (fun f => { f with keybed := f.keybed ++ s.keybed.buffer.take n })).modKeybed (fun b => { b with buffer := b.buffer.drop n })

/-- The end of a scan: its events are presented in order. -/
def State.scanEnd (s : State) : State :=
  (s.modKeybed (fun b =>
    { b with setup := false, buffer := b.buffer ++ (sortScan b.scan).map ScanEvent.ev, scan := [] })).keybedRefill

/-- KEYBED_SLOT_SAMPLE: the sense lines at the end of drive slot d; a closed contact reads low (R356). -/
def State.slotSample (s : State) (slot : Nat) (sense : BitVec 16) : State :=
  match s.keybedRec with
  | none => s
  | some (_, r) =>
    if !s.portsRun || !s.keybed.en || r.lines ≤ slot then s
    else
      let keys := ((List.range 16).map (fun i => slot / 2 * 16 + i)).filter (fun k => decide (k < r.keys))
      let s1 := keys.foldl (fun s k => s.keySample k (slot % 2 == 1) (!sense.getLsbD (k % 16))) s
      if slot + 1 = r.lines then s1.scanEnd else s1

/-- KEYBED_SLOT_SAMPLE. -/
def execKeybedSlotSample (slot : Fin 16) (sense : BitVec 16) (s : State) : Res := .next (s.slotSample slot sense)

/-- The scanner as it starts: the first scan sets the state without events (R357). -/
def State.keybedStart (s : State) : State :=
  s.modKeybed (fun b => { b with
    setup := true, scan := [], missed := [],
    keys := Bank.all 128 { a := Contact.open_, b := Contact.open_, sounding := false, mute := false } })

/-- KB_CTRL written: DEBOUNCE, of which 0 is reserved, and EN (R376). -/
def State.kbCtrl (s : State) (v : Word) : State :=
  let bad := bits v 3 0 == 0
  let s1 := s.modKeybed (fun b =>
    { b with debounce := if bad then b.debounce else BitVec.ofNat 4 (bits v 3 0), en := v.getLsbD 5 })
  if bad then s1.regRejected 0x38000C else s1

/-! ### Character ports (R361 to R368) -/

/-- A character port changed, with its two sources. -/
def State.updUart (s : State) (n : Nat) (f : UartState → UartState) : State :=
  (s.modUarts (fun b => b.upd n f)).settleAll [768 + 2 * n, 769 + 2 * n]

/-- The mode of a port; none when no record configures it. -/
def State.uartMode (s : State) (n : Nat) : Option UartMode := (s.uartRec n).map (fun r => r.2.mode)

/-- The reversed and inverted byte of a character read under the direct convention (R367). -/
def inverseChar (c : Nat) : Nat := 255 - (List.range 8).foldl (fun a i => a + (c / 2 ^ i % 2) * 2 ^ (7 - i)) 0

/-- The bits of a character that a mode has. -/
def UartState.charBits (u : UartState) : UartMode → Nat
  | .midi | .card => 8
  | .panel9 => 9
  | .async => bits u.fmt 3 0

/-- A character as U_RXn shows it, without OVR: a framing error of an all-zero character is a break (R362, R377). -/
def rxWord (data : Nat) (c : RxChar) : Word :=
  w32 (data + flag c.noise 17 + flag c.framing 18 + flag c.parity 19 + flag (c.framing && data == 0) 20)

/-- A character stored, or dropped by a full queue (R363). -/
def UartState.store (u : UartState) (trigger : Nat) (e : Word) : UartState :=
  if 16 ≤ u.rx.length then { u with ovr := true, ovrCnt := errCount u.ovrCnt 1 }
  else
    let e1 := if u.ovr then e ||| 0x10000#32 else e
    let flagged := e1 >>> 16 != 0#32
    let s1 := if flagged then u.stat ||| 4#7 else u.stat
    { u with rx := u.rx ++ [e1], ovr := false, errCnt := if flagged then errCount u.errCnt 1 else u.errCnt,
             stat := if trigger ≤ u.rx.length + 1 then s1 ||| 1#7 else s1 }

/-- What a MIDI parser gives for one character: its state, the messages presented, and the drops and discards (R364). -/
structure MidiStep where
  u : UartState
  out : List Msg
  lost : Nat

/-- Data bytes that follow a status byte. -/
def midiLength (st : Nat) : Nat :=
  if st < 0xC0 then 2 else if st < 0xE0 then 1 else if st < 0xF0 then 2 else if st = 0xF2 then 2
  else if st = 0xF1 ∨ st = 0xF3 then 1 else 0

/-- A message in progress cut off: it is discarded and counted. -/
def UartState.cutOff (u : UartState) : UartState × Nat :=
  ({ u with parts := [], sysex := none, sysexStarted := false }, if u.parts.isEmpty && u.sysex.isNone then 0 else 1)

/-- A whole message leaves the parser. -/
def UartState.whole (u : UartState) : MidiStep :=
  { u := { u with parts := [] }, out := [midiMsg 0 (u.parts.getD 0 0#8) (u.parts.getD 1 0#8) (u.parts.getD 2 0#8)], lost := 0 }

/-- A data byte. -/
def UartState.midiData (u : UartState) (b : Byte) : MidiStep :=
  match u.sysex with
  | some d =>
    if d.length < 6 then { u := { u with sysex := some (d ++ [b]) }, out := [], lost := 0 }
    else { u := { u with sysex := some [b], sysexStarted := true }, out := [sysexUmp 0 (if u.sysexStarted then 2 else 1) d], lost := 0 }
  | none =>
    let head := if u.parts.isEmpty then u.running.toList else u.parts
    match head with
    | [] => { u := u, out := [], lost := 1 }
    | st :: _ =>
      let l := head ++ [b]
      if l.length = midiLength st.toNat + 1 then { u with parts := l }.whole else { u := { u with parts := l }, out := [], lost := 0 }

/-- A status byte other than a real-time one. -/
def UartState.midiStatus (u : UartState) (b : Byte) : MidiStep :=
  let v := b.toNat
  if v = 0xF7 then
    match u.sysex with
    | some d =>
      { u := { u with sysex := none, sysexStarted := false, running := none }, lost := 0,
        out := [sysexUmp 0 (if u.sysexStarted then 3 else 0) d] }
    | none =>
      let r := u.cutOff
      { u := { r.1 with running := none }, out := [], lost := r.2 + 1 }
  else
    let r := u.cutOff
    if v < 0xF0 then { u := { r.1 with running := some b, parts := [b] }, out := [], lost := r.2 }
    else if v = 0xF0 then { u := { r.1 with running := none, sysex := some [] }, out := [], lost := r.2 }
    else if v = 0xF6 then
      let w := { r.1 with running := none, parts := [b] }.whole
      { w with lost := r.2 }
    else { u := { r.1 with running := none, parts := [b] }, out := [], lost := r.2 }

/-- One character through the MIDI 1.0 parser (R364). -/
def UartState.parse (u0 : UartState) (e : Word) : MidiStep :=
  let b := byteOf e 0
  let v := b.toNat
  let u := if e.getLsbD 16 then { u0 with running := none, parts := if u0.running.isSome then [] else u0.parts } else u0
  if e.getLsbD 17 || e.getLsbD 18 then
    { u := { u with running := none, parts := if u.running.isSome then [] else u.parts }, out := [], lost := 1 }
  else if v = 0xF4 ∨ v = 0xF5 ∨ v = 0xF9 ∨ v = 0xFD then { u := u, out := [], lost := 1 }
  else if 0xF8 ≤ v then { u := u, out := [midiMsg 0 b 0#8 0#8], lost := 0 }
  else if 0x80 ≤ v then u.midiStatus b
  else u.midiData b

/-- The parser takes one character from the receive queue, while its ingress has room (R130, R364). -/
def State.uartParse (s : State) (n : Nat) : State :=
  let u := s.uarts.get n
  match u.rx with
  | [] => s
  | e :: rest =>
    if ingressMax ≤ (s.front.uarts.get n).length then s
    else
      let r := { u with rx := rest }.parse e
      let u1 := if r.lost = 0 then r.u else { r.u with stat := r.u.stat ||| 32#7, errCnt := errCount r.u.errCnt r.lost }
      (s.updUart n (fun _ => u1)).modFront (fun f =>
        { f with uarts := f.uarts.upd n (fun q => q ++ r.out.map (fun m => plainEvent m 0)) })

/-- The parser of a MIDI port takes what it can; before the first frame after a wake it takes nothing (R368). -/
def State.uartPump (s : State) (n : Nat) : State :=
  if s.uartMode n == some .midi && s.portsRun && (s.time.framesRun || s.dev.phase == .parked) then
    (List.range 16).foldl (fun s _ => s.uartParse n) s
  else s

/-- The receive trigger level of a port. -/
def State.uartTrigger (s : State) (n : Nat) : Nat := match s.uartRec n with
  | some (_, r) => r.trigger
  | none => 16

/-- The match value of a port. -/
def State.uartMatch (s : State) (n : Nat) : Nat := match s.uartRec n with
  | some (_, r) => r.matchVal
  | none => 0

/-- A character of a CARD port: errors signalled up to RETRY in a row, the convention, and the store (R367). -/
def State.cardChar (s : State) (n : Nat) (c : RxChar) : State :=
  let u := s.uarts.get n
  if !u.tx.isEmpty then s
  else if c.parity && decide (u.rxRun < bits u.card 22 20) then
    (s.updUart n (fun u => { u with rxRun := u.rxRun + 1 })).emit (.uartError n)
  else
    let v := c.data.toNat % 256
    let auto := u.card.getLsbD 23 && u.firstAfterRst
    let inv := if auto && v == 0x3B then false else if auto && v == 3 then true else u.inverse
    let d := if inv then inverseChar v else v
    s.updUart n (fun u =>
      { u with inverse := inv, firstAfterRst := false, rxRun := if c.parity then u.rxRun else 0 }.store (s.uartTrigger n) (rxWord d c))

/-- A character of a PANEL9 port with AFILT: stored after an address that matches (R365). -/
def State.panelChar (s : State) (n : Nat) (c : RxChar) : State :=
  let u := s.uarts.get n
  let address := c.data.getLsbD 8
  let hit := if address then c.data.toNat == s.uartMatch n else u.addressed
  let u1 := { u with addressed := hit }
  s.updUart n (fun _ => if hit || !u.afilt then u1.store (s.uartTrigger n) (rxWord c.data.toNat c) else u1)

/-- A character that the dormant receiver holds after a match, up to 8 in all (R368). -/
def UartState.hold (u : UartState) (e : Word) : UartState :=
  if 8 ≤ u.dorm.length then { u with dormOvr := true } else { u with dorm := u.dorm ++ [e] }

/-- UART_RX_CHAR: one character completed on a line. -/
def State.uartRxChar (s : State) (n : Nat) (c : RxChar) : State :=
  let u := s.uarts.get n
  match s.uartMode n with
  | none => s
  | some m =>
    if s.dev.phase == .dormantK || s.dev.phase == .dormantL then
      if u.dorm.isEmpty then s else s.updUart n (fun u => u.hold (rxWord (c.data.toNat % 2 ^ u.charBits m) c))
    else if !s.portsRun || !u.en then s
    else match m with
      | .card => s.cardChar n c
      | .panel9 => s.panelChar n c
      | _ => (s.updUart n (fun u => u.store (s.uartTrigger n) (rxWord (c.data.toNat % 2 ^ u.charBits m) c))).uartPump n

/-- UART_RX_CHAR. -/
def execUartRxChar (n : Fin 8) (c : RxChar) (s : State) : Res := .next (s.uartRxChar n c)

/-- UART_RX_IDLE: the line has been idle for 4 character times with the fill below the trigger (R363). -/
def execUartRxIdle (n : Fin 8) (s : State) : Res :=
  let fill := (s.uarts.get n).rx.length
  .next (if s.portsRun && decide (1 ≤ fill) && decide (fill < s.uartTrigger n) then
    s.updUart n (fun u => { u with stat := u.stat ||| 2#7 })
  else s)

/-- A read of U_RXn: the oldest character, removed; 0 in MIDI mode (R364, R377). -/
def State.uartRead (s : State) (n : Nat) : State × Word :=
  if s.uartMode n == some .midi then (s, 0#32)
  else match (s.uarts.get n).rx with
    | [] => (s, 0#32)
    | e :: rest => (s.updUart n (fun u => { u with rx := rest }), e ||| 0x80000000#32)

/-- UART_RX_READ. -/
def execUartRxRead (t n : Fin 8) (s : State) : Res :=
  .next (s.access t (0x390010 + 0x100 * n) false (s.periphOwner pcUart n == some t.val) (fun s =>
    (s.uartRead n).1.emit (.regRead t (s.uartRead n).2)))

/-- U_TXn written: queued, or TX_OVF (R363). -/
def State.uartWrite (s : State) (n : Nat) (v : Word) : State :=
  s.updUart n (fun u =>
    if 16 ≤ u.tx.length then { u with stat := u.stat ||| 64#7 } else { u with tx := u.tx ++ [v.setWidth 9] })

/-- UART_TX_WRITE. -/
def execUartTxWrite (t n : Fin 8) (v : Word) (s : State) : Res :=
  .next (s.access t (0x390014 + 0x100 * n) true (s.periphOwner pcUart n == some t.val) (fun s => s.uartWrite n v))

/-- The character at the front of the transmit queue leaves it. -/
def UartState.txPop (u : UartState) : UartState :=
  { u with tx := u.tx.drop 1, txRun := 0, stat := if u.tx.length ≤ 1 then u.stat ||| 8#7 else u.stat }

/-- UART_TX_CHAR: a character has gone out; in CARD mode an error signal repeats it up to RETRY times and then drops it with
TX_FAIL (R367). -/
def State.uartTxChar (s : State) (n : Nat) (error : Bool) : State :=
  let u := s.uarts.get n
  match u.tx, s.uartMode n with
  | c :: _, some m =>
    if !s.portsRun || !u.en then s
    else
      let s1 := s.emit (.uart n c)
      if m == .card && error then
        if u.txRun < bits u.card 22 20 then s1.updUart n (fun u => { u with txRun := u.txRun + 1 })
        else s1.updUart n (fun u => { u.txPop with stat := u.txPop.stat ||| 16#7 })
      else s1.updUart n UartState.txPop
  | _, _ => s

/-- UART_TX_CHAR. -/
def execUartTxChar (n : Fin 8) (error : Bool) (s : State) : Res := .next (s.uartTxChar n error)

/-- A port stopped: both queues flushed (R366; the write counts as the character boundary, DEDUCED, log entry 130). -/
def UartState.stopped (u : UartState) : UartState :=
  { u with rx := [], tx := [], running := none, parts := [], sysex := none, sysexStarted := false, addressed := false, rxRun := 0,
           txRun := 0, ovr := false }

/-- U_CTRLn written: EN, AUX and AFILT; clearing EN stops the port, and a rise of RST awaits a convention (R365 to R367). -/
def State.uartCtrl (s : State) (n : Nat) (v : Word) : State :=
  s.updUart n (fun u =>
    let u1 := if u.en && !v.getLsbD 0 then u.stopped else u
    { u1 with en := v.getLsbD 0, aux := v.getLsbD 1, afilt := v.getLsbD 2,
              addressed := u1.addressed && u.afilt, firstAfterRst := (!u.aux && v.getLsbD 1) || (u1.firstAfterRst && v.getLsbD 1) })

/-- U_CTRL_WRITE. -/
def execUCtrlWrite (t n : Fin 8) (v : Word) (s : State) : Res :=
  .next (s.access t (0x39000C + 0x100 * n) true (s.periphOwner pcUart n == some t.val) (fun s => s.uartCtrl n v))

/-- U_FMTn written: 5 to 9 data bits and parity 0 to 2; others are reserved. While EN is 1 the write is ignored with ES1004 (R366). -/
def State.uartFmt (s : State) (n : Nat) (v : Word) : State :=
  let u := s.uarts.get n
  let ofs := 0x390008 + 0x100 * n
  if u.en then s.regRejected ofs
  else
    let badBits := decide (bits v 3 0 < 5) || decide (9 < bits v 3 0)
    let badPar := bits v 5 4 == 3
    let f := (if badBits then bits u.fmt 3 0 else bits v 3 0) + fld (if badPar then bits u.fmt 5 4 else bits v 5 4) 4 +
      flag (v.getLsbD 6) 6
    let s1 := s.updUart n (fun u => { u with fmt := BitVec.ofNat 7 f })
    if badBits || badPar then s1.regRejected ofs else s1

/-- U_CARDn written: FD 8 to 2,048 and GUARD 0 to 254; others are reserved (R366, R367). -/
def State.uartCard (s : State) (n : Nat) (v : Word) : State :=
  let u := s.uarts.get n
  let ofs := 0x39001C + 0x100 * n
  if u.en then s.regRejected ofs
  else
    let badFd := decide (bits v 11 0 < 8) || decide (2048 < bits v 11 0)
    let badGuard := bits v 19 12 == 255
    let w := (if badFd then bits u.card 11 0 else bits v 11 0) + fld (if badGuard then bits u.card 19 12 else bits v 19 12) 12 +
      fld (bits v 23 20) 20
    let s1 := s.updUart n (fun u => { u with card := w32 w })
    if badFd || badGuard then s1.regRejected ofs else s1

/-- U_FMT_WRITE: a write of U_FMTn, or with card of U_CARDn. -/
def execUFmtWrite (t n : Fin 8) (card : Bool) (v : Word) (s : State) : Res :=
  .next (s.access t ((if card then 0x39001C else 0x390008) + 0x100 * n) true (s.periphOwner pcUart n == some t.val)
    (fun s => if card then s.uartCard n v else s.uartFmt n v))

/-- The level of Un_AUX (Table 2): low in MIDI mode, the driver enable while PANEL9 transmits, RTS in ASYNC mode, which is low while the receive
queue has 4 or more free entries, and the card's RST. -/
def State.uartAuxLevel (s : State) (n : Nat) (m : UartMode) : Bool :=
  let u := s.uarts.get n
  match m with
  | .midi => false
  | .panel9 => u.en && !u.tx.isEmpty
  | .async => decide (12 < u.rx.length)
  | .card => u.aux

/-- The ports of the tenancies for which p holds configured: reset, with the record's convention (R366, R367). -/
def State.uartLoad (s : State) (p : Nat → Bool) : State :=
  s.modUarts (fun b => b.mapi (fun n u => match s.uartRec n with
    | some (t, r) => if p t then { UartState.reset with inverse := r.inverse } else u
    | none => if (match s.periphOwner pcUart n with | some t => p t | none => true) then UartState.reset else u))

/-! ### I2C controllers (R369 to R371) -/

/-- An I2C controller changed, with its two sources. -/
def State.updI2c (s : State) (c : Nat) (f : I2cState → I2cState) : State :=
  (s.modI2c (fun b => b.upd c f)).settleAll [784 + 2 * c, 785 + 2 * c]

/-- Whether the entry under way reads. -/
def i2cReads (cmd : Word) : Bool := cmd.getLsbD 7

/-- The bytes an entry counts. -/
def i2cCount (cmd : Word) : Nat := bits cmd 15 8

/-- Bytes from the transmit FIFO flow into the written entry under way. -/
def State.i2cFlow (s : State) (c : Nat) : State :=
  let x := s.i2c.get c
  match x.cmds with
  | [] => s
  | cmd :: _ =>
    if !x.ready || i2cReads cmd then s
    else
      let n := min x.txf.length (i2cCount cmd - x.sent)
      if n = 0 then s
      else (s.updI2c c (fun x => { x with txf := x.txf.drop n, sent := x.sent + n })).emit (.i2c c cmd (x.txf.take n))

/-- The entry under way is over, with status bits; stop says that the bus is free after it. The next entry begins. -/
def State.i2cEnd (s : State) (c : Nat) (st : BitVec 6) (stop : Bool) : State :=
  (s.updI2c c (fun x => { x with cmds := x.cmds.drop 1, sent := 0, held := [], ending := false, busHeld := !stop, stat := x.stat ||| st })).i2cFlow c

/-- Received bytes enter the FIFO while it has room; the entry ends when all are in (R369). -/
def State.i2cFill (s : State) (c : Nat) : State :=
  let x := s.i2c.get c
  let n := min x.held.length (16 - x.rxf.length)
  let s1 := s.updI2c c (fun x => { x with rxf := x.rxf ++ x.held.take n, held := x.held.drop n })
  if x.ending && decide (x.held.length ≤ n) then
    s1.i2cEnd c 1#6 (match x.cmds with | cmd :: _ => cmd.getLsbD 16 | [] => true)
  else s1

/-- I2C_CMDc written: queued; a count of 0, and a full queue, are ignored with ES1004 (R378). -/
def State.i2cCmd (s : State) (c : Nat) (v : Word) : State :=
  if i2cCount v = 0 ∨ 4 ≤ (s.i2c.get c).cmds.length then s.regRejected (0x398008 + 0x100 * c)
  else (s.updI2c c (fun x => { x with cmds := x.cmds ++ [v &&& 0x1FFFF#32] })).i2cFlow c

/-- I2C_CMD_WRITE. -/
def execI2cCmdWrite (t : Fin 8) (c : Fin 2) (v : Word) (s : State) : Res :=
  .next (s.access t (0x398008 + 0x100 * c) true (s.periphOwner pcI2c c == some t.val) (fun s => s.i2cCmd c v))

/-- I2C_DATAc written: a byte for the transmit FIFO, lost when that is full. -/
def State.i2cPut (s : State) (c : Nat) (v : Word) : State :=
  (s.updI2c c (fun x => if x.txf.length < 16 then { x with txf := x.txf ++ [byteOf v 0] } else x)).i2cFlow c

/-- I2C_DATA_WRITE. -/
def execI2cDataWrite (t : Fin 8) (c : Fin 2) (v : Word) (s : State) : Res :=
  .next (s.access t (0x39800C + 0x100 * c) true (s.periphOwner pcI2c c == some t.val) (fun s => s.i2cPut c v))

/-- I2C_DATAc read: the oldest received byte with VALID, removed. -/
def State.i2cGet (s : State) (c : Nat) : State × Word :=
  match (s.i2c.get c).rxf with
  | [] => (s, 0#32)
  | b :: rest => ((s.updI2c c (fun x => { x with rxf := rest })).i2cFill c, w32 (b.toNat + 2147483648))

/-- I2C_DATA_READ. -/
def execI2cDataRead (t : Fin 8) (c : Fin 2) (s : State) : Res :=
  .next (s.access t (0x39800C + 0x100 * c) false (s.periphOwner pcI2c c == some t.val) (fun s =>
    (s.i2cGet c).1.emit (.regRead t (s.i2cGet c).2)))

/-- The bus clear of R370 with what it finds. -/
def State.i2cClear (s : State) (c : Nat) (bus : BusClear) : State :=
  match bus with
  | .idle => (s.updI2c c (fun x => { x with en := true, ready := true, busHeld := false })).i2cFlow c
  | .cleared => (s.updI2c c (fun x => { x with en := true, ready := true, busHeld := false, stat := x.stat ||| 32#6 })).i2cFlow c
  | .stuck => s.updI2c c (fun x => { x with en := false, ready := false, stat := x.stat ||| 16#6 })

/-- I2C_CTRLc written: a 1 runs the bus clear, a 0 disables the controller (R378). -/
def State.i2cCtrl (s : State) (c : Nat) (v : Word) (bus : BusClear) : State :=
  if v.getLsbD 0 then s.i2cClear c bus else s.updI2c c (fun x => { x with en := false, ready := false })

/-- I2C_ENABLE. -/
def execI2cEnable (t : Fin 8) (c : Fin 2) (v : Word) (bus : BusClear) (s : State) : Res :=
  .next (s.access t (0x398004 + 0x100 * c) true (s.periphOwner pcI2c c == some t.val) (fun s => s.i2cCtrl c v bus))

/-- I2C_ENTRY_DONE: the entry under way ends whole, with a NACK and STOP, or with its arbitration lost and no STOP (R369, R371). -/
def State.i2cEntryDone (s : State) (c : Nat) (r : I2cResult) : State :=
  let x := s.i2c.get c
  match x.cmds with
  | [] => s
  | cmd :: _ =>
    if !x.ready || x.ending then s
    else match r with
      | .nack _ => s.i2cEnd c 3#6 true
      | .arbLost => s.i2cEnd c 5#6 true
      | .done data =>
        if i2cReads cmd then
          if data.length = i2cCount cmd then
            ((s.emit (.i2c c cmd [])).updI2c c (fun x => { x with held := data, ending := true })).i2cFill c
          else s
        else if x.sent = i2cCount cmd then s.i2cEnd c 1#6 (cmd.getLsbD 16)
        else s

/-- I2C_ENTRY_DONE. -/
def execI2cEntryDone (c : Fin 2) (r : I2cResult) (s : State) : Res := .next (s.i2cEntryDone c r)

/-- I2C_TIMEOUT: the entry and the rest of the queue are discarded and the bus clear runs (R371). -/
def State.i2cTimeout (s : State) (c : Nat) (bus : BusClear) : State :=
  if (s.i2c.get c).cmds.isEmpty || !(s.i2c.get c).ready then s
  else
    (s.updI2c c (fun x =>
      { x with cmds := [], sent := 0, held := [], ending := false, busHeld := false, ready := false, stat := x.stat ||| 8#6 })).i2cClear c bus

/-- I2C_TIMEOUT. -/
def execI2cTimeout (c : Fin 2) (bus : BusClear) (s : State) : Res := .next (s.i2cTimeout c bus)

/-- How the bus clear of a spawn or COMMIT finds a bus: a free value, since only the board knows (R370). -/
def freeBus (k : Nat) : BusClear :=
  match (Config.freeWord k).toNat % 3 with
  | 0 => .idle
  | 1 => .cleared
  | _ => .stuck

/-- The controllers of the tenancies for which p holds configured, each running its bus clear (R370). -/
def State.i2cLoad (s : State) (p : Nat → Bool) : State :=
  (List.range 2).foldl (fun s c =>
    match s.i2cRec c with
    | some (t, _) =>
      if p t then ((s.modI2c (fun b => b.put c I2cState.reset)).i2cClear c (freeBus s.free)).modFree (· + 1) else s
    | none =>
      if (match s.periphOwner pcI2c c with | some t => p t | none => true) then s.modI2c (fun b => b.put c I2cState.reset) else s) s

/-! ### The boot-flash controller (R373, R379) -/

/-- FL_CTRL written: RELEASE. -/
def State.flCtrl (s : State) (v : Word) : State := s.modFlash (fun f => { f with released := v.getLsbD 0 })

/-- FL_CTRL_WRITE. -/
def execFlCtrlWrite (t : Fin 8) (v : Word) (s : State) : Res :=
  .next (s.access t 0x39C004 true (t == 0) (fun s => s.flCtrl v))

/-- FL_RADDR written: a word read starts; ignored with ES1004 while released, or where the address is no multiple of 4. -/
def State.flRaddr (s : State) (v : Word) : State :=
  if s.flash.released || v.toNat % 4 != 0 then s.regRejected 0x39C008
  else (s.modFlash (fun f => { f with busy := true, addr := v })).emit (.flashRead v)

/-- FL_RADDR_WRITE. -/
def execFlRaddrWrite (t : Fin 8) (v : Word) (s : State) : Res :=
  .next (s.access t 0x39C008 true (t == 0) (fun s => s.flRaddr v))

/-- FL_READ_DONE: the word is ready, or DS gave no edge (R372, R379). -/
def execFlReadDone (data : Option Word) (s : State) : Res :=
  .next (if s.flash.busy then
    s.modFlash (fun f => { f with busy := false, dsTimeout := data.isNone, rdata := data.getD f.rdata })
  else s)

end Sys2Proof.Machine
end

