-- ==== Sys2Proof/Machine/Front.lean ====
section
/-! DEFINITION. The event front (R130 to R138), the reflex table and the short commands (R112 to R116, R120). -/

namespace Sys2Proof.Machine

/-! ### Ingress queues (Table 1 of chapter 06) -/

/-- The code of an ingress. -/
def ingressCode : Ingress → Nat
  | .keybed => 0 | .uart n => 1 + n | .usb1 => 0x10 | .usb2 => 0x11 | .host _ => 0x20 | .timers => 0x30 | .sensors => 0x31
  | .reflex _ => 0x40 | .adeder => 0x50

/-- The queue of an ingress. -/
def FrontState.queue (f : FrontState) : Ingress → List RawEvent
  | .keybed => f.keybed | .uart n => f.uarts.get n | .usb1 => f.usb1 | .usb2 => f.usb2 | .host n => f.host.get n
  | .timers => f.timers | .sensors => f.sensors | .reflex n => f.reflex.get n | .adeder => f.adeder

/-- An ingress queue without its oldest event. -/
def FrontState.pop (f : FrontState) : Ingress → FrontState
  | .keybed => { f with keybed := f.keybed.drop 1 }
  | .uart n => { f with uarts := f.uarts.upd n (fun q => q.drop 1) }
  | .usb1 => { f with usb1 := f.usb1.drop 1 }
  | .usb2 => { f with usb2 := f.usb2.drop 1 }
  | .host n => { f with host := f.host.upd n (fun q => q.drop 1) }
  | .timers => { f with timers := f.timers.drop 1 }
  | .sensors => { f with sensors := f.sensors.drop 1 }
  | .reflex n => { f with reflex := f.reflex.upd n (fun q => q.drop 1) }
  | .adeder => { f with adeder := f.adeder.drop 1 }

/-- The tenancy to whose routes alone an ingress is offered; none is every tenancy. -/
def ingressOnly (e : RawEvent) : Ingress → Option Nat
  | .keybed | .uart _ => none
  | .host n | .reflex n => some n
  | .usb1 | .usb2 | .timers | .sensors | .adeder => some e.ten

/-! ### Normalising (R133, R134) -/

/-- Table 3: 7 to 16 bits. -/
def up7to16 (v : Nat) : Nat := let r := v % 64; if v ≤ 64 then v * 512 else (v * 512) ||| (r * 8) ||| (r / 8)

/-- Table 3: 7 to 32 bits. -/
def up7to32 (v : Nat) : Nat :=
  let r := v % 64
  if v ≤ 64 then v * 2 ^ 25 else (v * 2 ^ 25) ||| (r * 2 ^ 19) ||| (r * 2 ^ 13) ||| (r * 2 ^ 7) ||| (r * 2) ||| (r / 32)

/-- Table 3: 14 to 32 bits. -/
def up14to32 (v : Nat) : Nat :=
  let r := v % 8192
  if v ≤ 8192 then v * 2 ^ 18 else (v * 2 ^ 18) ||| (r * 32) ||| (r / 256)

/-- A normalised event: its body, whether it is a channel-voice message, the fields that routes and rules match, and the value v of
R113, none where the manual gives none. -/
structure NormEvent where
  w0 : Word
  w1 : Word
  voice : Bool
  group : Nat
  channel : Nat
  status : Nat
  data1 : Nat
  value : Option F32
deriving DecidableEq, Repr, Inhabited

/-- UMP word 0 of a MIDI 2.0 channel-voice packet. -/
def ump4 (group status channel index : Nat) : Word := w32 (fld 4 28 + fld group 24 + fld status 20 + fld channel 16 + fld index 8)

/-- A MIDI 1.0 channel message as a MIDI 2.0 packet (R134). A note-on with velocity 0 is a note-off. -/
def normMidi1 (group st d1 d2 : Nat) : NormEvent :=
  let ch := st % 16
  let mk (status index v : Nat) (value : Option F32) : NormEvent :=
    { w0 := ump4 group status ch index, w1 := w32 v, voice := true, group := group, channel := ch, status := status * 16 + ch,
      data1 := d1, value := value }
  match st / 16 with
  | 8 => mk 8 d1 (up7to16 d2 * 65536) (some 0#32)
  | 9 => if d2 = 0 then mk 8 d1 0x80000000 (some 0#32) else mk 9 d1 (up7to16 d2 * 65536) (some (gRatio d2 127))
  | 10 => mk 10 d1 (up7to32 d2) (some (gRatio d2 127))
  | 11 => mk 11 d1 (up7to32 d2) (some (gRatio d2 127))
  | 12 => mk 12 0 (d1 * 2 ^ 24) none
  | 13 => mk 13 0 (up7to32 d1) none
  | _ => mk 14 0 (up14to32 (d1 + 128 * d2)) (some (gRatio (d1 + 128 * d2 : Nat) 16383))

/-- A MIDI 2.0 channel-voice packet, which passes unchanged. -/
def normMidi2 (w0 w1 : Word) : NormEvent :=
  let st := bits w0 23 20
  { w0 := w0, w1 := w1, voice := true, group := bits w0 27 24, channel := bits w0 19 16, status := bits w0 23 16,
    data1 := if st = 12 ∨ st = 13 ∨ st = 14 then 0 else bits w0 15 8,
    value := some (if st = 8 then 0#32 else if st = 9 then gRatio (bits w1 31 16) 65535 else gRatio w1.toNat 4294967295) }

/-- Any other packet: a system message of type 0x1, system exclusive data of type 0x3, or what neither pools nor the rules of R112
give a status. -/
def normOther (w0 w1 : Word) : NormEvent :=
  let type := bits w0 31 28
  let wide := !(type == 0 || type == 1 || type == 6 || type == 7)
  { w0 := w0, w1 := if wide then w1 else 0#32, voice := false, group := bits w0 27 24, channel := 0,
    status := if type = 1 then bits w0 23 16 else if type = 3 then 0xF0 else 0,
    data1 := if type = 1 then bits w0 15 8 else 0,
    value := if type = 1 ∧ bits w0 23 16 = 0xF2 then some (gRatio (bits w0 6 0) 127) else none }

/-- The normalised form of a message. -/
def Msg.norm : Msg → NormEvent
  | .midi1 g st d1 d2 =>
    if 0xF0 ≤ st.toNat then normOther (w32 (fld 1 28 + fld g 24 + fld st.toNat 16 + fld d1.toNat 8 + d2.toNat)) 0#32
    else normMidi1 g (st.toNat % 128 + 128) (d1.toNat % 128) (d2.toNat % 128)
  | .ump w0 w1 =>
    match bits w0 31 28 with
    | 4 => normMidi2 w0 w1
    | 2 => if bits w0 23 20 = 15 ∨ bits w0 23 20 < 8 then normOther w0 0#32
      else normMidi1 (bits w0 27 24) (bits w0 23 16) (bits w0 14 8) (bits w0 6 0)
    | _ => normOther w0 w1

/-! ### The event word (R133) -/

/-- The header of an event word (Table 2). -/
def EventWord.header (e : EventWord) : DWord :=
  w64 (e.time.toNat % 2 ^ 44 + fld e.src.toNat 44 + fld e.ten 52 + fld (if e.tapOnly then 0 else e.pool) 55 + flag e.sched 60 +
    flag e.fold 61 + flag e.mirror 62 + flag e.tapOnly 63)

/-- The event word, header first (R133). -/
def EventWord.words (e : EventWord) : List Word := [lo32 e.header, hi32 e.header, e.w0, e.w1]

/-! ### Where copies go (R136 to R138) -/

/-- Whether the device is the follower of a pair. -/
def State.follows (s : State) : Bool := s.inPair && !s.pair.forwarder

/-- Whether a tenancy takes no events (R52, R54, R96): unspawned, halting, or respawning from QUIESCE to COMMIT. -/
def State.muted (s : State) (n : Nat) : Bool :=
  let x := s.ten.get n
  !x.spawned || (match x.halt with
    | some h => h.started
    | none => false) ||
    (match x.respawn with
    | some r => r.quiesced && r.phase != .waitPermit
    | none => false)

/-- Whether a route matches an event of an ingress (R136). A mirrored event is offered to the routes of source 0x50 of its tenancy
and pool; on a follower nothing else is offered (R401). -/
def State.routeMatches (s : State) (g : Ingress) (e : RawEvent) (x : NormEvent) (n : Nat) (r : RouteRec) : Bool :=
  let offered := match e.mirror with
    | some m => s.follows && n == e.ten && r.pool == m.pool
    | none => !s.follows && (match ingressOnly e g with
      | none => true
      | some k => k == n)
  offered && r.source == ingressCode g && (r.group == 255 || r.group == x.group) && (!x.voice || r.channels.testBit x.channel)

/-- The route i that an event is offered to: that of the applied configuration, or one that an unspawned tenancy had (log entry 106). -/
def State.routeOffered (s : State) (i : Nat) : Option (Nat × RouteRec) :=
  match s.routeRec i with
  | some r => some r
  | none => (List.range 8).findSome? (fun n =>
      ((s.ten.get n).keptRoutes.find? (fun r => r.route == i && !s.spawned n)).map (fun r => (n, r)))

/-- The matching routes in ascending number, the first of those that name the same pool. -/
def State.matching (s : State) (g : Ingress) (e : RawEvent) (x : NormEvent) : List (Nat × RouteRec) :=
  let all := (List.range 64).filterMap (fun i => (s.routeOffered i).filter (fun r => s.routeMatches g e x r.1 r.2))
  all.foldl (fun acc r => if r.2.pool != 255 && acc.any (fun a => a.2.pool == r.2.pool) then acc else acc ++ [r]) []

/-- The master channel of a folding route (R138). -/
def RouteRec.master (r : RouteRec) : Nat := ((List.range 16).find? (fun c => r.channels.testBit c)).getD 0

/-- A drop for a muted tenancy; the first of each respawn raises ES1008 + n (R59, R137). -/
def State.dropFor (s : State) (n : Nat) : State :=
  let x := s.ten.get n
  let first := x.respawn.isSome && !x.dropSeen
  let s1 := s.modTen (fun b => b.upd n (fun x => { x with drop := errCount x.drop 1, dropSeen := x.dropSeen || first }))
  if first then s1.pulse (1008 + n) 0#32 else s1

/-- The ticks of 10 ns that the pair guard takes from a frame: 1.5 µs, and the 40 ns from acceptance to commit (R148, R401). -/
def pairGuard : Nat := 154

/-- The frame at which an event accepted now is rendered on a device in a pair (R401), by the nominal frame period. -/
def State.guardFrame (s : State) : DWord :=
  if (s.now.toNat + pairGuard - s.time.frameTime.toNat) * s.fs ≤ 100000000 then s.time.frameIdx + 1#64
  else s.time.frameIdx + 2#64

/-- One copy delivered (R136, R137): counted, traced, forwarded to the partner, recorded in the tap, and put into its pool's lane. DEDUCED:
a copy that no pool takes (R134) is TAP_ONLY whatever its route names (log entry 99). -/
def State.deliverCopy (s : State) (base : EventWord) (x : NormEvent) (n : Nat) (r : RouteRec) : State :=
  if s.muted n then s.dropFor n
  else
    let e := { base with ten := n, pool := if r.pool = 255 then 0 else r.pool, tapOnly := r.pool == 255 || !x.voice,
                         fold := r.fold && x.voice && x.channel != r.master }
    let s1 := ((s.modFront (fun f => { f with hits := f.hits.upd r.route (fun k => errCount k 1) })).count n 13 0 1).trace 2 (some n) 0
      (lo32 s.now :: e.words)
    let toPool := x.voice && !e.tapOnly
    let s2 := match e.render with
      | some d => if toPool && s.pair.forwarder then s1.adederSend 3 (e.words ++ [lo32 d, hi32 d]) else s1
      | none => s1
    let t := s.front.tap.get n
    let w := bits t 7 0
    let tapped := t.getLsbD 8 && (match s.wellRec w with
      | some (m, k) => m == n && k.type == .evt
      | none => false)
    let s3 := if tapped then s2.postEvt w 1 e.words else s2
    if toPool then s3.modPools (fun b => b.upd r.pool (fun p => { p with lane := p.lane ++ [e] })) else s3

/-! ### The reflex table (R112, R113) -/

/-- Whether a rule matches. -/
def ReflexRec.hits (r : ReflexRec) (src : Nat) (x : NormEvent) : Bool :=
  r.source == src && (r.status == 0xFF || r.status == x.status) && decide (r.lo ≤ x.data1) && decide (x.data1 ≤ r.hi)

/-- A fired rule: a long operation is submitted, a short command queued, 64 per tenancy. -/
def State.fire (s : State) (n : Nat) (idx : Nat) (r : ReflexRec) (v : F32) : State :=
  if r.opcode < 0x40 then s.submitCode n r.opcode ((Bank.all 8 0#32).put 0 r.arg0 |>.put 1 r.arg1) .reflex
  else
    s.modQports (fun b => b.upd n (fun q =>
      if q.reflexQ.length < 64 then
        { q with reflexQ := q.reflexQ ++ [{ opcode := BitVec.ofNat 8 r.opcode, arg0 := r.arg0, arg1 := r.arg1, value := v, rule := idx }] }
      else { q with reflexDrop := errCount q.reflexDrop 1 }))

/-- Every matching rule of tenancy n in ascending order. -/
def State.reflexes (s : State) (n src : Nat) (x : NormEvent) (v : F32) : State :=
  (s.tcfg n).reflex.zipIdx.foldl (fun s r => if r.1.hits src x then s.fire n r.2 r.1 v else s) s

/-! ### Acceptance -/

/-- An event offered to the routes: its rules fire, then its copies are delivered in ascending route number (R112, R136). -/
def State.offer (s : State) (g : Ingress) (e : RawEvent) (time : DWord) (sched : Bool) (render : Option DWord) : State :=
  let x := e.msg.norm
  let rs := s.matching g e x
  if rs.isEmpty then s.modFront (fun f => { f with unrouted := errCount f.unrouted 1 })
  else
    let v := match e.value with
      | some v => v
      | none => x.value.getD (Config.freeWord s.free)
    let s0 := if e.value.isNone && x.value.isNone then s.modFree (· + 1) else s
    let tens := (List.range 8).filter (fun n => rs.any (fun r => r.1 == n) && !s.muted n)
    let s1 := if ingressCode g = 0x40 then s0 else tens.foldl (fun s n => s.reflexes n (ingressCode g) x v) s0
    let base : EventWord := { time := time, sched := sched, src := BitVec.ofNat 8 (ingressCode g), ten := 0, pool := 0, fold := false,
                              mirror := e.mirror.isSome, tapOnly := false, w0 := x.w0, w1 := x.w1, render := render }
    rs.foldl (fun s r => s.deliverCopy base x r.1 r.2) s1

/-- An event into its tenancy's schedule queue (R135): 256 events in order of play-at, none more than 60 s ahead. -/
def State.schedule (s : State) (g : Ingress) (e : RawEvent) : State :=
  let n := e.ten
  let q := s.front.sched.get n
  if 256 ≤ q.length ∨ 6000000000 < e.playAt.toNat - s.now.toNat then
    (s.modFront (fun f => { f with schedDrop := f.schedDrop.upd n (fun k => errCount k 1) })).pulse (1008 + n) 0#32
  else
    let x : SchedEvent := { ev := e, src := BitVec.ofNat 8 (ingressCode g) }
    let early := q.filter (fun y => decide (y.ev.playAt.toNat ≤ e.playAt.toNat))
    let late := q.filter (fun y => !decide (y.ev.playAt.toNat ≤ e.playAt.toNat))
    s.modFront (fun f => { f with sched := f.sched.put n (early ++ x :: late) })

/-- Whether events are dropped because the device parks or is parked (K3 of Table 6 of chapter 16). -/
def State.parkDrops (s : State) : Bool := s.dev.phase == .parked || s.supply.parking == some .drain

/-- The render frame of an event accepted now, where the device is in a pair (R401). A mirrored event that is late is rendered from
the guard's frame instead, counted, and unsynchronises the pair. -/
def State.renderOf (s : State) (e : RawEvent) : State × Option DWord :=
  if !s.inPair then (s, none)
  else match e.mirror with
    | none => (s, some s.guardFrame)
    | some m =>
      if s.guardFrame.toNat ≤ m.render.toNat then (s, some m.render)
      else ((s.modPair (fun p => { p with lateEvt := errCount p.lateEvt 1 })).unsync 4, some s.guardFrame)

/-- The sources held back by a full queue present what they hold (R130). -/
def State.refill (s : State) : Ingress → State
  | .keybed => s.keybedRefill
  | .uart n => s.uartPump n
  | .timers => s.timerRefill
  | _ => s

/-- EVENT_ACCEPT: the oldest event of an ingress accepted in its slot (R130, R131). -/
def State.eventAccept (s : State) (g : Ingress) : State :=
  match s.front.queue g with
  | [] => s
  | e :: _ =>
    let s1 := s.modFront (fun f => f.pop g)
    let s2 := if s.parkDrops then s1.modSupply (fun p => { p with drop := errCount p.drop 1 })
      else if s.now.toNat < e.playAt.toNat then s1.schedule g e
      else let r := s1.renderOf e; r.1.offer g e s.now false r.2
    s2.refill g

/-- EVENT_ACCEPT. -/
def execEventAccept (g : Ingress) (s : State) : Res := .next (if s.dev.phase.hosted then s.eventAccept g else s)

/-- Whether the head of a schedule queue may leave it: its play-at is no later than the next boundary minus 500 ns (R135), by the
nominal frame period. -/
def State.releaseDue (s : State) (e : SchedEvent) : Bool :=
  decide ((e.ev.playAt.toNat + 50 - s.time.frameTime.toNat) * s.fs ≤ 100000000)

/-- SCHEDULED_EVENT_RELEASE: the head of tenancy n's queue, accepted in its slot with SCHED set. -/
def State.schedRelease (s : State) (n : Nat) : State :=
  match s.front.sched.get n with
  | [] => s
  | e :: rest =>
    if s.releaseDue e then
      let s1 := s.modFront (fun f => { f with sched := f.sched.put n rest })
      let g : Ingress := if e.src = 0x40#8 then .reflex (Fin.ofNat 8 n) else .host (Fin.ofNat 8 n)
      let r := s1.renderOf e.ev
      r.1.offer g e.ev e.ev.playAt true r.2
    else s

/-- SCHEDULED_EVENT_RELEASE. -/
def execScheduledEventRelease (n : Fin 8) (s : State) : Res :=
  .next (if s.dev.phase.frames && !s.parkDrops then s.schedRelease n else s)

/-! ### Short commands (R115, R116, R120) -/

/-- The CMD well record of a well with an entry to consume: its tenancy and the address of the entry. The limit of 64 entries is a
frame's; a parked device has no frames, and its wells stay reachable (R20, R120; DEDUCED, log entry 50). -/
def State.cmdEntry (s : State) (w : Nat) : Option (Nat × Nat) :=
  match s.wellRec w with
  | some (n, r) =>
    if s.dev.phase.hosted && r.type == .cmd && (s.wells.get w).fill != 0 && (s.dev.phase == .parked || (s.qports.get n).cmdLeft != 0) then
      some (n, r.entryAt (s.wells.get w).c.toNat)
    else none
  | none => none

/-- The short command of an opcode that waits at an origin, with its tenancy. -/
def State.shortAt (s : State) (o : ShortOrigin) (op : Nat) : Option (Nat × ShortCmd) :=
  match o with
  | .reflex n =>
    if s.dev.phase.hosted then ((s.qports.get n).reflexQ.head?.filter (fun c => c.opcode.toNat == op)).map (fun c => (n.val, c)) else none
  | .well w =>
    match s.cmdEntry w with
    | some (n, a) =>
      if (s.mem.cis.get a).toNat = op then
        some (n, { opcode := s.mem.cis.get a, arg0 := s.mem.cis.word (a + 8), arg1 := s.mem.cis.word (a + 12),
                   value := s.mem.cis.word (a + 16), rule := (Config.freeWord s.free).toNat })
      else none
    | none => none

/-- A CMD entry consumed. -/
def State.cmdTake (s : State) (w n a : Nat) : State :=
  let s1 := (s.noteEcc a 64 false).settleCis a 64
  ((s1.modWells (fun b => b.upd w Well.consumed)).modQports (fun b => b.upd n (fun q => { q with cmdLeft := q.cmdLeft - 1 }))).count n 12 w 1

/-- A short command taken from its origin. -/
def State.shortTake (s : State) (o : ShortOrigin) : State :=
  match o with
  | .reflex n => s.modQports (fun b => b.upd n (fun q => { q with reflexQ := q.reflexQ.drop 1 }))
  | .well w => match s.cmdEntry w with
    | some (n, a) => s.cmdTake w n a
    | none => s

/-- CMD_ERR of well w (R115). -/
def State.cmdErr (s : State) (w : Nat) : State :=
  (s.modWells (fun b => b.upd w (fun x => { x with status := x.status ||| 8#5, cmdErr := errCount x.cmdErr 1 }))).settle (384 + w)

/-- A short command that names a resource its tenancy does not own, or an argument out of range. -/
def State.shortBad (s : State) (o : ShortOrigin) : State :=
  match o with
  | .reflex n => s.modQports (fun b => b.upd n (fun q => { q with reflexDrop := errCount q.reflexDrop 1 }))
  | .well w => s.cmdErr w

/-- Whether an origin is a CMD well. -/
def wellOrigin : ShortOrigin → Bool
  | .well _ => true
  | .reflex _ => false

/-- A short command run: taken, then do_ on its tenancy, which answers none where it must be ignored. -/
def State.short (s : State) (o : ShortOrigin) (op : Nat) (do_ : State → Nat → ShortCmd → Option State) : State :=
  match s.shortAt o op with
  | none => s
  | some (n, c) =>
    let s1 := s.shortTake o
    match do_ s1 n c with
    | some s2 => s2
    | none => s1.shortBad o

/-- A parameter that takes effect at the next frame boundary set by a short command: a reflex command gives way to a CMD well's of the
same frame (R116). -/
def State.ordered (s : State) (n : Nat) (well : Bool) (key : Nat × Nat) (set : State → State) : State :=
  if well then set (s.modQports (fun b => b.upd n (fun q => { q with wellSet := key :: q.wellSet })))
  else if (s.qports.get n).wellSet.contains key then s else set s

/-- Macro m of tenancy n set for the next tick boundary of each structure (R115, R207). -/
def MycTen.setMacro (t : MycTen) (m : Nat) (v : F32) (well : Bool) : MycTen :=
  let one (x : MycStruct) : MycStruct :=
    if well then { x with macrosNext := x.macrosNext.put m v, wellMacros := m :: x.wellMacros }
    else if x.wellMacros.contains m then x else { x with macrosNext := x.macrosNext.put m v }
  { t with structs := t.structs.map one,
           macros := if !well && t.structs.any (fun x => x.wellMacros.contains m) then t.macros else t.macros.put m v }

/-- SET_MACRO. -/
def State.setMacro (s : State) (well : Bool) (n : Nat) (c : ShortCmd) : Option State :=
  let v := gMul c.value c.arg1
  if fIsFinite v then some (s.modMyc (fun b => b.upd n (fun t => t.setMacro (bits c.arg0 1 0) v well))) else none

/-- SET_MACRO. -/
def execSetMacro (o : ShortOrigin) (s : State) : Res := .next (s.short o 0x40 (fun s => s.setMacro (wellOrigin o)))

/-- SET_BUS_GAIN. -/
def State.setBusGain (s : State) (well : Bool) (n : Nat) (c : ShortCmd) : Option State :=
  let b := bits c.arg0 5 0
  let v := gMul c.value c.arg1
  if s.periphOwner pcBus b == some n && gainAllowed v then some (s.ordered n well (0x41, b) (fun s => s.busGain b v)) else none

/-- SET_BUS_GAIN. -/
def execSetBusGain (o : ShortOrigin) (s : State) : Res := .next (s.short o 0x41 (fun s => s.setBusGain (wellOrigin o)))

/-- A pending depth of route r set, and the swap armed, by a short command (R202). -/
def MycStruct.setDepth (x : MycStruct) (r : Nat) (v : F32) (well : Bool) : MycStruct :=
  if well then { x with pend := x.pend.set r v, arm := true, wellDepths := r :: x.wellDepths }
  else if x.wellDepths.contains r then { x with arm := true } else { x with pend := x.pend.set r v, arm := true }

/-- SET_ROUTE_DEPTH. -/
def State.setRouteDepth (s : State) (well : Bool) (n : Nat) (c : ShortCmd) : Option State :=
  let id := bits c.arg0 5 0
  let r := bits c.arg0 14 8
  let v := gMul c.value c.arg1
  if fIsFinite v && (s.myc.get n).structs.any (fun x => x.id == id && decide (r < x.pend.length)) then
    some (s.modMyc (fun b => b.upd n (fun t =>
      { t with structs := t.structs.map (fun x => if x.id == id then x.setDepth r v well else x) })))
  else none

/-- SET_ROUTE_DEPTH. -/
def execSetRouteDepth (o : ShortOrigin) (s : State) : Res := .next (s.short o 0x42 (fun s => s.setRouteDepth (wellOrigin o)))

/-- The bypass target of a chain position from the next frame boundary (R234). -/
def Engine.aimBypass (e : Engine) (pos : Nat) (on : Bool) : Engine :=
  let bit := BitVec.ofNat 64 (2 ^ pos)
  { e with bypNext := if on then e.bypNext ||| bit else e.bypNext &&& ~~~bit, bypMask := e.bypMask ||| bit }

/-- SET_BYPASS. -/
def State.setBypass (s : State) (well : Bool) (n : Nat) (c : ShortCmd) : Option State :=
  let e := bits c.arg0 1 0
  let pos := bits c.arg0 9 4
  if s.engineOwner e == some n && (s.tcfg n).spore.chain.any (fun r => r.engine == e && r.position == pos) then
    some (s.ordered n well (0x43, e * 64 + pos) (fun s => s.modEngines (fun b => b.upd e (fun x => x.aimBypass pos (gLe gHalf c.value)))))
  else none

/-- SET_BYPASS. -/
def execSetBypass (o : ShortOrigin) (s : State) : Res := .next (s.short o 0x43 (fun s => s.setBypass (wellOrigin o)))

/-- EMIT_EVENT: a MIDI 1.0 message enters the tenancy's reflex ingress. -/
def State.emitEvent (s : State) (n : Nat) (c : ShortCmd) : Option State :=
  let st := bits c.arg0 7 0
  if 0x80 ≤ st ∧ bits c.arg0 15 8 < 0x80 ∧ bits c.arg0 23 16 < 0x80 then
    let m := midiMsg 0 (BitVec.ofNat 8 st) (byteOf c.arg0 1) (byteOf c.arg0 2)
    some (s.modFront (fun f => { f with reflex := f.reflex.upd n (fun q => q ++ [plainEvent m n]) }))
  else none

/-- EMIT_EVENT: it waits while the reflex ingress of its tenancy is full (R130). -/
def execEmitEvent (o : ShortOrigin) (s : State) : Res :=
  .next (match s.shortAt o 0x44 with
    | some (n, _) => if (s.front.reflex.get n).length < ingressMax then s.short o 0x44 State.emitEvent else s
    | none => s)

/-- POST_HOST: a REFLEX record to an EVT well of the tenancy (Table 9 of chapter 05). For a command of a CMD well the spec gives no rule
index: it is a free value (DESIGN CHOICE, log entry 98). -/
def State.postHost (s : State) (n : Nat) (c : ShortCmd) : Option State :=
  let w := bits c.arg0 7 0
  match s.wellRec w with
  | some (m, r) => if m = n ∧ r.type = .evt then some ((s.postEvt w 3 [w32 c.rule, c.value]).modFree (· + 1)) else none
  | none => none

/-- POST_HOST. -/
def execPostHost (o : ShortOrigin) (s : State) : Res := .next (s.short o 0x45 State.postHost)

/-! ### EVENT entries of CMD wells (R120) -/

/-- The events of an EVENT entry at address a. DEDUCED: the UMP body is a u64 with UMP word 0 in its upper half, as R133 lays the body out
(log entry 96). -/
def State.entryEvents (s : State) (n a count : Nat) : List RawEvent :=
  (List.range count).map (fun i =>
    let b := a + 16 + 16 * i
    { msg := .ump (s.mem.cis.word (b + 12)) (s.mem.cis.word (b + 8)), playAt := dwordOf (s.mem.cis.word b) (s.mem.cis.word (b + 4)),
      value := none, mirror := none, ten := n })

/-- EVENT: the next entry of a CMD well hands its events to the host ingress; it waits while that lacks room (R130). An entry with a bad
count, or with an opcode that no command has, is consumed with CMD_ERR. -/
def State.eventEntry (s : State) (w : Nat) : State :=
  match s.cmdEntry w with
  | none => s
  | some (n, a) =>
    let op := (s.mem.cis.get a).toNat
    let count := (s.mem.cis.get (a + 1)).toNat
    if 0x40 ≤ op ∧ op ≤ 0x45 then s
    else if op ≠ 1 ∨ count < 1 ∨ 3 < count then (s.cmdTake w n a).cmdErr w
    else if ingressMax < (s.front.host.get n).length + count then s
    else (s.cmdTake w n a).modFront (fun f => { f with host := f.host.upd n (fun q => q ++ s.entryEvents n a count) })

/-- EVENT. -/
def execEvent (w : Fin 256) (s : State) : Res := .next (s.eventEntry w)

end Sys2Proof.Machine
end

