-- ==== Sys2Proof/Machine/Mycelium.lean ====
section
/-! DEFINITION. The mycelium's arithmetic (R189 to R200): curves, route terms, tick ramps and destination values of one voice.
The commands that use it stand in Frame.lean and MycRegs.lean. -/

namespace Sys2Proof.Machine

/-- sign(x) as a factor: -1.0, 0.0 or 1.0. -/
def gSignOf (x : F32) : F32 := if gLt x 0#32 then fMinusOne else if gLt 0#32 x then fOne else 0#32

/-- The curves of Table 2 of chapter 08 (R195). -/
def mycCurve (c : Nat) (x : F32) : F32 :=
  let a := fAbs x
  match c with
  | 0 => x
  | 1 => gMul x a
  | 2 => gMul (gMul x x) x
  | 3 => gMul (gSignOf x) (gSqrt a)
  | 4 => gMul (gSignOf x) (gDiv (gSub (gExp2 (gMul gFour a)) fOne) (gOfInt 15))
  | 5 => gMul (gSignOf x) (gDiv (gLog2 (gAdd fOne (gMul (gOfInt 15) a))) gFour)
  | 6 => gSub (gMul gTwo x) fOne
  | _ => gMul (gAdd x fOne) gHalf

/-- The term of a route on a vector of source values (R195). -/
def mycTerm (r : MycRouteRec) (depth : F32) (srcs : List F32) : F32 :=
  gMul (gMul depth (mycCurve r.curve (srcs.getD r.source 0#32))) (if r.viaEnable then srcs.getD r.via 0#32 else fOne)

/-- The sums of the chosen routes by destination, terms added in route order, and how many terms were NaN (R196). -/
def mycSums (routes : List MycRouteRec) (depths : List F32) (srcs : List F32) (audio : Bool) (n : Nat) :
    List F32 × Nat :=
  let terms := ((routes.zipIdx).filter (fun r => r.1.audioRate == audio)).map
    (fun r => (r.1.dest, mycTerm r.1 (depths.getD r.2 0#32) srcs))
  let nans := (terms.filter (fun t => fIsNaN t.2)).length
  ((List.range n).map (fun d =>
    match (terms.filter (fun t => t.1 == d)).map (fun t => if fIsNaN t.2 then 0#32 else t.2) with
    | [] => 0#32
    | x :: xs => xs.foldl gAdd x), nans)

/-- A destination beyond ±16,777,216 (R196). -/
def mycLimit : F32 := 0x4B800000#32

/-- What a hypha gives one voice in one frame: the voice with its ramp and destination values, NaN terms and clamped
destinations. -/
structure HyphaRes where
  voice : Voice
  nans : Nat
  sats : Nat
deriving Repr, Inhabited

/-- One voice in one frame (R196 to R200). srcs are the source values of the frame; tickDue says that this frame is a tick
boundary F of the structure, of T frames. -/
def hyphaVoice (routes : List MycRouteRec) (depths srcs : List F32) (n T : Nat) (tickDue : Bool) (v : Voice) : HyphaRes :=
  let first := v.frames == 0
  let start := mycSums routes depths srcs false n
  let ramp := decide (v.tickPos < v.tickLen)
  let part := if first then start.1
    else if ramp then
      (v.tickOld.zip v.tickNew).map (fun x =>
        gAdd x.1 (gMul (gSub x.2 x.1) (gRatio (v.tickPos + 1 : Nat) v.tickLen)))
    else v.tickPart
  let part1 := if !first && ramp && v.tickLen == 1 then v.tickNew else part
  let audio := mycSums routes depths srcs true n
  let totals := (part1.zip audio.1).map (fun x => gAdd x.1 x.2)
  let sats := (totals.filter (fun x => gLt mycLimit (fAbs x))).length
  let dest := totals.map (gClamp (fNeg mycLimit) mycLimit)
  let v1 := { v with tickPart := part1, dest := dest }
  let v2 := if tickDue then { v1 with tickOld := part1, tickNew := start.1, tickPos := 0, tickLen := T }
    else { v1 with tickPos := if !first && ramp then v.tickPos + 1 else v.tickPos }
  { voice := v2, nans := audio.2 + (if first || tickDue then start.2 else 0), sats := sats }

/-- The default of a per-note timbre, half of full scale (R192). -/
def timbreDefault : Word := 0x80000000#32

/-- (value - 2^31) / 2^31 (Table 1 of chapter 08). -/
def bendValue (v : Word) : F32 := gRatio ((v.toNat : Int) - 2147483648) 2147483648

/-- value / 4,294,967,295 (Table 1 of chapter 08). -/
def fullValue (v : Word) : F32 := gRatio v.toNat 4294967295

/-- The UNISON source: -1 + 2u/(n - 1), 0.0 outside UNISON mode. -/
def unisonValue (u n : Nat) : F32 := if n < 2 then 0#32 else gRatio (2 * (u : Int) - ((n : Int) - 1)) (n - 1)

/-- The KEY source in octaves from note 60. -/
def keyValue (p : Int) : F32 := gRatio (p - 245760) 49152

end Sys2Proof.Machine
end

