-- ==== Sys2Proof/Machine/Forager.lean ====
section
/-! DEFINITION. The Forager (R138 to R152): the pools' voices, note messages, controllers, allocation, stealing and commit, and the
ends of voices (R140, R142, R149, R150). -/

namespace Sys2Proof.Machine

/-! ### The voices of a pool -/

/-- Where a voice that the Forager sees stands: sounding in its slot, committed to it, or claimed in the pipeline (list and entry). -/
inductive Loc where
  | cur (g k : Nat)
  | next (g k : Nat)
  | claim (i j : Nat)
deriving DecidableEq, Repr

/-- The slot count of a pool's structure. -/
def State.poolSlots (s : State) (r : PoolRec) : Nat := match s.poolStruct r with
  | some st => st.slots
  | none => 0

/-- The slots of a pool: (gill, slot), in ascending order (R157). -/
def State.slotsOf (s : State) (r : PoolRec) : List (Nat × Nat) :=
  (gillsOf r.gills).flatMap (fun g => (List.range (s.poolSlots r)).map (fun k => (g, k)))

/-- Slot k of gill g. -/
def State.slot (s : State) (g k : Nat) : Slot := (s.gills.get g).slots.get k

/-- The slots claimed in the commit pipeline of a pool (R148). -/
def Pool.claimed (p : Pool) : List (Nat × Nat) := p.claims.flatMap (fun l => l.map (fun c => (c.gill, c.slot)))

/-- Whether a slot counts toward occupancy: it holds or awaits a voice, or is among those taken (R146). -/
def State.occupied (s : State) (taken : List (Nat × Nat)) (x : Nat × Nat) : Bool :=
  taken.contains x || (s.slot x.1 x.2).next.isSome || (s.slot x.1 x.2).cur.live

/-- The voice of a slot outside the pipeline: the one committed to it, otherwise the one that sounds. A stolen voice is no longer
seen. -/
def State.slotVoice (s : State) (x : Nat × Nat) : Option (Loc × Voice) :=
  let y := s.slot x.1 x.2
  match y.next with
  | some v => some (.next x.1 x.2, v)
  | none => if y.cur.state == .sounding || y.cur.state == .releasing then some (.cur x.1 x.2, y.cur) else none

/-- The voices that events of a pool act on, oldest commit first, claims last. -/
def State.voicesOf (s : State) (p : Nat) (r : PoolRec) : List (Loc × Voice) :=
  let x := s.pools.get p
  let open_ := (s.slotsOf r).filter (fun y => !x.claimed.contains y)
  let seen := open_.filterMap s.slotVoice
  let sorted := seen.foldl (fun acc v => acc.filter (fun y => decide (y.2.commitSeq ≤ v.2.commitSeq)) ++ v ::
    acc.filter (fun y => !decide (y.2.commitSeq ≤ v.2.commitSeq))) []
  sorted ++ x.claims.zipIdx.flatMap (fun l => l.1.zipIdx.map (fun c => (.claim l.2 c.2, c.1.voice)))

/-- A voice that the Forager sees changed. -/
def State.updVoice (s : State) (p : Nat) (l : Loc) (f : Voice → Voice) : State :=
  match l with
  | .cur g k => s.modGills (fun b => b.upd g (fun x => { x with slots := x.slots.upd k (fun y => { y with cur := f y.cur }) }))
  | .next g k => s.modGills (fun b => b.upd g (fun x => { x with slots := x.slots.upd k (fun y => { y with next := y.next.map f }) }))
  | .claim i j => s.modPools (fun b => b.upd p (fun x => { x with claims := x.claims.modify i (fun l => l.modify j (fun c =>
      { c with voice := f c.voice })) }))

/-- Every voice of a pool for which q holds changed. -/
def State.eachVoice (s : State) (p : Nat) (r : PoolRec) (q : Voice → Bool) (f : Voice → Voice) : State :=
  (s.voicesOf p r).foldl (fun s x => if q x.2 then s.updVoice p x.1 f else s) s

/-! ### Channels (R138, R139) -/

/-- The fields of a copy: its group, channel and index. -/
def EventWord.group (e : EventWord) : Nat := bits e.w0 27 24
def EventWord.channel (e : EventWord) : Nat := bits e.w0 19 16
def EventWord.index (e : EventWord) : Nat := bits e.w0 14 8

/-- The member channels whose notes a message of a pool acts on besides those of its own channel: those of the folding routes, of its
ingress and group, whose master channel it is on (R138). -/
def State.governed (s : State) (n p : Nat) (e : EventWord) : List Nat :=
  (List.range 16).filter (fun k => k != e.channel && (s.tcfg n).routes.any (fun r =>
    r.fold && r.pool == p && r.source == e.src.toNat && (r.group == 255 || r.group == e.group) && r.channels.testBit k &&
    r.master == e.channel))

/-- Whether a message acts on a voice: on its own channel, or on a folded voice of its ingress on a channel that it governs. -/
def State.onChannel (s : State) (n p : Nat) (e : EventWord) (v : Voice) : Bool :=
  v.group == e.group && (v.channel == e.channel || (v.folded && v.src == e.src && (s.governed n p e).contains v.channel))

/-- The sources of a channel at their defaults (R192). -/
def ChanSrc.default (group channel : Nat) : ChanSrc :=
  { group := group, channel := channel, src := none, bend := 0x80000000#32, press := 0#32, mod := 0#32, cc := Bank.all 8 0#32, sustain := 0#32 }

/-- Per-note sources at their defaults (R192). -/
def NoteSrc.default (group channel : Nat) (note : Option Nat) : NoteSrc :=
  { group := group, channel := channel, note := note, bend := 0x80000000#32, press := 0#32, timbre := timbreDefault,
    ctl := Bank.all 4 0#32 }

/-- Whether an entry is one of a channel. -/
def ChanSrc.of (c : ChanSrc) (group channel : Nat) : Bool := c.group == group && c.channel == channel

/-- The sources of a channel of a pool. -/
def Pool.chan (p : Pool) (group channel : Nat) : ChanSrc :=
  (p.chans.find? (fun c => c.of group channel && c.src.isNone)).getD (ChanSrc.default group channel)

/-- The sources of a channel changed, for every voice on it. -/
def Pool.updChan (p : Pool) (group channel : Nat) (f : ChanSrc → ChanSrc) : Pool :=
  { p with chans := (p.chans.filter (fun c => !(c.of group channel && c.src.isNone))).map (fun c =>
      if c.of group channel then f c else c) ++ [f (p.chan group channel)] }

/-- What the folded voices of an ingress have on a channel: their own entry, otherwise the channel's. -/
def Pool.chanFolded (p : Pool) (group channel : Nat) (src : Byte) : ChanSrc :=
  (p.chans.find? (fun c => c.of group channel && c.src == some src)).getD { p.chan group channel with src := some src }

/-- What the folded voices of an ingress have on a channel, changed. -/
def Pool.updFolded (p : Pool) (group channel : Nat) (src : Byte) (f : ChanSrc → ChanSrc) : Pool :=
  { p with chans := p.chans.filter (fun c => !(c.of group channel && c.src == some src)) ++ [f (p.chanFolded group channel src)] }

/-- A message's change of channel sources: on its own channel, and for the folded voices of its ingress on the channels that it governs
(DEDUCED, log entry 122). -/
def Pool.updChans (p : Pool) (e : EventWord) (governed : List Nat) (f : ChanSrc → ChanSrc) : Pool :=
  governed.foldl (fun p k => p.updFolded e.group k e.src f) (p.updChan e.group e.channel f)

/-- The channel sources of a voice (R138, R190). -/
def Pool.chanOf (p : Pool) (v : Voice) : ChanSrc :=
  if v.folded then p.chanFolded v.group v.channel v.src else p.chan v.group v.channel

/-- The per-note sources of a note: its own, otherwise those of its member channel. -/
def Pool.noteSrc (p : Pool) (group channel note : Nat) : NoteSrc :=
  let has (k : Option Nat) : Option NoteSrc := p.notes.find? (fun c => c.group == group && c.channel == channel && c.note == k)
  match has (some note) with
  | some x => x
  | none => match has none with
    | some x => { x with note := some note }
    | none => NoteSrc.default group channel (some note)

/-- The per-note sources of one note changed. -/
def Pool.updNote (p : Pool) (group channel note : Nat) (f : NoteSrc → NoteSrc) : Pool :=
  { p with notes := p.notes.filter (fun c => !(c.group == group && c.channel == channel && c.note == some note)) ++
      [f (p.noteSrc group channel note)] }

/-- The per-note sources of every note of a member channel changed (R138). -/
def Pool.updMember (p : Pool) (group channel : Nat) (f : NoteSrc → NoteSrc) : Pool :=
  let mine (c : NoteSrc) : Bool := c.group == group && c.channel == channel
  let whole := (p.notes.find? (fun c => mine c && c.note.isNone)).getD (NoteSrc.default group channel none)
  { p with notes := (p.notes.filter (fun c => !(mine c && c.note.isNone))).map (fun c => if mine c then f c else c) ++ [f whole] }

/-- Whether sustain holds a voice: CC64 of its channel, or of its route's master channel, was last at least half (R138, R141). -/
def State.sustained (s : State) (p : Nat) (v : Voice) : Bool := ((s.pools.get p).chanOf v).sustain.getLsbD 31

/-! ### Voice changes -/

/-- A voice released (R141, R184). -/
def Voice.release (v : Voice) : Voice :=
  { v with key := .released, state := if v.state == .sounding then .releasing else v.state }

/-- A voice ramped to 0 over 8 frames in its own slot (CC120). -/
def Voice.silence (v : Voice) : Voice := { v with state := .silencing, left := 8 }

/-- A voice restarted from its current levels with a new velocity (R143 RETRIGGER, R204). -/
def Voice.retrigger (v : Voice) (velocity : Nat) : Voice :=
  { v with key := .held, velocity := velocity, relVel := 0, ended := false, elems := restartEnvs v.elems,
           state := if v.state == .releasing then .sounding else v.state }

/-- A voice moved to another pitch with nothing restarted (R143 LEGATO). -/
def Voice.move (v : Voice) (note : Nat) (pitch : Int) : Voice := { v with note := note, keyPitch := pitch }

/-- A voice restarted on another note (R143 MONO, R204). -/
def Voice.restart (v : Voice) (note : Nat) (pitch : Int) (velocity : Nat) : Voice := (v.move note pitch).retrigger velocity

/-- The note-off of a HELD voice: released, or SUSTAINED while sustain holds it (R141). -/
def State.keyUp (s : State) (p : Nat) (relVel : Nat) (v : Voice) : Voice :=
  let w := { v with relVel := relVel }
  if s.sustained p v then { w with key := .sustained } else w.release

/-! ### Allocation (R146, R147) -/

/-- Slots that a pool may use under the cap (R151). -/
def State.usable (s : State) (r : PoolRec) : Nat :=
  max 1 ((gillsOf r.gills).length * s.poolSlots r * s.windlass.capApplied / 8)

/-- The occupied slots of a gill of a pool. -/
def State.gillLoad (s : State) (r : PoolRec) (taken : List (Nat × Nat)) (g : Nat) : Nat :=
  ((List.range (s.poolSlots r)).filter (fun k => s.occupied taken (g, k))).length

/-- The free slot that R146 picks: the lowest of the gill with the fewest occupied slots. -/
def State.freeSlot (s : State) (r : PoolRec) (taken : List (Nat × Nat)) : Option (Nat × Nat) :=
  let best := (gillsOf r.gills).foldl (fun b g => match b with
    | none => some g
    | some x => if s.gillLoad r taken g < s.gillLoad r taken x then some g else some x) none
  best.bind (fun g => ((List.range (s.poolSlots r)).find? (fun k => !s.occupied taken (g, k))).map (fun k => (g, k)))

/-- The level by which QUIETEST ranks a voice; before its first boundary the level START of the ENV that drives AMP0 (R175). -/
def State.rankLevel (s : State) (r : PoolRec) (l : Loc) (v : Voice) : F32 :=
  match l with
  | .cur _ _ => v.level
  | _ => match s.poolStruct r with
    | some st => match st.gateEnv with
      | some e => st.base e 3
      | none => 0#32
    | none => 0#32

/-- Whether candidate a comes before b under a policy's key, commit time, gill and slot (R146, R147). -/
def State.rankBefore (s : State) (r : PoolRec) (a b : (Nat × Nat) × Loc × Voice) : Bool :=
  let x := a.2.2
  let y := b.2.2
  let key : Option Bool := match r.steal with
    | .quietest =>
      let p := s.rankLevel r a.2.1 x
      let q := s.rankLevel r b.2.1 y
      if gLt p q then some true else if gLt q p then some false else none
    | .priority => match r.priority with
      | .highest => if x.keyPitch = y.keyPitch then none else some (decide (x.keyPitch < y.keyPitch))
      | .lowest => if x.keyPitch = y.keyPitch then none else some (decide (y.keyPitch < x.keyPitch))
      | .last => none
    | .oldest | .sameNote => none
  match key with
  | some b => b
  | none =>
    if x.commitTime ≠ y.commitTime then decide (x.commitTime.toNat < y.commitTime.toNat)
    else decide (a.1.1 < b.1.1) || (a.1.1 == b.1.1 && decide (a.1.2 < b.1.2))

/-- Whether a voice has an identity (R140). -/
def Voice.is (v : Voice) (group channel note : Nat) : Bool := v.group == group && v.channel == channel && v.note == note

/-- The slot to steal for a note (R146). -/
def State.stealCandidate (s : State) (p : Nat) (r : PoolRec) (group channel note : Nat) (taken : List (Nat × Nat)) :
    Option (Nat × Nat) :=
  let all := ((s.slotsOf r).filter (fun x => !taken.contains x && !(s.pools.get p).claimed.contains x)).filterMap
    (fun x => (s.slotVoice x).map (fun y => (x, y)))
  let same := all.filter (fun c => c.2.2.is group channel note)
  let c1 := if r.steal == .sameNote && !same.isEmpty then same else all
  let rel := c1.filter (fun c => c.2.2.key == .released)
  let c2 := if r.preferRelease && !rel.isEmpty then rel else c1
  (c2.foldl (fun b c => match b with
    | none => some c
    | some x => if s.rankBefore r c x then some c else some x) none).map Prod.fst

/-- The slots picked for a note, each with whether it steals and whether it stole with a slot free (R146, R151). -/
def State.pick (s : State) (p : Nat) (r : PoolRec) (group channel note : Nat) :
    Nat → Nat → List (Nat × Nat) → List ((Nat × Nat) × Bool × Bool)
  | 0, _, _ => []
  | k + 1, room, picked =>
    let taken := picked ++ (s.pools.get p).claimed
    let free := s.freeSlot r taken
    match (if 0 < room then free else none) with
    | some x => (x, false, false) :: s.pick p r group channel note k (room - 1) (picked ++ [x])
    | none => match s.stealCandidate p r group channel note picked with
      | some x => (x, true, free.isSome) :: s.pick p r group channel note k room (picked ++ [x])
      | none => []

/-- A note that needs voices. -/
structure NoteReq where
  group : Nat
  channel : Nat
  note : Nat
  folded : Bool
  src : Byte
  pitch : Int
  velocity : Nat
deriving DecidableEq, Repr, Inhabited

/-- The voices of a note: seeded one after another by the pool generator (R194). -/
def seedVoices (base : Voice) : List ((Nat × Nat) × Bool × Bool) → Nat → BitVec 32 → List Claim × BitVec 32
  | [], _, x => ([], x)
  | c :: rest, u, x =>
    let y := xorshift x
    let r := seedVoices base rest (u + 1) y
    ({ gill := c.1.1, slot := c.1.2, voice := { base with unisonIdx := u, gen := if y = 0#32 then 1#32 else y }, steal := c.2.1 } :: r.1,
     r.2)

/-- Voices allocated for a note, claimed until FORAGER_COMMIT (R146, R148, R194). -/
def State.allocate (s : State) (n p : Nat) (r : PoolRec) (q : NoteReq) : State :=
  let x := s.pools.get p
  let usable := s.usable r
  let need := min (if r.mode == .unison then r.unison else 1) usable
  let occ := ((s.slotsOf r).filter (fun y => s.occupied x.claimed y)).length
  let picks := s.pick p r q.group q.channel q.note need (usable - occ) []
  if picks.isEmpty then s
  else
    let g := xorshift x.gen
    let base := { Voice.none with
      state := .pending, key := .held, pool := p, group := q.group, channel := q.channel, note := q.note, folded := q.folded, src := q.src,
      velocity := q.velocity, keyPitch := q.pitch, random := noiseValue g, alternate := if x.alternate then fMinusOne else fOne,
      unisonCount := if r.mode == .unison then picks.length else 1 }
    let seeded := seedVoices base picks 0 g
    let steals := (picks.filter (fun c => c.2.1)).length
    let limited := picks.any (fun c => c.2.2)
    let s1 := s.modPools (fun b => b.upd p (fun x =>
      { x with claims := x.claims ++ [seeded.1], gen := seeded.2, alternate := !x.alternate, steals := errCount x.steals steals,
               status := if limited then x.status ||| 4#3 else x.status }))
    let s2 := if steals = 0 then s1 else s1.count n 4 p steals
    match lowestGill r.gills with
    | some g => s2.settle (8 * g + 7)
    | none => s2

/-! ### Lanes -/

/-- What the oldest copy in a lane is. -/
inductive LaneKind where
  | noteOn | noteOff | soundOff | reset | notesOff | sustain | management | controller
deriving DecidableEq, Repr

/-- The kind of a channel-voice message (R139, R142). -/
def EventWord.kind (e : EventWord) : LaneKind :=
  match bits e.w0 23 20 with
  | 9 => .noteOn
  | 8 => .noteOff
  | 15 => .management
  | 11 => match bits e.w0 14 8 with
    | 64 => .sustain
    | 120 => .soundOff
    | 121 => .reset
    | 123 => .notesOff
    | _ => .controller
  | _ => .controller

/-- A pool acts on the oldest copy of its lane when that is of a kind and due: a copy of a pair waits for the frame before its render
frame (R401). -/
def State.onLane (s : State) (p : Nat) (k : LaneKind) (f : State → Nat → PoolRec → EventWord → State) : State :=
  match (s.pools.get p).lane, s.poolRec p with
  | e :: rest, some (n, r) =>
    let due := match e.render with
      | some d => decide (d.toNat ≤ s.time.frameIdx.toNat + 1)
      | none => true
    if s.dev.phase.frames && due && e.kind == k then f (s.modPools (fun b => b.upd p (fun x => { x with lane := rest }))) n r e else s
  | _, _ => s

/-! ### Mono stacks (R144) -/

/-- The held notes of a channel, oldest first. -/
def Pool.held (p : Pool) (group channel : Nat) : List HeldNote :=
  match p.monoStacks.find? (fun x => x.group == group && x.channel == channel) with
  | some x => x.held
  | none => []

/-- The held notes of a channel replaced. -/
def Pool.setHeld (p : Pool) (group channel : Nat) (l : List HeldNote) : Pool :=
  let others := p.monoStacks.filter (fun x => !(x.group == group && x.channel == channel))
  { p with monoStacks := if l.isEmpty then others else others ++ [{ group := group, channel := channel, held := l }] }

/-- A note pressed: newest of its channel's stack of 16. -/
def pressNote (l : List HeldNote) (h : HeldNote) : List HeldNote :=
  let l1 := l.filter (fun x => x.note != h.note) ++ [h]
  l1.drop (l1.length - 16)

/-- The note that sounds under a priority: the last of equals pressed. -/
def winner (pr : NotePriority) (l : List HeldNote) : Option HeldNote :=
  l.foldl (fun b x => match b with
    | none => some x
    | some y => match pr with
      | .last => some x
      | .highest => if y.pitch ≤ x.pitch then some x else some y
      | .lowest => if x.pitch ≤ y.pitch then some x else some y) none

/-- A note-on of MONO or LEGATO (R143, R144). -/
def State.monoOn (s : State) (n p : Nat) (r : PoolRec) (q : NoteReq) : State :=
  let old := (s.pools.get p).held q.group q.channel
  let stack := pressNote old { note := q.note, pitch := q.pitch, velocity := q.velocity }
  let s1 := s.modPools (fun b => b.upd p (fun x => x.setHeld q.group q.channel stack))
  let wins := match winner r.priority stack with
    | some h => h.note == q.note
    | none => false
  if !wins then s1
  else
    let mine := (s1.voicesOf p r).filter (fun v => v.2.group == q.group && v.2.channel == q.channel && v.2.state != .silencing)
    match mine.getLast? with
    | none => s1.allocate n p r q
    | some v =>
      if r.mode == .legato && !old.isEmpty then s1.updVoice p v.1 (fun v => v.move q.note q.pitch)
      else s1.updVoice p v.1 (fun v => v.restart q.note q.pitch q.velocity)

/-- A note-off of MONO or LEGATO: the sounding note gives way to the next one by priority, or the voice is released (R144). -/
def State.monoOff (s : State) (p : Nat) (r : PoolRec) (group channel note relVel : Nat) : State :=
  let stack := ((s.pools.get p).held group channel).filter (fun x => x.note != note)
  let s1 := s.modPools (fun b => b.upd p (fun x => x.setHeld group channel stack))
  let sounds (v : Voice) : Bool := v.is group channel note && v.key == .held
  match winner r.priority stack with
  | none => s1.eachVoice p r sounds (s1.keyUp p relVel)
  | some h => s1.eachVoice p r sounds (fun v => if r.mode == .legato then v.move h.note h.pitch else v.restart h.note h.pitch h.velocity)

/-! ### Notes (R141, R143, R146) -/

/-- The key pitch of a note-on: its pitch 7.9 attribute, otherwise the pool's TUNING entry, by default 4,096 pu a semitone with note 69
at 282,624 (R139, R162). -/
def State.keyPitch (s : State) (n p : Nat) (e : EventWord) : Int :=
  if bits e.w0 7 0 = 3 then (bits e.w1 15 0 : Int) * 8
  else match (s.tcfg n).forager.tunings.find? (fun t => t.1 == p) with
    | some t => t.2.getD e.index 0
    | none => 282624 + ((e.index : Int) - 69) * 4096

/-- NOTE_ON. -/
def State.noteOn (s : State) (p n : Nat) (r : PoolRec) (e : EventWord) : State :=
  let q : NoteReq := { group := e.group, channel := e.channel, note := e.index, folded := e.fold, src := e.src, pitch := s.keyPitch n p e,
                       velocity := bits e.w1 31 16 }
  match r.mode with
  | .mono | .legato => s.monoOn n p r q
  | .unison => s.allocate n p r q
  | .poly =>
    if r.newVoice then s.allocate n p r q
    else match ((s.voicesOf p r).filter (fun v => v.2.is q.group q.channel q.note && v.2.state != .silencing)).getLast? with
      | some v => s.updVoice p v.1 (fun v => v.retrigger q.velocity)
      | none => s.allocate n p r q

/-- NOTE_ON. -/
def execNoteOn (p : Fin 32) (s : State) : Res := .next (s.onLane p .noteOn (fun s => s.noteOn p))

/-- NOTE_OFF. -/
def State.noteOff (s : State) (p _ : Nat) (r : PoolRec) (e : EventWord) : State :=
  let vel := bits e.w1 31 16
  match r.mode with
  | .mono | .legato => s.monoOff p r e.group e.channel e.index vel
  | .poly | .unison => s.eachVoice p r (fun v => v.is e.group e.channel e.index && v.key == .held) (s.keyUp p vel)

/-- NOTE_OFF. -/
def execNoteOff (p : Fin 32) (s : State) : Res := .next (s.onLane p .noteOff (fun s => s.noteOff p))

/-! ### Controllers (R138, R139, R141, R142) -/

/-- The SUSTAINED voices that no sustain holds any longer released. -/
def State.liftSustain (s : State) (p : Nat) (r : PoolRec) : State :=
  s.eachVoice p r (fun v => v.key == .sustained && !s.sustained p v) Voice.release

/-- A controller into the channel sources: CC1 and the eight that FOR_CCMAP names (R139). -/
def Pool.control (p : Pool) (e : EventWord) (c : ChanSrc) : ChanSrc :=
  let map (k : Nat) : Nat := if k < 4 then bits p.ccmap0 (8 * k + 6) (8 * k) else bits p.ccmap1 (8 * (k - 4) + 6) (8 * (k - 4))
  { c with mod := if e.index = 1 then e.w1 else c.mod, cc := c.cc.mapi (fun k v => if map k = e.index then e.w1 else v) }

/-- A controller message as the channel's own controller, whatever else it does. -/
def State.assigned (s : State) (p n : Nat) (e : EventWord) : State :=
  s.modPools (fun b => b.upd p (fun x => x.updChans e (s.governed n p e) (x.control e)))

/-- SUSTAIN_CHANGE: CC64 (R141). -/
def State.sustainChange (s : State) (p n : Nat) (r : PoolRec) (e : EventWord) : State :=
  (s.modPools (fun b => b.upd p (fun x => x.updChans e (s.governed n p e) (fun c => { x.control e c with sustain := e.w1 })))).liftSustain p r

/-- SUSTAIN_CHANGE. -/
def execSustainChange (p : Fin 32) (s : State) : Res := .next (s.onLane p .sustain (fun s => s.sustainChange p))

/-- A channel controller (R138, R139): on a member channel bend, pressure, CC74 and CC16 to CC19 become per-note. -/
def Pool.controller (p : Pool) (governed : List Nat) (e : EventWord) : Pool :=
  let g := e.group
  let c := e.channel
  match bits e.w0 23 20 with
  | 14 => if e.fold then p.updMember g c (fun x => { x with bend := e.w1 }) else p.updChans e governed (fun x => { x with bend := e.w1 })
  | 13 => if e.fold then p.updMember g c (fun x => { x with press := e.w1 }) else p.updChans e governed (fun x => { x with press := e.w1 })
  | 11 =>
    if e.fold && e.index == 74 then p.updMember g c (fun x => { x with timbre := e.w1 })
    else if e.fold && decide (16 ≤ e.index) && decide (e.index ≤ 19) then
      p.updMember g c (fun x => { x with ctl := x.ctl.put (e.index - 16) e.w1 })
    else p.updChans e governed (p.control e)
  | 10 => p.updNote g c e.index (fun x => { x with press := e.w1 })
  | 6 => p.updNote g c e.index (fun x => { x with bend := e.w1 })
  | 1 =>
    let i := bits e.w0 7 0
    if i = 74 then p.updNote g c e.index (fun x => { x with timbre := e.w1 })
    else if i < 4 then p.updNote g c e.index (fun x => { x with ctl := x.ctl.put i e.w1 })
    else p
  | _ => p

/-- CHANNEL_CONTROLLER. -/
def execChannelController (p : Fin 32) (s : State) : Res :=
  .next (s.onLane p .controller (fun s n _ e => s.modPools (fun b => b.upd p (fun x => x.controller (s.governed n p e) e))))

/-- PER_NOTE_MANAGEMENT: with S set the note's sources return to their defaults (R139). -/
def execPerNoteManagement (p : Fin 32) (s : State) : Res :=
  .next (s.onLane p .management (fun s _ _ e =>
    if e.w0.getLsbD 0 then
      s.modPools (fun b => b.upd p (fun x => x.updNote e.group e.channel e.index (fun k => NoteSrc.default k.group k.channel k.note)))
    else s))

/-- CC123 on the voices for which q holds: HELD and SUSTAINED ones are released, and their stacks emptied. -/
def State.notesOff (s : State) (p : Nat) (r : PoolRec) (q : Voice → Bool) (monoStacks : Nat → Nat → Bool) : State :=
  (s.eachVoice p r (fun v => q v && v.key != .released) Voice.release).modPools (fun b => b.upd p (fun x =>
    { x with monoStacks := x.monoStacks.filter (fun k => !monoStacks k.group k.channel) }))

/-- CC120 on the voices for which q holds. -/
def State.soundOff (s : State) (p : Nat) (r : PoolRec) (q : Voice → Bool) (monoStacks : Nat → Nat → Bool) : State :=
  (s.eachVoice p r (fun v => q v && v.state != .silencing) Voice.silence).modPools (fun b => b.upd p (fun x =>
    { x with monoStacks := x.monoStacks.filter (fun k => !monoStacks k.group k.channel) }))

/-- Whether a channel's stack or notes fall under a message: those of its own channel and of those that it governs. -/
def State.stackOn (s : State) (n p : Nat) (e : EventWord) (g c : Nat) : Bool :=
  g == e.group && (c == e.channel || (s.governed n p e).contains c)

/-- ALL_NOTES_OFF. -/
def execAllNotesOff (p : Fin 32) (s : State) : Res :=
  .next (s.onLane p .notesOff (fun s n r e => (s.assigned p n e).notesOff p r (s.onChannel n p e) (s.stackOn n p e)))

/-- ALL_SOUND_OFF. -/
def execAllSoundOff (p : Fin 32) (s : State) : Res :=
  .next (s.onLane p .soundOff (fun s n r e => (s.assigned p n e).soundOff p r (s.onChannel n p e) (s.stackOn n p e)))

/-- RESET_ALL_CONTROLLERS: the channel's and its notes' sources at their defaults, which lifts its sustain (R141, R142). -/
def State.resetControllers (s : State) (p n : Nat) (r : PoolRec) (e : EventWord) : State :=
  (s.modPools (fun b => b.upd p (fun x =>
    let y := x.updChans e (s.governed n p e) (fun c => { ChanSrc.default c.group c.channel with src := c.src })
    { y with notes := x.notes.filter (fun c => !s.stackOn n p e c.group c.channel) }))).liftSustain p r

/-- RESET_ALL_CONTROLLERS. -/
def execResetAllControllers (p : Fin 32) (s : State) : Res := .next (s.onLane p .reset (fun s => s.resetControllers p))

/-- FOR_PANICp written: CC123 with bit 0 and CC120 with bit 1, on every channel of the pool (R142). -/
def State.forPanic (s : State) (p : Nat) (v : Word) : State :=
  match s.poolRec p with
  | none => s
  | some (_, r) =>
    let s1 := if v.getLsbD 0 then s.notesOff p r (fun _ => true) (fun _ _ => true) else s
    if v.getLsbD 1 then s1.soundOff p r (fun _ => true) (fun _ _ => true) else s1

/-- A write of FOR_PANICp by tenancy t. -/
def State.forPanicWrite (s : State) (t p : Nat) (v : Word) : State :=
  s.access t (0x140018 + 0x80 * p) true (s.poolOwner p == some t) (fun s => s.forPanic p v)

/-- FOR_PANIC_ALL_NOTES_OFF: bit 0 of FOR_PANICp. -/
def execForPanicAllNotesOff (t : Fin 8) (p : Fin 32) (s : State) : Res := .next (s.forPanicWrite t p 1#32)

/-- FOR_PANIC_ALL_SOUND_OFF: bit 1 of FOR_PANICp. -/
def execForPanicAllSoundOff (t : Fin 8) (p : Fin 32) (s : State) : Res := .next (s.forPanicWrite t p 2#32)

/-! ### Commit (R148, R152) -/

/-- A claim written into the slot table. -/
def State.commitClaim (s : State) (c : Claim) : State :=
  let v := { c.voice with commitTime := s.now, commitSeq := s.front.commitSeq }
  (s.modGills (fun b => b.upd c.gill (fun x => { x with slots := x.slots.upd c.slot (fun y => { y with next := some v }) }))).modFront
    (fun f => { f with commitSeq := f.commitSeq + 1 })

/-- The oldest note of pool p in the pipeline committed: its slots written, counted and traced. -/
def State.commit (s : State) (p : Nat) : State :=
  match (s.pools.get p).claims, s.poolOwner p with
  | l :: rest, some n =>
    let s1 := s.modPools (fun b => b.upd p (fun x => { x with claims := rest }))
    let s2 := (l.foldl State.commitClaim s1).count n 3 p l.length
    l.foldl (fun s c => s.trace 3 (some n) p
      [lo32 s.now, w32 (p + fld c.gill 8 + fld c.slot 16 + flag c.steal 23 + fld l.length 24), lo32 (s.time.frameIdx + 1#64)]) s2
  | _, _ => s

/-- FORAGER_COMMIT: the voted commit stage; a dissenting copy is masked, and without a majority the device enters SAFE (R30, R31). While a
park has stopped the frames no commit waits, and the vote alone counts. -/
def State.foragerCommit (s : State) (p : Nat) (v : Vote) : State :=
  let stopped := s.dev.phase == .parked || (s.dev.phase == .running && !s.time.framesRun)
  if !stopped && ((s.pools.get p).claims.isEmpty || !s.dev.phase.frames) then s
  else
    let r := voted s.dev.forMask v
    let s1 := s.modDev (fun d => { d with forMask := r.1 })
    let s2 := if r.2.1 then s1.pairFlag 2 else s1
    if r.2.2 then (s2.pairFlag 3).enterSafe else s2.commit p

/-- FORAGER_COMMIT. -/
def execForagerCommit (p : Fin 32) (vote : Vote) (s : State) : Res := .next (s.foragerCommit p vote)

/-! ### The ends of voices -/

/-- A voice of gill g gone, with its store and streams. -/
def State.voiceGone (s : State) (g : Nat) (v : Voice) (f : Gill → Gill) : State :=
  (s.endStreams g v.store).modGills (fun b => b.upd g f)

/-- Whether the voice of a slot has ended: its gating ENV is DONE, or it faulted (R176, R180). -/
def Voice.isOver (v : Voice) : Bool := (v.ended && (v.state == .sounding || v.state == .releasing)) || v.state == .faulted

/-- A slot freed; its free-running LFOs go on. -/
def State.freeSlotOf (s : State) (g k : Nat) : State :=
  s.voiceGone g (s.slot g k).cur (fun x => { x with slots := x.slots.upd k (fun y => { y with cur := Voice.none }) })

/-- VOICE_END: the slot is FREE from the boundary after its voice ended. -/
def execVoiceEnd (g : Fin 48) (slot : Fin 16) (s : State) : Res :=
  .next (if (s.slot g slot).cur.isOver then s.freeSlotOf g slot else s)

/-- Whether a SILENCING slot has run its ramp. -/
def Voice.silenced (v : Voice) : Bool := v.state == .silencing && v.left == 0

/-- SILENCE_END. -/
def execSilenceEnd (g : Fin 48) (slot : Fin 16) (s : State) : Res :=
  .next (if (s.slot g slot).cur.silenced then s.freeSlotOf g slot else s)

/-- Whether a fading or cut voice is over: its fade has run, its gating ENV is DONE, or it faulted (R186). -/
def Voice.faded (v : Voice) : Bool :=
  (v.state == .fading || v.state == .cutting) && (decide (v.fadeC ≤ v.fadeJ) || v.ended)

/-- Shadow slot h freed. -/
def State.freeShadow (s : State) (g h : Nat) : State :=
  s.voiceGone g ((s.gills.get g).shadows.get h) (fun x => { x with shadows := x.shadows.put h Voice.none })

/-- SHADOW_FADE_END. -/
def execShadowFadeEnd (g : Fin 48) (h : Fin 2) (s : State) : Res :=
  .next (if ((s.gills.get g).shadows.get h).faded then s.freeShadow g h else s)

/-- The cut lane freed. -/
def State.freeCut (s : State) (g : Nat) : State :=
  s.voiceGone g (s.gills.get g).cut (fun x => { x with cut := Voice.none })

/-- CUT_END. -/
def execCutEnd (g : Fin 48) (s : State) : Res := .next (if (s.gills.get g).cut.faded then s.freeCut g else s)

end Sys2Proof.Machine
end

