-- ==== Sys2Proof/Machine/MycRegs.lean ====
section
/-! DEFINITION. The mycelium of a tenancy: its start at spawn, its registers, tick boundaries and global LFOs (R192 to R194, R198,
R202 to R207). -/

namespace Sys2Proof.Machine

/-- The routes of a structure, in route index order (R196). -/
def TenancyCfg.routesOf (t : TenancyCfg) (id : Nat) : List MycRouteRec := t.myc.routes.filter (fun r => r.structId == id)

/-- The base-two logarithm of a structure's tick, 3 without a TICK record. -/
def TenancyCfg.tickLog (t : TenancyCfg) (id : Nat) : Nat := match t.myc.ticks.find? (fun x => x.1 == id) with
  | some x => x.2
  | none => 3

/-- A generator seed of R194: its zero is 1. -/
def seedOf (x : Word) : Word := if x = 0#32 then 1#32 else x

/-- The seed of global LFO g of tenancy n (R194). -/
def State.glfoSeed (s : State) (n g : Nat) : Word :=
  seedOf (s.cfg.dev.seeds.getD 1 2#32 ^^^ w32 (g * 0x9E3779B9) ^^^ w32 (n * 0x85EBCA6B))

/-- The seed of pool p (R194). -/
def State.poolSeed (s : State) (p : Nat) : Word := seedOf (s.cfg.dev.seeds.getD 0 1#32 ^^^ w32 (p * 0x9E3779B9))

/-- The mycelium of a structure as spawned. -/
def MycStruct.load (t : TenancyCfg) (id : Nat) : MycStruct :=
  let d := (t.routesOf id).map MycRouteRec.depth
  { id := id, active := d, pend := d, arm := false, status := 0#2, nanCnt := 0, satCnt := 0, swapFrame := 0#32,
    macros := Bank.all 4 0#32, macrosNext := Bank.all 4 0#32, wellMacros := [], wellDepths := [], tickDue := false }

/-- A global LFO as spawned: from its record, or stopped (R193). Its first draws for shapes 5 and 6 are made at the start. -/
def Glfo.load (r : Option GlfoRec) (seed : Word) : Glfo :=
  let g1 := xorshift seed
  let g2 := xorshift g1
  match r with
  | none => { acc := 0#48, gen := seed, old := 0#32, new := 0#32, rate := fOne, out := 0#32, running := false }
  | some x =>
    let acc := BitVec.ofNat 48 (gScaledInt x.phase 48).toNat
    if x.shape = 5 then { acc := acc, gen := g1, old := 0#32, new := noiseValue g1, rate := x.rate, out := 0#32, running := true }
    else if x.shape = 6 then
      { acc := acc, gen := g2, old := noiseValue g1, new := noiseValue g2, rate := x.rate, out := 0#32, running := true }
    else { acc := acc, gen := seed, old := 0#32, new := 0#32, rate := x.rate, out := 0#32, running := true }

/-- The mycelium of tenancy n as spawned (R192, R193). -/
def State.loadMyc (s : State) (n : Nat) : State :=
  let t := s.tcfg n
  s.modMyc (fun b => b.put n
    { structs := t.structs.map (fun x => MycStruct.load t x.id),
      glfos := Bank.make 8 (fun g => Glfo.load (t.myc.glfos.find? (fun r => r.lfo == g)) (s.glfoSeed n g)),
      macros := Bank.all 4 0#32, sensors := Bank.all 8 0#32 })

/-- A global LFO one frame on: its output from the phase reached, then its advance (R163, R177, R193). -/
def Glfo.step (x : Glfo) (shape fs : Nat) : Glfo :=
  if !x.running then { x with out := 0#32 }
  else
    let out := lfoShape shape x.acc.toNat x.old x.new
    let a := x.acc.toNat + lfoWord x.rate fs
    let wrap := decide (2 ^ 48 ≤ a) && (shape == 5 || shape == 6)
    let g := xorshift x.gen
    { x with acc := BitVec.ofNat 48 a, out := out, gen := if wrap then g else x.gen,
             old := if wrap then x.new else x.old, new := if wrap then noiseValue g else x.new }

/-- Every global LFO of every tenancy one frame on, and the SENSOR sources latched (R191, R193). -/
def State.mycFrame (s : State) : State :=
  s.modMyc (fun b => b.mapi (fun n t =>
    { t with
      glfos := t.glfos.mapi (fun g x => x.step (match (s.tcfg n).myc.glfos.find? (fun r => r.lfo == g) with
        | some r => r.shape
        | none => 0) s.fs),
      sensors := Bank.make 8 (fun k => match (s.tcfg n).myc.sensors.find? (fun r => r.1 == k) with
        | some r => (s.chan r.2).value
        | none => 0#32) }))

/-! ### Tick boundaries (R198, R202) -/

/-- The mycelium of a structure at its tick boundary F: an armed swap, the macros set since the last one, and targets due. -/
def MycStruct.tick (x : MycStruct) (f : DWord) : MycStruct :=
  { x with
    active := if x.arm then x.pend else x.active,
    swapFrame := if x.arm then lo32 f else x.swapFrame,
    arm := false, macros := x.macrosNext, wellMacros := [], wellDepths := [], tickDue := true }

/-- Whether frame F is a tick boundary of a structure. -/
def State.isTick (s : State) (n id : Nat) (f : DWord) : Bool := f.toNat % 2 ^ (s.tcfg n).tickLog id == 0

/-- TICK_BOUNDARY of one structure for frame F, once. -/
def State.tickOne (s : State) (n id : Nat) (f : DWord) : State :=
  if s.isTick n id f then
    s.modMyc (fun b => b.upd n (fun t =>
      { t with structs := t.structs.map (fun x => if x.id == id && !x.tickDue then x.tick f else x) }))
  else s

/-- TICK_BOUNDARY: the coming boundary is a tick boundary of the structure. -/
def execTickBoundary (t : Fin 8) (structure_ : Fin 64) (s : State) : Res :=
  .next (if s.dev.phase.frames then s.tickOne t structure_ (s.time.frameIdx + 1#64) else s)

/-- Every structure whose tick boundary frame F is. -/
def State.tickAll (s : State) (f : DWord) : State :=
  (List.range 8).foldl (fun s n => (s.tcfg n).structs.foldl (fun s x => s.tickOne n x.id f) s) s

/-! ### Registers (R206, R207) -/

/-- The mycelium of structure id of tenancy n. -/
def State.mycStruct (s : State) (n id : Nat) : Option MycStruct := (s.myc.get n).structs.find? (fun x => x.id == id)

/-- The mycelium of a structure changed. -/
def State.updMycStruct (s : State) (n id : Nat) (f : MycStruct → MycStruct) : State :=
  s.modMyc (fun b => b.upd n (fun t => { t with structs := t.structs.map (fun x => if x.id == id then f x else x) }))

/-- MYC_ARMs written. -/
def State.mycArm (s : State) (n id : Nat) (v : Word) : State :=
  if v.getLsbD 0 then s.updMycStruct n id (fun x => { x with arm := true }) else s

/-- MYC_ARM. -/
def execMycArm (t : Fin 8) (structure_ : Fin 64) (v : Word) (s : State) : Res :=
  .next (s.access t (0x160004 + 0x800 * structure_) true (s.mycStruct t structure_).isSome (fun s => s.mycArm t structure_ v))

/-- MYC_PDEPTHs_r written: beyond the route count ignored, a NaN or infinite depth a reserved encoding (R206). -/
def State.mycDepth (s : State) (n id r : Nat) (v : Word) : State :=
  match s.mycStruct n id with
  | none => s
  | some x =>
    if x.pend.length ≤ r then s
    else if fIsFinite v then s.updMycStruct n id (fun x => { x with pend := x.pend.set r v })
    else s.regRejected (0x160200 + 0x800 * id + 4 * r)

/-- MYC_MACROm written (R207): a non-finite value is a reserved encoding. -/
def State.mycMacro (s : State) (n m : Nat) (v : Word) : State :=
  if fIsFinite v then s.modMyc (fun b => b.upd n (fun t => t.setMacro m v true)) else s.regRejected (0x178020 + 4 * m)

/-- MYC_MACRO_WRITE. -/
def execMycMacroWrite (t : Fin 8) (m : Fin 4) (v : Word) (s : State) : Res :=
  .next (s.access t (0x178020 + 4 * m) true true (fun s => s.mycMacro t m v))

/-- Whether a global LFO rate is allowed: 0.001 to 1,000 Hz (R207). -/
def rateAllowed (v : F32) : Bool := fIsFinite v && gLe (gRatio 1 1000) v && gLe v (gOfInt 1000)

/-- MYC_GLFO_RATEg written. -/
def State.mycRate (s : State) (n g : Nat) (v : Word) : State :=
  if rateAllowed v then s.modMyc (fun b => b.upd n (fun t => { t with glfos := t.glfos.upd g (fun x => { x with rate := v }) }))
  else s.regRejected (0x178000 + 4 * g)

/-- MYC_GLFO_RATE_WRITE. -/
def execMycGlfoRateWrite (t : Fin 8) (g : Fin 8) (v : Word) (s : State) : Res :=
  .next (s.access t (0x178000 + 4 * g) true true (fun s => s.mycRate t g v))

end Sys2Proof.Machine
end

