-- ==== Sys2Proof/Machine/Render.lean ====
section
/-! DEFINITION. The gills at a frame boundary: ended voices freed, committed voices started, stolen ones moved (R149, R150), sources
latched (R190, R191), and one frame of every voice rendered and summed (R154 to R157, R180). -/

namespace Sys2Proof.Machine

/-! ### Sources (R190 to R192) -/

/-- The key velocity scale of VEL and RELVEL. -/
def velValue (v : Nat) : F32 := gRatio v 65535

/-- The 55 source values of a voice of pool p of tenancy n, whose structure's macros are given, for the coming frame. -/
def State.voiceSources (s : State) (n p : Nat) (macros : Bank F32 4) (v : Voice) : List F32 :=
  let pool := s.pools.get p
  let note := pool.noteSrc v.group v.channel v.note
  let chan := pool.chanOf v
  let t := s.myc.get n
  let pad (l : List F32) (k : Nat) : List F32 := (l ++ List.replicate k 0#32).take k
  pad v.envOuts 6 ++ pad v.lfoOuts 4 ++
    [velValue v.velocity, if v.frames = 0 || v.key != .released then 0#32 else velValue v.relVel, keyValue v.keyPitch,
      bendValue note.bend, fullValue note.press, fullValue note.timbre] ++
    note.ctl.toList.map fullValue ++
    [bendValue chan.bend, fullValue chan.press, fullValue chan.mod] ++
    chan.cc.toList.map fullValue ++
    t.glfos.toList.map Glfo.out ++ t.sensors.toList ++ [fOne] ++ macros.toList ++
    [v.random, v.alternate, unisonValue v.unisonIdx v.unisonCount]

/-! ### Ended voices -/

/-- The slots, shadow slots and cut lane of gill g whose voices are over, freed (R140, R180, R184, R186). -/
def State.freeEnded (s : State) (g : Nat) : State :=
  let s1 := (List.range 16).foldl (fun s k =>
    let v := (s.slot g k).cur
    if v.isOver || v.silenced then s.freeSlotOf g k else s) s
  let s2 := (List.range 2).foldl (fun s h => if ((s.gills.get g).shadows.get h).faded then s.freeShadow g h else s) s1
  if (s2.gills.get g).cut.faded then s2.freeCut g else s2

/-! ### Starts and steals (R149, R150) -/

/-- A voice moved to a shadow slot with a choke of c frames; order is the commit order of the voice that takes its slot. -/
def Voice.toShadow (v : Voice) (c order : Nat) : Voice :=
  { v with state := .fading, fadeJ := 0, fadeC := c, fadeG := fOne, moved := order }

/-- A shadow voice moved to the cut lane: 8 frames from the fade gain it had. -/
def Voice.toCut (v : Voice) : Voice := { v with state := .cutting, fadeJ := 0, fadeC := 8 }

/-- A counter of FOR_SHCUTp or FOR_HARDCUTp with its status bit 0 or 1, where the pool of gill g is p. -/
def State.cutCounted (s : State) (p : Nat) (hard : Bool) : State :=
  (s.modPools (fun b => b.upd p (fun x =>
    if hard then { x with hardcut := errCount x.hardcut 1, status := x.status ||| 2#3 }
    else { x with shcut := errCount x.shcut 1, status := x.status ||| 1#3 }))).settleAll
      ((match s.poolRec p with
        | some (_, r) => (lowestGill r.gills).toList
        | none => []).map (fun g => 8 * g + 7))

/-- The older shadow voice of a gill cut, when both shadow slots are busy. -/
def State.makeShadow (s : State) (g p : Nat) : State × Nat :=
  let x := s.gills.get g
  if !(x.shadows.get 0).live then (s, 0)
  else if !(x.shadows.get 1).live then (s, 1)
  else
    let h := if (x.shadows.get 1).moved < (x.shadows.get 0).moved then 1 else 0
    let s1 := if x.cut.live then (s.freeCut g).cutCounted p true else s
    let v := x.shadows.get h
    ((s1.modGills (fun b => b.upd g (fun x => { x with cut := v.toCut, shadows := x.shadows.put h Voice.none }))).cutCounted p false, h)

/-- The lowest voice store of a gill that no voice holds (R181). -/
def Gill.freeStore (x : Gill) (stores : Nat) : Nat :=
  ((List.range stores).find? (fun k => (x.holder k).isNone)).getD 0

/-- The stream that a SAMPLE element of a starting voice asks its pump for (R183, R276). -/
def sampleStream (st : StructRec) (g store e : Nat) (z : Zone) (nonce : DWord) : Stream :=
  { gill := g, store := store, elem := e, source := z.source.toNat, frameBytes := zoneFrameBytes z, length := z.length,
    loopStart := z.loopStart, loopEnd := z.loopEnd, ring := st.baseNat e 7 * 64 + store * st.baseNat e 6,
    ringBytes := st.baseNat e 6, nonce := nonce }

/-- The streams of a starting voice. -/
def State.startStreams (s : State) (st : StructRec) (g store : Nat) (elems : List ElemState) : State :=
  elems.zipIdx.foldl (fun s x => match x.1 with
    | .sample (some z) _ _ _ _ _ _ =>
      if (zoneFrame z z.head).isSome then
        let p := st.baseNat x.2 8
        let q := s.pumps.get p
        s.startStream p (sampleStream st g store x.2 z (dwordOf q.nonceLo q.nonceHi))
      else s
    | _ => s) s

/-- The state of a voice at its first boundary (R184, R185). -/
def Voice.startState (v : Voice) : SlotState :=
  if v.state == .silencing then .silencing else if v.key == .released then .releasing else .sounding

/-- The voice committed to slot k of gill g starts; a voice that the slot held moves to a shadow. -/
def State.startSlot (s : State) (g k : Nat) : State :=
  match (s.slot g k).next, s.gillStruct g, s.gillPool g with
  | some v, some (_, st), some (_, r) =>
    let old := (s.slot g k).cur
    let s1 := if old.live then
        let m := s.makeShadow g r.pool
        m.1.modGills (fun b => b.upd g (fun x => { x with shadows := x.shadows.put m.2 (old.toShadow r.choke v.commitSeq),
                                                          slots := x.slots.upd k (fun y => { y with cur := Voice.none }) }))
      else s
    let x := s1.gills.get g
    let store := x.freeStore (st.slots + 3)
    let e := startElems st x.trough v.note v.velocity (s1.slot g k).free v.gen
    let o := startOuts st v.velocity e.1
    let v1 : Voice :=
      { v with state := v.startState, store := store, elems := e.1, gen := e.2, envOuts := o.1, lfoOuts := o.2, frames := 0,
               starving := false, ended := false, tickLen := 0, tickPos := 0 }
    (s1.modGills (fun b => b.upd g (fun x => { x with slots := (x.slots.upd k (fun y => { y with cur := v1, next := none })) }.linesCleared st store))).startStreams
      st g store e.1
  | _, _, _ => s

/-- The slots of gill g with a committed voice, in commit order. -/
def State.startOrder (s : State) (g : Nat) : List Nat :=
  let l := (List.range 16).filterMap (fun k => ((s.slot g k).next).map (fun v => (v.commitSeq, k)))
  (l.foldl (fun acc x => acc.filter (fun y => decide (y.1 < x.1)) ++ x :: acc.filter (fun y => decide (x.1 < y.1))) []).map Prod.snd

/-! ### One frame of a gill -/

/-- A free-running LFO of a FREE slot one frame on at its base rate; draw k is what the slot's generator yields there. -/
def FreeLfo.step (f : FreeLfo) (rate : F32) (fs : Nat) (draw : F32) : FreeLfo :=
  let w := lfoWord rate fs
  let wraps := decide (2 ^ 48 ≤ f.acc.toNat + w)
  { f with acc := f.acc + BitVec.ofNat 48 w, old := if wraps then f.new else f.old, new := if wraps then draw else f.new }

/-- The free-running LFOs of a slot after a frame: those of its voice, or a frame at the base rate (R177). The slot is named by its gill and
number and the frame, on which the free draws of a FREE slot depend (log entry 121). -/
def freeLfos (st : StructRec) (fs g k : Nat) (frame : DWord) (v : Voice) (old : List FreeLfo) : List FreeLfo :=
  (st.elems.zipIdx.filter (fun e => e.1.kind == .lfo && e.1.options / 8 % 2 == 1)).map (fun e =>
    let draw (d : Nat) : F32 := noiseValue (Config.idleDraw g k e.2 d frame)
    let held : FreeLfo := (old.find? (fun x => x.elem == e.2)).getD
      { elem := e.2, acc := BitVec.ofNat 48 (gScaledInt (st.base e.2 2) 48).toNat, old := draw 1, new := draw 2 }
    match v.live, v.elems.getD e.2 .still with
    | true, .lfo acc old new => { elem := e.2, acc := acc, old := old, new := new }
    | _, _ => held.step (st.base e.2 0) fs (draw 0))

/-- What a gill gathers while it renders one frame. -/
structure GillWork where
  trough : Memory
  sum : List F32
  gill : Gill
  nans : Nat
  sats : Nat
deriving Repr, Inhabited

/-- Four outputs added to the sums, in the order of R156. -/
def addOuts (sum outs : List F32) (gain : F32) (scaled : Bool) : List F32 :=
  (sum.zip outs).map (fun x => gAdd x.1 (if scaled then gMul x.2 gain else x.2))

/-- The registers of a gill after one voice's frame (R179, R180, R183, R187); id is its number in GILL_FAULT. -/
def Gill.note (x : Gill) (r : VoiceFrame) (id : Nat) : Gill :=
  let bit (b : Bool) (k : Nat) : BitVec 6 := if b then BitVec.ofNat 6 (2 ^ k) else 0#6
  { x with
    status := x.status ||| bit r.fault.isSome 0 ||| bit (decide (0 < r.clamps)) 1 ||| bit r.starved 2 ||| bit r.headMiss 3 |||
      bit (decide (0 < r.ecc)) 4,
    fault := match r.fault with
      | some f => if x.status.getLsbD 0 then x.fault else w32 (id + fld f.1 8 + flag f.2 13 + flag true 14)
      | none => x.fault,
    clampCnt := errCount x.clampCnt r.clamps,
    starveCnt := errCount x.starveCnt (if r.starved then 1 else 0),
    faultCnt := errCount x.faultCnt (if r.fault.isSome then 1 else 0),
    headMissCnt := errCount x.headMissCnt (if r.headMiss then 1 else 0),
    eccCnt := errCount x.eccCnt r.ecc }

/-- The marks of the words that a voice wrote are gone (R187). -/
def Gill.healedAll (x : Gill) (wrote : List Nat) : Gill := wrote.foldl (fun x a => x.healed a 4) x

/-- The gain of a CC120 ramp in the coming frame: 1 outside one. -/
def Voice.silenceGain (v : Voice) : F32 :=
  if v.left = 0 then (if v.state == .silencing then 0#32 else fOne) else gRatio (v.left - 1 : Nat) 8

/-- A voice one frame further in its CC120 ramp; a stolen one ends with it. -/
def Voice.silenceStep (v : Voice) : Voice :=
  if v.left = 0 then v else { v with left := v.left - 1, ended := v.ended || (v.left == 1 && v.state != .silencing) }

/-- A slot's voice in one frame: its sources and destinations, its elements, and its part in the gill's outputs. -/
def GillWork.slotFrame (w : GillWork) (env : VoiceEnv) (routes : List MycRouteRec) (x : MycStruct) (tick : Nat)
    (srcs : List F32) (k : Nat) (v : Voice) : GillWork × Voice :=
  let h := hyphaVoice routes x.active srcs env.st.dests.length tick x.tickDue v
  let r := renderVoice env w.trough h.voice
  let v1 := { r.voice with state := if r.fault.isSome then .faulted else r.voice.state }
  ({ trough := r.trough, sum := addOuts w.sum r.outs v.silenceGain (v.left != 0 || v.state == .silencing), gill := (w.gill.note r k).healedAll r.wrote,
     nans := w.nans + h.nans, sats := w.sats + h.sats }, v1.silenceStep)

/-- A shadow or cut voice in one frame: its fade gain is base × (1 - (j + 1)/C). -/
def GillWork.fadeFrame (w : GillWork) (env : VoiceEnv) (id : Nat) (base : F32) (v : Voice) : GillWork × Voice :=
  let r := renderVoice env w.trough v
  let gain := gMul base (gSub fOne (gRatio (v.fadeJ + 1 : Nat) v.fadeC))
  let full := if v.left = 0 then gain else gMul gain v.silenceGain
  let v1 := { r.voice with fadeJ := v.fadeJ + 1, ended := r.voice.ended || r.fault.isSome,
                           fadeG := if v.state == SlotState.fading then gain else v.fadeG }
  ({ w with trough := r.trough, sum := addOuts w.sum r.outs full true, gill := (w.gill.note r id).healedAll r.wrote }, v1.silenceStep)

/-- The sources and counts that a gill's frame gives its structure (R196). -/
def State.mycNote (s : State) (n id nans sats : Nat) : State :=
  if nans = 0 ∧ sats = 0 then s
  else s.updMycStruct n id (fun x =>
    { x with status := x.status ||| (if nans = 0 then 0#2 else 1#2) ||| (if sats = 0 then 0#2 else 2#2),
             nanCnt := errCount x.nanCnt nans, satCnt := errCount x.satCnt sats })

/-- One frame of gill g of structure st of tenancy n, in pool p (R154 to R156). -/
def State.renderGill (s : State) (g n : Nat) (st : StructRec) (p : Nat) : State :=
  let x := s.gills.get g
  let t := s.tcfg n
  let ms := (s.mycStruct n st.id).getD (MycStruct.load t st.id)
  let env : VoiceEnv := { st := st, fs := s.fs, eccBad := (x.ecc.filter Prod.snd).map Prod.fst }
  let routes := t.routesOf st.id
  let start : GillWork × Bank Slot 16 :=
    ({ trough := x.trough, sum := List.replicate 4 0#32, gill := x, nans := 0, sats := 0 }, x.slots)
  let a := (List.range st.slots).foldl (fun (acc : GillWork × Bank Slot 16) k =>
    let slot := acc.2.get k
    if slot.cur.live then
      let r := acc.1.slotFrame env routes ms (2 ^ t.tickLog st.id) (s.voiceSources n p ms.macros slot.cur) k slot.cur
      (r.1, acc.2.put k { slot with cur := r.2, free := freeLfos st s.fs g k s.time.frameIdx r.2 slot.free })
    else (acc.1, acc.2.put k { slot with free := freeLfos st s.fs g k s.time.frameIdx slot.cur slot.free })) start
  let b := (List.range 2).foldl (fun (acc : GillWork × Bank Voice 2) h =>
    let v := acc.2.get h
    if v.live then
      let r := acc.1.fadeFrame env (16 + h) fOne v
      (r.1, acc.2.put h r.2)
    else acc) (a.1, x.shadows)
  let c := if x.cut.live then b.1.fadeFrame env 18 x.cut.fadeG x.cut else (b.1, x.cut)
  let out : Bank F32 4 := Bank.make 4 (fun k => c.1.sum.getD k 0#32)
  let done : Gill := { c.1.gill with slots := a.2, shadows := b.2, cut := c.2, trough := c.1.trough, out := out }
  let active := (a.2.toList.filter (fun y => y.cur.state == .sounding || y.cur.state == .releasing)).length
  let fading := (b.2.toList.filter Voice.live).length + (if c.2.live then 1 else 0)
  let s1 := (s.modGills (fun b => b.put g done)).mycNote n st.id c.1.nans c.1.sats
  ((s1.count n 1 g active).count n 2 g fading).settleAll ((List.range 5).map (fun k => 8 * g + k))

/-- One frame boundary of gill g: ended voices freed, committed ones started, one sample rendered; a gill without a structure outputs
0.0 (R157). -/
def State.gillFrame (s : State) (g : Nat) : State :=
  match s.gillStruct g with
  | none => s.modGills (fun b => b.upd g (fun x => { x with out := Bank.all 4 0#32 }))
  | some (n, st) =>
    let s1 := s.freeEnded g
    let s2 := (s1.startOrder g).foldl (fun s k => s.startSlot g k) s1
    s2.renderGill g n st (match s.gillPool g with
      | some (_, r) => r.pool
      | none => 0)

/-- Every gill's frame, and the tick boundaries of the mycelium served (R198). -/
def State.renderAll (s : State) : State :=
  let s1 := (List.range 48).foldl State.gillFrame s
  s1.modMyc (fun b => b.mapi (fun _ t => { t with structs := t.structs.map (fun x => { x with tickDue := false }) }))

end Sys2Proof.Machine
end

