-- ==== Sys2Proof/Machine/Pair.lean ====
section
/-! DEFINITION. The commands of chapter 17 and what a stage pair does at a frame boundary: roles, ownership, signatures, the Adeder
packets, synchronisation and revert. -/

namespace Sys2Proof.Machine

/-- Whether a pair's device runs frames. -/
def State.pairRuns (s : State) : Bool := s.inPair && s.dev.phase.frames

/-! ### The link (R398, R400, R404) -/

/-- The partner's digest received (R398): a difference unsynchronises the pair. -/
def State.partnerDigest (s : State) (d : Word) : State :=
  let fresh := !s.pair.pdigestKnown || s.pair.pdigest != d
  let s1 := s.modPair (fun p => { p with pdigest := d, pdigestKnown := true })
  if fresh && d != s.pairCfg.digest then (s1.pairFlag 14).unsync 7 else s1

/-- ADEDER_LINK_UP: each device sends its digest. -/
def State.linkUp (s : State) (digest : Word) : State :=
  let s1 := (s.modPair (fun p => { p with link := true, rxSeq := none })).pairFlag 6
  (s1.emit (.pairDigest s.pairCfg.digest)).partnerDigest digest

/-- ADEDER_LINK_UP. -/
def execAdederLinkUp (digest : Word) (s : State) : Res := .next (if s.inPair && !s.pair.link then s.linkUp digest else s)

/-- ADEDER_LINK_DOWN (R404). -/
def execAdederLinkDown (s : State) : Res :=
  .next (if s.inPair && s.pair.link then
    ((s.modPair (fun p => { p with link := false, pdigestKnown := false })).pairFlag 7).unsync 1
  else s)

/-- A packet received (R400): one that fails its CRC or arrives out of sequence is discarded and counted, and an EVENT, MIRROR or SYNC
packet among these unsynchronises the pair (R404). The sequence goes on from what was last received. -/
def State.packet (s : State) (h : LinkHead) (matters : Bool) (f : State → State) : State :=
  if s.inPair && s.pair.link then
    let inOrder := match s.pair.rxSeq with
      | none => true
      | some q => h.seq == q + 1#16
    let s1 := s.modPair (fun p => { p with rxSeq := if h.good then some h.seq else p.rxSeq.map (· + 1#16) })
    if h.good && inOrder then f s1
    else
      let s2 := s1.modPair (fun p => { p with crcErr := errCount p.crcErr 1 })
      if matters then s2.unsync 2 else s2
  else s

/-- A FRAME packet on the follower: its frame index, which the follower takes, and the signature of the frame before (R402, R405). -/
def State.frameTaken (s : State) (m : FramePkt) : State :=
  let s1 := s.partnerDigest m.digest
  if s.pair.forwarder then s1
  else
    let s2 := s1.modPair (fun p => { p with partnerFrame := some m.frame, partnerSig := some (m.frame - 1#64, m.signature) })
    if s.dev.phase.frames then s2.modTime (fun t => { t with frameIdx := m.frame }) else s2

/-- FRAME_PACKET. -/
def execFramePacket (m : FramePkt) (s : State) : Res := .next (s.packet m.head false (fun s => s.frameTaken m))

/-- SAMPLE_PACKET: the words that an incoming device drives first (R408). -/
def execSamplePacket (m : SamplePkt) (s : State) : Res :=
  .next (s.packet m.head false (fun s =>
    s.modPair (fun p => { p with sampleIn := m.words })))

/-- The ingress event of an EVENT packet: its message, its tenancy and where it belongs (R401). -/
def mirroredEvent (m : EventPkt) : RawEvent :=
  let h1 := m.event.getD 1 0#32
  { msg := .ump (m.event.getD 2 0#32) (m.event.getD 3 0#32), playAt := 0#64, value := none,
    mirror := some { render := m.render, pool := bits h1 27 23 }, ten := bits h1 22 20 }

/-- EVENT_PACKET on the follower: into the link event queue of 256 events, whose overflow unsynchronises the pair (R401, R404). -/
def State.eventTaken (s : State) (m : EventPkt) : State :=
  if !s.follows then s
  else if s.front.adeder.length < 256 then s.modFront (fun f => { f with adeder := f.adeder ++ [mirroredEvent m] })
  else s.unsync 3

/-- EVENT_PACKET. -/
def execEventPacket (m : EventPkt) (s : State) : Res := .next (s.packet m.head true (fun s => s.eventTaken m))

/-- REVERT_PACKET: an owning standby takes the hand-back boundary unless it has passed (R411). -/
def State.revertTaken (s : State) (h : DWord) : State :=
  if s.role == .standby && s.pairRuns && s.pair.own && decide (s.time.frameIdx.toNat < h.toNat) then
    s.modPair (fun p => { p with revertAt := some h })
  else s

/-- REVERT_PACKET. -/
def execRevertPacket (m : RevertPkt) (s : State) : Res := .next (s.packet m.head false (fun s => s.revertTaken m.frame))

/-- SYNC_PACKET: words of R205 gathered until PAIR_SYNC_COMMIT. -/
def execSyncPacket (m : SyncPkt) (s : State) : Res :=
  .next (s.packet m.head true (fun s =>
    if s.follows then s.modPair (fun p => { p with syncWords := p.syncWords ++ m.words }) else s))

/-- MIRROR_PACKET: a write into a region marked MIRROR; any other is discarded and unsynchronises the pair (R403). -/
def State.mirrorTaken (s : State) (m : MirrorPkt) : State :=
  let x := m.cistern * cisBytes + m.ofs
  if (List.range 64).all (fun i => s.mirrored (x + i)) && decide (m.ofs + 64 ≤ cisBytes) then s.cisWrite x (m.data.take 64)
  else s.unsync 8

/-- MIRROR_PACKET. -/
def execMirrorPacket (m : MirrorPkt) (s : State) : Res :=
  .next (s.packet m.head true (fun s => if s.follows then s.mirrorTaken m else s))

/-- IDLE_PACKET: a packet without payload, taken in sequence. -/
def execIdlePacket (s : State) : Res :=
  .next (s.packet { good := true, seq := (s.pair.rxSeq.getD 0#16) + 1#16 } false (fun s => s))

/-! ### Pins (R399, R402, R406) -/

/-- SP_FRAME_PULSE: the follower is locked to it. -/
def execSpFramePulse (s : State) : Res :=
  .next (if s.follows then s.modPair (fun p => { p with framePulse := true, holdover := false }) else s)

/-- SP_FRAME_MISSING: the follower's PLL holds its frequency and its frames go on. -/
def execSpFrameMissing (s : State) : Res :=
  .next (if s.follows && s.dev.phase.frames then s.modPair (fun p => { p with holdover := true }) else s)

/-- SP_OWN_IN_RISE clears OE, and with it the frozen outputs of a switch (R406). -/
def State.ownInRise (s : State) : State :=
  s.modPair (fun p => { p with ownIn := true, own := false, switch := if p.switch = some .frozen then none else p.switch })

/-- SP_OWN_IN_RISE. -/
def execSpOwnInRise (s : State) : Res := .next (if s.inPair then s.ownInRise else s)

/-- OE_SET: REQ has been 1 and SP_OWN_IN 0 for 50 ns (R406). -/
def execOeSet (s : State) : Res :=
  .next (if s.pairRuns && s.pair.req then s.modPair (fun p => { p with own := true, ownIn := false }) else s)

/-! ### The referee (R409) -/

/-- SP_SEL as Table 4 gives it: from its level and what the referee sees. -/
def refereeSel (sel : Bool) (i : RefereeIn) : Bool :=
  if sel then !(!i.frameRecent && i.hbPulsing)
  else (!i.standbyReq && !i.frameRecent && i.hbPulsing) || (i.standbyReq && i.matchHeld)

/-- REFEREE_EVALUATE: each change raises ES0999. -/
def execRefereeEvaluate (i : RefereeIn) (s : State) : Res :=
  let sel := refereeSel s.pair.selOut i
  .next (if s.role == .referee && sel != s.pair.selOut then
    (s.modPair (fun p => { p with selOut := sel })).pairFlag 15
  else s)

/-! ### Ownership at a boundary (R407, R408, R411) -/

/-- REQ at boundary f, with SP_SEL and SP_OWN_IN as sampled (R407). A standby that finds the primary favoured and requesting
gives way, so that the boundary after a double request resolves it (DEDUCED, log entry 32). -/
def State.pairReq (s : State) (f : DWord) (sel ownIn : Bool) : Bool :=
  let p := s.pair
  let low := if ownIn then 0 else p.ownLow + 1
  if s.role == .primary then sel && (p.req || p.own || decide (2 ≤ low) || p.revertAt == some f)
  else if p.revertAt == some f then false
  else if p.req then !(sel && ownIn) else !sel

/-- The ownership part of boundary f: requests, and the switch that a change of REQ begins (R407, R408). -/
def State.pairOwnership (s : State) (f : DWord) (sel ownIn : Bool) : State :=
  let req := s.pairReq f sel ownIn
  let both := s.pair.req == ownIn
  let s1 := s.modPair (fun p => { p with
    sel := sel, ownIn := ownIn, req := req, ownLow := if ownIn then 0 else min 2 (p.ownLow + 1),
    own := p.own && !ownIn,
    revertAt := p.revertAt.filter (fun h => decide (f.toNat < h.toNat)),
    bothReq := if both then errCount p.bothReq 1 else p.bothReq })
  let s2 := if both then s1.pairFlag 12 else s1
  if req && !s.pair.req && !s.pair.forwarder then
    ((s2.modPair (fun p => { p with switch := some (.incoming 2), forwarder := true, switchCnt := errCount p.switchCnt 1 })).pairFlag
      10).unsync 9
  else if !req && s.pair.req then
    ((s2.modPair (fun p => { p with switch := some .frozen, forwarder := false, switchCnt := errCount p.switchCnt 1 })).pairFlag
      11).unsync 9
  else s2

/-- The follower's verdict at boundary f on frame f - 2, with its heartbeat (R405): 0 MATCH, 1 MISMATCH, 2 UNSYNC. -/
def State.pairVerdict (s : State) (f : DWord) : State :=
  let p := s.pair
  let v := match p.partnerSig with
    | some (g, x) => if p.synced && g == f - 2#64 then (if x == p.sigPrev then 0 else 1) else 2
    | none => 2
  let s1 := s.modPair (fun p => { p with
    verdict := BitVec.ofNat 2 v,
    matchRun := if v = 0 then (if p.matchRun = 0xFFFFFFFF#32 then p.matchRun else p.matchRun + 1#32) else 0#32,
    mismatchCnt := if v = 1 then errCount p.mismatchCnt 1 else p.mismatchCnt })
  (if v = 1 && p.verdict == 0#2 && p.matchRun != 0#32 then s1.pairFlag 13 else s1).emit (.heartbeat (v + 1))

/-- The frames of the revert hold. -/
def State.revertFrames (s : State) : Nat := ceilDiv (s.cfg.dev.revertHold * s.fs) 1000

/-- A primary that follows names a hand-back boundary once the revert conditions hold (R411). -/
def State.pairRevert (s : State) (f : DWord) : State :=
  let p := s.pair
  if s.role == .primary && !p.forwarder && p.sel && !p.noRevert && p.syncedOnce && p.revertAt.isNone && p.verdict == 0#2 &&
      decide (s.revertFrames ≤ p.matchRun.toNat) then
    (s.adederSend 4 [lo32 (f + 4#64), hi32 (f + 4#64)]).modPair (fun p => { p with revertAt := some (f + 4#64) })
  else s

/-- What a pair does at boundary f before its outputs load. -/
def State.pairBoundary (s : State) (f : DWord) (sel ownIn : Bool) : State :=
  if !s.inPair then s
  else
    let s1 := if s.pair.forwarder then s else s.pairVerdict f
    (s1.pairOwnership f sel ownIn).pairRevert f

/-- The words of a SAMPLE packet: the loaded AOUT codes and the latched CV codes (Table 2). -/
def State.sampleWords (s : State) : List Word :=
  s.spout.aouts.toList.map (fun a => a.loaded.setWidth 32) ++ s.spout.cvs.toList.map (fun c => c.out.setWidth 32)

/-- The values of an incoming device's first two boundaries: the last SAMPLE packet's (R408). -/
def State.driveSample (s : State) : State :=
  match s.pair.switch with
  | some (.incoming k) =>
    let ws := s.pair.sampleIn
    let s1 := s.modSpout (fun p => { p with
      aouts := p.aouts.mapi (fun i a => { a with loaded := (ws.getD i 0#32).setWidth 24 }),
      cvs := p.cvs.mapi (fun i c => { c with out := (ws.getD (16 + i) 0#32).setWidth 18 }) })
    s1.modPair (fun p => { p with switch := if k ≤ 1 then none else some (.incoming (k - 1)) })
  | _ => s

/-- What a pair does once the outputs of boundary f have loaded: the signature, and the forwarder's pulse on SP_FRAME and its packets (R399,
R405, Table 2). -/
def State.pairLoaded (s : State) (f : DWord) : State :=
  if !s.inPair then s
  else
    let ws := s.sampleWords
    let last := s.pair.sig
    let s1 := s.modPair (fun p => { p with sig := crc32 (wordsBytes ws), sigPrev := last })
    if s.pair.forwarder then (s1.emit .spFrame |>.adederSend 1 [lo32 f, hi32 f, last, s.pairCfg.digest]).adederSend 2 ws else s1

/-! ### PAIR_SYNC (R205, R410) -/

/-- Accumulators and generators of the global LFOs. -/
def MycTen.lfoWords (t : MycTen) : List Word := t.glfos.toList.flatMap (fun g => [w32 g.acc.toNat, w32 (g.acc.toNat / 4294967296), g.gen])

/-- The macros of a tenancy: as written, and as each structure holds them. -/
def MycTen.macroWords (t : MycTen) : List Word :=
  t.macros.toList ++ t.structs.flatMap (fun x => x.macros.toList ++ x.macrosNext.toList)

/-- Both depth banks of every structure. -/
def MycTen.depthWords (t : MycTen) : List Word := t.structs.flatMap (fun x => x.active ++ x.pend)

/-- The state that PAIR_SYNC copies (R205). -/
def State.syncState (s : State) : List Word :=
  let ts := s.myc.toList
  ts.flatMap MycTen.lfoWords ++ s.pools.toList.map Pool.gen ++ s.pools.toList.map (fun p => w32 (flag p.alternate 0)) ++
    ts.flatMap MycTen.macroWords ++ ts.flatMap MycTen.depthWords

/-- Items changed in turn, each taking its words from the front of a list. -/
def takeEach {α : Type} (f : α → List Word → α × List Word) : List α → List Word → List α × List Word
  | [], ws => ([], ws)
  | x :: l, ws =>
    let r := f x ws
    let q := takeEach f l r.2
    (r.1 :: q.1, q.2)

/-- The items of a bank changed in turn. -/
def takeBank {α : Type} {n : Nat} [Inhabited α] (f : α → List Word → α × List Word) (b : Bank α n) (ws : List Word) :
    Bank α n × List Word :=
  let r := takeEach f b.toList ws
  (Bank.make n (fun i => r.1.getD i default), r.2)

/-- A global LFO takes its words. -/
def Glfo.takeSync (g : Glfo) (ws : List Word) : Glfo × List Word :=
  ({ g with acc := BitVec.ofNat 48 ((ws.getD 0 0#32).toNat + (ws.getD 1 0#32).toNat * 4294967296), gen := ws.getD 2 1#32 }, ws.drop 3)

/-- A structure takes its macros. -/
def MycStruct.takeMacros (x : MycStruct) (ws : List Word) : MycStruct × List Word :=
  ({ x with macros := Bank.make 4 (fun i => ws.getD i 0#32), macrosNext := Bank.make 4 (fun i => ws.getD (4 + i) 0#32) }, ws.drop 8)

/-- A structure takes its depth banks. -/
def MycStruct.takeDepths (x : MycStruct) (ws : List Word) : MycStruct × List Word :=
  let n := x.active.length
  ({ x with active := ws.take n, pend := (ws.drop n).take x.pend.length }, ws.drop (n + x.pend.length))

/-- A tenancy takes the words of its global LFOs. -/
def MycTen.takeLfos (t : MycTen) (ws : List Word) : MycTen × List Word :=
  let r := takeBank Glfo.takeSync t.glfos ws
  ({ t with glfos := r.1 }, r.2)

/-- A tenancy takes its macros. -/
def MycTen.takeMacros (t : MycTen) (ws : List Word) : MycTen × List Word :=
  let r := takeEach MycStruct.takeMacros t.structs (ws.drop 4)
  ({ t with macros := Bank.make 4 (fun i => ws.getD i 0#32), structs := r.1 }, r.2)

/-- A tenancy takes its depth banks. -/
def MycTen.takeDepths (t : MycTen) (ws : List Word) : MycTen × List Word :=
  let r := takeEach MycStruct.takeDepths t.structs ws
  ({ t with structs := r.1 }, r.2)

/-- The state of R205 taken from the words of the SYNC packets. -/
def State.takeSync (s : State) (ws : List Word) : State :=
  let a := takeBank MycTen.takeLfos s.myc ws
  let b := takeBank (fun (p : Pool) ws => ({ p with gen := ws.getD 0 1#32 }, ws.drop 1)) s.pools a.2
  let c := takeBank (fun (p : Pool) ws => ({ p with alternate := (ws.getD 0 0#32).getLsbD 0 }, ws.drop 1)) b.1 b.2
  let d := takeBank MycTen.takeMacros a.1 c.2
  let e := takeBank MycTen.takeDepths d.1 d.2
  (s.modMyc (fun _ => e.1)).modPools (fun _ => c.1)

/-- The lines of every MIRROR region, by BAR2 line number. -/
def State.mirrorLines (s : State) : List Nat :=
  (List.range 8).flatMap (fun n => (s.tcfg n).cisterns.regions.flatMap (fun r =>
    if r.mirror then (List.range (r.length / 64)).map (fun k => (r.cistern * cisBytes + r.offset) / 64 + k) else []))

/-- The PAIR_SYNC that holds its permit. -/
def State.syncOp (s : State) : Option LongOp := s.ops.find? (fun o => o.code == .pairSync && o.started && o.mayRun)

/-- The copy of PAIR_SYNC at a boundary after its grant: with ARG0 bit 0 every MIRROR region is sent behind the live writes, and S is
the second boundary after it (R410). -/
def State.pairCopy (s : State) (f : DWord) : State :=
  match s.syncOp with
  | none => s
  | some o =>
    if s.pair.syncAt.isSome then s
    else
      let lines := if (o.args.get 0).getLsbD 0 then s.mirrorLines else []
      let s1 := lines.foldl (fun s l => s.mirrorSend (l * 64, s.mem.cis.getBytes (l * 64) 64)) s.mirrorFlush
      s1.modPair (fun p => { p with syncAt := some (f + 2#64) })

/-- The pair is synchronised at frame S (R404, R410). -/
def State.pairSynced (s : State) (f : DWord) : State :=
  (s.modPair (fun p => { p with
    synced := true, syncedOnce := true, syncLo := lo32 f, syncHi := hi32 f, syncAt := none, syncWords := [], matchRun := 0#32 })).pairFlag 9

/-- Words cut into packets. -/
def chunks (k : Nat) : Nat → List Word → List (List Word)
  | 0, _ => []
  | n + 1, ws => if ws.isEmpty then [] else ws.take k :: chunks k n (ws.drop k)

/-- PAIR_SYNC_COMMIT: at S the forwarder sends the state of R205 and completes; the follower frees its voices and takes that state. -/
def State.pairSyncCommit (s : State) : State :=
  if s.pair.forwarder then
    match s.pair.syncAt, s.syncOp with
    | some f, some o =>
      if f.toNat ≤ s.time.frameIdx.toNat then
        let ws := s.syncState
        let s1 := (chunks 64 ws.length ws).foldl (fun s c => s.adederSend 5 c) s
        (s1.pairSynced f).finishOp o.handle csDone [lo32 f]
      else s
    | _, _ => s
  else if s.pair.syncWords.isEmpty then s
  else ((s.freeAllVoices).takeSync s.pair.syncWords).pairSynced s.time.frameIdx

/-- PAIR_SYNC_COMMIT. While the digests differ the pair cannot be synchronised (R398). -/
def execPairSyncCommit (s : State) : Res := .next (if s.pairRuns && s.pair.link && s.digestsAgree then s.pairSyncCommit else s)

/-! ### Start-up (R402) -/

/-- Whether a device of a pair becomes the follower at S10: the levels of SP_SEL and SP_OWN_IN as last known. -/
def State.startsFollower (s : State) : Bool :=
  match s.role with
  | .primary => s.pair.ownIn || !s.pair.sel
  | .standby => s.pair.sel || s.pair.ownIn
  | _ => false

end Sys2Proof.Machine
end

