-- ==== Sys2Proof/Machine/Image.lean ====
section
/-! DEFINITION. The spawn image (chapter 02): the reader of its fields, what the loader builds while it walks the image, and the records of
the device, tenancy, structure, mycelium, Forager and well sections. A record's checks stand in the order of R44: length, field value,
duplicate, ownership, ownership reference, structure rules. -/

namespace Sys2Proof.Machine

/-! ### Error codes (Table 7) -/

def eLength : Nat := 0x01
def eMagic : Nat := 0x02
def eFormat : Nat := 0x03
def ePart : Nat := 0x04
def eKind : Nat := 0x05
def eBounds : Nat := 0x06
def eType : Nat := 0x07
def eVersion : Nat := 0x08
def eScope : Nat := 0x09
def eOrder : Nat := 0x0A
def eTag : Nat := 0x0B
def eRecLength : Nat := 0x0C
def eField : Nat := 0x0D
def eDuplicate : Nat := 0x0E
def eMissing : Nat := 0x0F
def eOwnership : Nat := 0x10
def eNotOwned : Nat := 0x11
def ePartial : Nat := 0x12
def eStructure : Nat := 0x13
def eCycles : Nat := 0x14
def eCapacity : Nat := 0x15
def eStoreFull : Nat := 0x16
def ePower : Nat := 0x17
def eCrc : Nat := 0x18
def eSigMissing : Nat := 0x19
def eSigKey : Nat := 0x1A
def eSigBad : Nat := 0x1B
def eLifecycle : Nat := 0x1C
def eApply : Nat := 0x1D
def eDirectory : Nat := 0x1E
def eSource : Nat := 0x1F

/-- A failing check: its code, the byte offset, the section index and the record tag (R59). -/
structure ImgErr where
  code : Nat
  ofs : Nat
  sec : Nat
  tag : Nat
deriving DecidableEq, Repr, Inhabited

/-! ### Fields (R36) -/

def u8 (b : List Byte) (i : Nat) : Nat := (b.getD i 0#8).toNat
def u16 (b : List Byte) (i : Nat) : Nat := u8 b i + 256 * u8 b (i + 1)
def u32 (b : List Byte) (i : Nat) : Nat := u16 b i + 65536 * u16 b (i + 2)
def u64 (b : List Byte) (i : Nat) : Nat := u32 b i + 4294967296 * u32 b (i + 4)

/-- A field of type f32. -/
def fieldF (b : List Byte) (i : Nat) : F32 := w32 (u32 b i)

/-- A field of type i32. -/
def fieldI (b : List Byte) (i : Nat) : Int := signed 32 (u32 b i)

/-- A value cut into entries of m bytes. -/
def entries (m : Nat) : Nat → List Byte → List (List Byte)
  | 0, _ => []
  | n + 1, b => if b.isEmpty then [] else b.take m :: entries m n (b.drop m)

/-- The entries of a value of the form "n entries of m bytes". -/
def entriesOf (m : Nat) (b : List Byte) : List (List Byte) := entries m b.length b

/-- Whether a list names nothing twice. -/
def distinct {α : Type} [BEq α] : List α → Bool
  | [] => true
  | x :: l => !l.contains x && distinct l

/-- A check: the error code unless it holds. -/
def need (c : Bool) (code : Nat) : Except Nat Unit := if c then .ok () else .error code

/-! ### What the loader builds -/

/-- The load in progress. part is the target of a PARTIAL image; holders the cistern owners it is checked against; image where a PARTIAL
image lies; payload and raw are newest first; walked gives type, scope and offset of the sections so far, newest first, and tags the records of the section
under way; cur is the structure under way; lack the first mandatory record found missing; ahead the sections that are still to come. -/
structure Build where
  part : Option Nat
  dev : DeviceCfg
  ten : Bank TenancyCfg 8
  holders : Option (List (Option Nat))
  image : Nat × Nat
  payload : List (Nat × List Byte)
  raw : List RawSection
  walked : List (Nat × Nat × Nat)
  tags : List Nat
  cur : StructRec
  pub : List Byte
  sig : List Byte
  sigAt : Option Nat
  lack : Option (Nat × Nat)
  ahead : List RawSection
  crf : Option Nat
deriving DecidableEq, Repr, Inhabited

/-- A structure without records. -/
def StructRec.empty : StructRec := { id := 0, slots := 0, gills := 0, elems := [], conns := [], params := [] }

/-- A full load that has read nothing. -/
def Build.full : Build :=
  { part := none, dev := DeviceCfg.default, ten := Bank.all 8 TenancyCfg.default, holders := none, image := (0, 0), payload := [],
    raw := [], walked := [], tags := [], cur := StructRec.empty, pub := [], sig := [], sigAt := none, lack := none,
    ahead := [], crf := none }

/-- The configuration of a tenancy as built so far. -/
def Build.tc (b : Build) (t : Nat) : TenancyCfg := b.ten.get t

/-- The configuration of a tenancy changed. -/
def Build.upTen (b : Build) (t : Nat) (f : TenancyCfg → TenancyCfg) : Build := { b with ten := b.ten.upd t f }

/-- The device configuration changed. -/
def Build.upDev (b : Build) (f : DeviceCfg → DeviceCfg) : Build := { b with dev := f b.dev }

/-- What a tenancy owns changed. -/
def Build.upOwn (b : Build) (t : Nat) (f : OwnRec → OwnRec) : Build := b.upTen t (fun c => { c with own := f c.own })

/-- Whether p holds of no other tenancy. -/
def Build.noOther (b : Build) (t : Nat) (p : TenancyCfg → Bool) : Bool := (List.range 8).all (fun n => n == t || !p (b.tc n))

/-- Whether tenancy t owns a peripheral instance. -/
def Build.hasPeriph (b : Build) (t cls i : Nat) : Bool := (b.tc t).own.periph.contains (cls, i)

/-- Whether tenancy t owns a cistern: by its record, or for a partial image by what it holds now. -/
def Build.hasCis (b : Build) (t c : Nat) : Bool :=
  match b.holders with
  | none => (b.tc t).own.cisterns.testBit c
  | some l => l.getD c none == some t

/-- Whether n bytes at BAR2 offset x lie wholly inside cisterns of tenancy t (R41). -/
def Build.hasSpan (b : Build) (t x n : Nat) : Bool :=
  decide (x + n ≤ cisSpace) &&
    (List.range 24).all (fun c => decide (c * cisBytes + cisBytes ≤ x) || decide (x + n ≤ c * cisBytes) || b.hasCis t c)

/-- Whether every gill of a mask is owned by tenancy t. -/
def Build.hasGills (b : Build) (t mask : Nat) : Bool := mask &&& (b.tc t).own.gills == mask

/-! ### References to what is defined later (R37) -/

/-- The records of a section body, by tag, as far as they tile it. -/
def recordsIn : Nat → List Word → List (Nat × List Byte)
  | 0, _ => []
  | fuel + 1, ws => match ws with
    | [] => []
    | h :: rest =>
      let n := (bits h 31 16 + 3) / 4
      (bits h 15 0, (wordsBytes (rest.take n)).take (bits h 31 16)) :: recordsIn fuel (rest.drop n)

/-- Whether a record that p holds of still comes, in a section of a type and scope. -/
def Build.later (b : Build) (type scope : Nat) (p : Nat → List Byte → Bool) : Bool :=
  b.ahead.any (fun x => x.type == type && x.scope == scope && (recordsIn x.words.length (x.words.drop 2)).any (fun r => p r.1 r.2))

/-- Whether a structure that p holds of, by id and gill mask, is defined only later. -/
def Build.laterStruct (b : Build) (t : Nat) (p : Nat → Nat → Bool) : Bool :=
  b.later 0x03 t (fun tag v => tag == 1 && p (u8 v 0) (u64 v 4))

/-- Whether a pool is defined only later. -/
def Build.laterPool (b : Build) (t pool : Nat) : Bool :=
  b.later 0x05 t (fun tag v => tag == 1 && (entriesOf 16 v).any (fun e => u8 e 0 == pool))

/-- Whether a well is defined only later. -/
def Build.laterWell (b : Build) (t well : Nat) : Bool :=
  b.later 0x06 t (fun tag v => tag == 1 && (entriesOf 12 v).any (fun e => u16 e 0 == well))

/-- The check of a reference: E_ORDER where what it names is defined later in the image, otherwise the code given (R37). -/
def needRef (c later : Bool) (code : Nat) : Except Nat Unit := need c (if later then eOrder else code)

/-- Whether two masks share a bit. -/
def meets (a b : Nat) : Bool := a &&& b != 0

/-! ### DEVICE and TENANCY -/

/-- The signal balls supplied from VDDIO_A to VDDIO_D, as first and last index (Tables 3 to 5 of chapter 19). -/
def ioBalls : List (Nat × Nat) := [
  (18, 21), (24, 24), (41, 44), (68, 71), (97, 182), (185, 190), (193, 220), (229, 230), (239, 244), (249, 252), (257, 260), (265, 268),
  (273, 276), (281, 284), (289, 292), (297, 320), (338, 345), (363, 370), (387, 391), (409, 410)]

/-- Whether ball i is supplied from VDDIO_A to VDDIO_D. -/
def ioBall (i : Nat) : Bool := ioBalls.any (fun r => decide (r.1 ≤ i) && decide (i ≤ r.2))

/-- Whether ball i is one of GP00 to GP35. -/
def gpBall (i : Nat) : Bool := (decide (101 ≤ i) && decide (i ≤ 120)) || (decide (297 ≤ i) && decide (i ≤ 312))

/-- Whether a PIN_FUNC entry passes the checks of R436. -/
def pinOk (r : PinFuncRec) : Bool :=
  decide (r.ball ≤ 410) && decide (r.pad < 16) &&
    (if gpBall r.ball then decide (r.func ≤ 0x61) && r.pad % 4 != 3
     else r.func == 0 && (if ioBall r.ball then r.pad % 4 == 0 else r.pad == 0))

/-- A record of the DEVICE section. -/
def recDevice (b : Build) (tag : Nat) (v : List Byte) : Except Nat Build :=
  match tag with
  | 1 => do
    need (u32 v 0 < 64 && u8 v 0 % 16 < 6 && u8 v 0 / 16 < 3) eField
    return b.upDev (fun d => { d with fs := u8 v 0 % 16, clock := u8 v 0 / 16 })
  | 2 => do
    need (u32 v 0 < 256 && u8 v 0 % 2 == 1) eField
    return b.upDev (fun d => { d with present := u8 v 0 })
  | 3 => do
    need (u32 v 0 < 16) eField
    return b.upDev (fun d => { d with ioBanks := u8 v 0 })
  | 4 => do
    let es := (entriesOf 4 v).map (fun e => ({ ball := u16 e 0, func := u8 e 2, pad := u8 e 3 } : PinFuncRec))
    let all := b.dev.pins ++ es
    need (es.all pinOk) eField
    need (distinct (all.map PinFuncRec.ball) && distinct ((all.map PinFuncRec.func).filter (· != 0))) eDuplicate
    return b.upDev (fun d => { d with pins := all })
  | 5 => do
    let ws := [w32 (u32 v 0), w32 (u32 v 4), w32 (u32 v 8), w32 (u32 v 12)]
    need (ws.all (· != 0#32)) eField
    return b.upDev (fun d => { d with seeds := ws })
  | _ => do
    need (u32 v 0 &&& 0x87 == u32 v 0) eField
    return b.upDev (fun d => { d with cs1 := if 128 ≤ u8 v 0 then some (u8 v 0 % 8) else none })

/-- How many instances a peripheral class of OWN_PERIPH has (0: no class). -/
def periphCount (cls : Nat) : Nat := [0, 8, 2, 8, 24, 40, 4, 2, 1, 16, 16, 64, 64, 4].getD cls 0

/-- A record of a TENANCY section. -/
def recTenancy (b : Build) (t tag : Nat) (v : List Byte) : Except Nat Build :=
  match tag with
  | 1 => do
    need (u64 v 0 < 2 ^ 48) eField
    need (b.noOther t (fun c => meets c.own.gills (u64 v 0))) eOwnership
    return b.upOwn t (fun o => { o with gills := u64 v 0 })
  | 2 => do
    need (u32 v 0 < 2 ^ 24) eField
    need (b.noOther t (fun c => meets c.own.cisterns (u32 v 0))) eOwnership
    return b.upOwn t (fun o => { o with cisterns := u32 v 0 })
  | 3 => do
    need (b.noOther t (fun c => meets c.own.pumps (u32 v 0))) eOwnership
    return b.upOwn t (fun o => { o with pumps := u32 v 0 })
  | 4 => do
    need (u32 v 0 < 16) eField
    need (b.noOther t (fun c => meets c.own.engines (u32 v 0))) eOwnership
    return b.upOwn t (fun o => { o with engines := u32 v 0 })
  | 5 => do
    let es := (entriesOf 2 v).map (fun e => (u8 e 1, u8 e 0))
    let all := (b.tc t).own.periph ++ es
    need (es.all (fun e => e.2 < periphCount e.1)) eField
    need (distinct all) eDuplicate
    need (b.noOther t (fun c => c.own.periph.any es.contains)) eOwnership
    return b.upOwn t (fun o => { o with periph := all })
  | 6 => do
    need (v.all (fun x => x.toNat < 128) && (v.dropWhile (· != 0#8)).all (· == 0#8)) eField
    return b.upOwn t (fun o => { o with name := v })
  | _ => do
    need (u32 v 0 < 4) eField
    return b.upOwn t (fun o => { o with permitClass := u8 v 0 })

/-! ### STRUCTURE (R158 to R161, R181) -/

/-- The element of a type code (Table 5). -/
def elemOfCode (c : Nat) : Option ElemKind :=
  [ElemKind.blep, .wavetable, .sample, .fm, .pd, .noise, .svf, .ladder, .comb, .shaper, .mix, .amp, .env, .lfo][c - 1]?.filter
    (fun _ => c != 0)

/-- The per-voice limits of Table 1 of chapter 07, with at least one AMP and one ENV, AMP0 naming a gating ENV, and no SUSTAIN or other
rule that needs the parameters (R158). -/
def elemsOk (es : List ElemRec) : Bool :=
  let n (p : ElemKind → Bool) : Nat := (es.filter (fun e => p e.kind)).length
  let envs := n (· == .env)
  let amps := es.filter (fun e => e.kind == .amp)
  decide (es.length ≤ 21) && decide (n ElemKind.isOsc ≤ 4) && decide (n (· == .noise) ≤ 1) && decide (n ElemKind.isFilter ≤ 2) &&
    decide (n (· == .shaper) ≤ 1) && decide (n (· == .mix) ≤ 1) && decide (n (· == .amp) ≤ 2) && decide (envs ≤ 6) &&
    decide (n (· == .lfo) ≤ 4) && decide (1 ≤ envs) &&
    (match amps with
     | [] => false
     | a :: rest => decide (a.options < envs) && rest.all (fun x => x.options == 15 || decide (x.options < envs)))

/-- The sources of a CONNECT entry that are valid, in order. -/
def connSources (e : List Byte) : List (Nat × Nat) :=
  ((List.range 4).map (fun i => u8 e (2 + i))).filterMap (fun s => if 128 ≤ s then some (s % 32, s / 32 % 4) else none)

/-- Whether a CONNECT entry names inputs and outputs that exist, each source before its destination (R41, R159). -/
def connOk (es : List ElemRec) (c : ConnRec) : Bool :=
  let inputs := if c.dest = 31 then 4 else match es[c.dest]? with
    | some e => e.kind.inputs
    | none => 0
  decide (c.input < inputs) && c.sources.all (fun s => match es[s.1]? with
    | some e => decide (s.2 < e.kind.outputs) && decide (s.1 < c.dest)
    | none => false)

/-- Whether a PARAM entry's value is in its range (R161). -/
def paramOk (es : List ElemRec) (p : ParamRec) : Bool :=
  match es[p.elem]? with
  | none => false
  | some e => match e.kind.param p.id with
    | none => false
    | some i =>
      let n := gToInt p.value
      fIsFinite p.value && gLe i.lo p.value && gLe p.value i.hi && (!i.integral || gEq (gOfInt n) p.value) &&
        (if e.kind == .sample && p.id == 4 then n % 64 == 0
         else if e.kind == .sample && p.id == 6 then [256, 512, 1024, 2048, 4096].contains n
         else true)

/-- A record of a STRUCTURE section. -/
def recStructure (b : Build) (t tag : Nat) (v : List Byte) : Except Nat Build :=
  match tag with
  | 1 => do
    let mask := u64 v 4
    need (u8 v 0 < 48 && 1 ≤ u8 v 1 && u8 v 1 ≤ 16 && u16 v 2 == 0 && mask < 2 ^ 48) eField
    need (!(b.tc t).structs.any (fun r => r.id == u8 v 0)) eDuplicate
    need (b.hasGills t mask) eNotOwned
    need (!(b.tc t).structs.any (fun r => meets r.gills mask)) eStructure
    return { b with cur := { b.cur with id := u8 v 0, slots := u8 v 1, gills := mask } }
  | 2 => do
    let es := entriesOf 4 v
    let kinds := es.map (fun e => (elemOfCode (u8 e 0), u16 e 2))
    need (es.all (fun e => u8 e 1 == 0) && kinds.all (fun k => match k.1 with
      | some x => x.optionsOk k.2
      | none => false)) eField
    let recs := kinds.filterMap (fun k => k.1.map (fun x => ({ kind := x, options := k.2 } : ElemRec)))
    need (elemsOk recs) eStructure
    return { b with cur := { b.cur with elems := recs } }
  | 3 => do
    let es := entriesOf 8 v
    need (es.all (fun e => u16 e 6 == 0)) eField
    let cs := es.map (fun e => ({ dest := u8 e 0, input := u8 e 1, sources := connSources e } : ConnRec))
    let all := b.cur.conns ++ cs
    need (cs.all (connOk b.cur.elems) && distinct (all.map (fun c => (c.dest, c.input)))) eStructure
    return { b with cur := { b.cur with conns := all } }
  | _ => do
    let es := entriesOf 8 v
    let ps := es.map (fun e => ({ elem := u8 e 0, id := u8 e 1, value := fieldF e 4 } : ParamRec))
    let all := b.cur.params ++ ps
    need (es.all (fun e => u16 e 2 == 0) && ps.all (paramOk b.cur.elems)) eField
    need (distinct (all.map (fun p => (p.elem, p.id)))) eDuplicate
    need (ps.all (fun p => match b.cur.elems[p.elem]? with
      | some e => !(e.kind == .sample && p.id == 8) || (b.tc t).own.pumps.testBit (gToInt p.value).toNat
      | none => true)) eNotOwned
    return { b with cur := { b.cur with params := all } }

/-- The areas of the trough that a structure uses (R166, R181, R182): start and length in bytes. -/
def StructRec.areas (st : StructRec) : List (Nat × Nat) :=
  let stores := st.slots + 3
  st.elems.zipIdx.flatMap (fun e =>
    let p (id : Nat) : Nat := st.baseNat e.2 id
    match e.1.kind with
    | .wavetable => [(p 5 * 4096, p 6 * 4096)]
    | .sample => [(p 5 * 64, p 4), (p 7 * 64, stores * p 6)]
    | .comb => [(p 4 * 64, stores * p 5 * 4)]
    | _ => [])

/-- Whether areas lie inside the trough without overlap (R181). -/
def areasOk : List (Nat × Nat) → Bool
  | [] => true
  | a :: l => decide (a.1 + a.2 ≤ 131072) && l.all (fun x => decide (a.1 + a.2 ≤ x.1) || decide (x.1 + x.2 ≤ a.1)) && areasOk l

/-- Where the copies into the trough come from: BAR2 offset and length, with the place in the trough (R166, R182). -/
def StructRec.copies (st : StructRec) : List (Nat × Nat × Nat) :=
  st.elems.zipIdx.flatMap (fun e =>
    let p (id : Nat) : Nat := st.baseNat e.2 id
    match e.1.kind with
    | .wavetable => [(p 4 * 4096, p 6 * 4096, p 5 * 4096)]
    | .sample => [(p 3 * 4096, p 4, p 5 * 64)]
    | _ => [])

/-- The rules of a structure as a whole: POSITION within WAVES, SUSTAIN before the last segment, owned copy sources and pumps, trough areas,
and at most 57 destinations (R161, R176, R181). -/
def structWhole (b : Build) (t : Nat) (st : StructRec) : Except Nat Unit := do
  let kinds := st.elems.zipIdx
  need (kinds.all (fun e => e.1.kind != .wavetable || gLe (st.base e.2 3) (gOfInt ((st.baseNat e.2 6 : Int) - 1)))) eField
  need (st.copies.all (fun c => b.hasSpan t c.1 c.2.1)) eNotOwned
  need (kinds.all (fun e => e.1.kind != .sample || (b.tc t).own.pumps.testBit (st.baseNat e.2 8))) eNotOwned
  need (kinds.all (fun e => e.1.kind != .env || decide (gToInt (st.base e.2 4) < ((e.1.options % 16 : Nat) : Int) - 1))) eStructure
  need (areasOk st.areas && decide (st.dests.length ≤ 57)) eStructure

/-! ### MYCELIUM (R193, R197) -/

/-- Whether a source code names an ENV or LFO that the structure has, or none of these. -/
def sourceExists (st : StructRec) (c : Nat) : Bool :=
  if c < 6 then decide (c < (st.ofKind .env).length)
  else if c < 10 then decide (c - 6 < (st.ofKind .lfo).length)
  else true

/-- Whether a route is one that its structure can have (R197). -/
def routeOk (st : StructRec) (r : MycRouteRec) : Bool :=
  decide (r.dest < st.dests.length) && sourceExists st r.source && (!r.viaEnable || sourceExists st r.via)

/-- A record of a MYCELIUM section. DESIGN CHOICE: a GLFO's rate outside the range of its register (R207) is E_FIELD_VALUE (log entry 119). -/
def recMycelium (b : Build) (t tag : Nat) (v : List Byte) : Except Nat Build :=
  let c := b.tc t
  match tag with
  | 1 => do
    let es := entriesOf 4 v
    let ts := es.map (fun e => (u8 e 0, u8 e 1))
    let all := c.myc.ticks ++ ts
    need (es.all (fun e => u8 e 1 ≤ 4 && u16 e 2 == 0)) eField
    need (distinct (all.map Prod.fst)) eDuplicate
    needRef (ts.all (fun x => (c.struct x.1).isSome))
      (ts.any (fun x => (c.struct x.1).isNone && b.laterStruct t (fun id _ => id == x.1))) eStructure
    return b.upTen t (fun c => { c with myc := { c.myc with ticks := all } })
  | 2 => do
    let es := entriesOf 12 v
    let rs := es.map (fun e => ({ structId := u8 e 0, source := u8 e 1, dest := u8 e 2, curve := u8 e 3 % 8, audioRate := (u8 e 3).testBit 3,
                                  viaEnable := (u8 e 3).testBit 4, via := u8 e 4, depth := fieldF e 8 } : MycRouteRec))
    let all := c.myc.routes ++ rs
    need (es.all (fun e => u8 e 1 ≤ 47 && u8 e 2 ≤ 95 && u8 e 3 < 32 && u8 e 5 == 0 && u16 e 6 == 0 && fIsFinite (fieldF e 8)) &&
      rs.all (fun r => decide (r.via ≤ 54) && (r.viaEnable || r.via == 0))) eField
    needRef (rs.all (fun r => (c.struct r.structId).isSome))
      (rs.any (fun r => (c.struct r.structId).isNone && b.laterStruct t (fun id _ => id == r.structId))) eStructure
    need (rs.all (fun r => match c.struct r.structId with
      | some st => routeOk st r
      | none => false) &&
      c.structs.all (fun st =>
        let mine := all.filter (fun r => r.structId == st.id)
        decide (mine.length ≤ 128) && decide ((mine.filter MycRouteRec.audioRate).length ≤ 16))) eStructure
    return b.upTen t (fun c => { c with myc := { c.myc with routes := all } })
  | 3 => do
    let es := entriesOf 12 v
    let gs := es.map (fun e => ({ lfo := u8 e 0, shape := u8 e 1, rate := fieldF e 4, phase := fieldF e 8 } : GlfoRec))
    let all := c.myc.glfos ++ gs
    need (es.all (fun e => u8 e 0 < 8 && u8 e 1 < 8 && u16 e 2 == 0) && gs.all (fun g =>
      fIsFinite g.rate && gLe (gRatio 1 1000) g.rate && gLe g.rate (gOfInt 1000) && fIsFinite g.phase && gLe 0#32 g.phase &&
        gLe g.phase fOne)) eField
    need (distinct (all.map GlfoRec.lfo)) eDuplicate
    return b.upTen t (fun c => { c with myc := { c.myc with glfos := all } })
  | _ => do
    let es := entriesOf 4 v
    let ss := es.map (fun e => (u8 e 0, u8 e 1))
    let all := c.myc.sensors ++ ss
    need (es.all (fun e => u8 e 0 < 8 && 8 ≤ u8 e 1 && u8 e 1 < 40 && u16 e 2 == 0)) eField
    need (distinct (all.map Prod.fst)) eDuplicate
    need (ss.all (fun x => b.hasPeriph t pcFc x.2)) eNotOwned
    return b.upTen t (fun c => { c with myc := { c.myc with sensors := all } })

/-! ### FORAGER (R41, R145, R359) -/

/-- The pool modes, steal policies and note priorities by code. -/
def poolModes : List PoolMode := [.poly, .mono, .legato, .unison]
def stealPolicies : List StealPolicy := [.oldest, .quietest, .priority, .sameNote]
def notePriorities : List NotePriority := [.highest, .lowest, .last]

/-- A POOL entry. -/
def poolOf (e : List Byte) : PoolRec :=
  { pool := u8 e 0, mode := poolModes.getD (u8 e 1) .poly, unison := u8 e 2, steal := stealPolicies.getD (u8 e 3) .oldest,
    preferRelease := (u8 e 4).testBit 0, newVoice := (u8 e 4).testBit 1, priority := notePriorities.getD (u8 e 4 / 4) .highest,
    choke := u16 e 6, gills := u64 e 8 }

/-- Whether a POOL entry's fields are in range. -/
def poolFields (e : List Byte) : Bool :=
  decide (u8 e 0 < 32) && decide (u8 e 1 < 4) && (if u8 e 1 = 3 then decide (2 ≤ u8 e 2) && decide (u8 e 2 ≤ 8) else u8 e 2 == 0) &&
    decide (u8 e 3 < 4) && decide (u8 e 4 < 12) && u8 e 5 == 0 && decide (16 ≤ u16 e 6) && decide (u16 e 6 ≤ 4096) &&
    decide (u64 e 8 < 2 ^ 48)

/-- The structure of a gill in a tenancy. -/
def TenancyCfg.structOfGill (c : TenancyCfg) (g : Nat) : Option StructRec := c.structs.find? (fun r => r.gills.testBit g)

/-- Whether the gills of a pool run one structure, and a UNISON note fits its slots (R41, R145). -/
def poolWhole (c : TenancyCfg) (r : PoolRec) : Bool :=
  match gillsOf r.gills with
  | [] => r.unison == 0
  | g :: rest => match c.structOfGill g with
    | none => false
    | some st => rest.all (fun h => st.gills.testBit h) && decide (r.unison ≤ st.slots * (rest.length + 1))

/-- A record of a FORAGER section. -/
def recForager (b : Build) (t tag : Nat) (v : List Byte) : Except Nat Build :=
  let c := b.tc t
  let set (f : ForagerRec → ForagerRec) : Build := b.upTen t (fun c => { c with forager := f c.forager })
  let mine (p : Nat) : Bool := c.forager.pools.any (fun r => r.pool == p)
  match tag with
  | 1 => do
    let es := entriesOf 16 v
    let ps := es.map poolOf
    let all := c.forager.pools ++ ps
    need (es.all poolFields) eField
    need (distinct (all.map PoolRec.pool)) eDuplicate
    need (b.noOther t (fun o => o.forager.pools.any (fun r => ps.any (fun p => p.pool == r.pool)))) eOwnership
    need (ps.all (fun p => b.hasGills t p.gills)) eNotOwned
    needRef (ps.all (poolWhole c)) (ps.any (fun p => (gillsOf p.gills).any (fun g =>
      (c.structOfGill g).isNone && b.laterStruct t (fun _ mask => mask.testBit g)))) eStructure
    need (distinct (all.flatMap (fun p => gillsOf p.gills))) eStructure
    return set (fun f => { f with pools := all })
  | 2 => do
    let ps := (List.range 128).map (fun i => fieldI v (4 + 4 * i))
    need (u8 v 0 < 32 && u8 v 1 == 0 && u16 v 2 == 0 && ps.all (fun p => decide (-8388608 ≤ p) && decide (p ≤ 8388607))) eField
    need (!c.forager.tunings.any (fun x => x.1 == u8 v 0)) eDuplicate
    needRef (mine (u8 v 0)) (b.laterPool t (u8 v 0)) eNotOwned
    return set (fun f => { f with tunings := f.tunings ++ [(u8 v 0, ps)] })
  | _ => do
    let vs := (List.range 32).map (fun i => u16 v (8 + 2 * i))
    need (u8 v 0 < 32 && u8 v 1 == 0 && u16 v 2 == 0 && u16 v 4 != 0 && u16 v 4 < u16 v 6 && vs.all (· != 0)) eField
    need (!c.forager.velcurves.any (fun x => x.pool == u8 v 0)) eDuplicate
    needRef (mine (u8 v 0)) (b.laterPool t (u8 v 0)) eNotOwned
    return set (fun f => { f with velcurves := f.velcurves ++
      [{ pool := u8 v 0, fastest := u16 v 4, slowest := u16 v 6, velocity := vs }] })

/-! ### WELLS, CISTERNS, PUMPS -/

/-- The well types by code (Table 7 of chapter 05). -/
def wellTypes : List WellType := [.cmd, .cpl, .evt, .strm, .pkt]

/-- A record of a WELLS section. -/
def recWells (b : Build) (t : Nat) (v : List Byte) : Except Nat Build := do
  let c := b.tc t
  let es := entriesOf 12 v
  let ws := es.map (fun e => ({ well := u16 e 0, type := wellTypes.getD (u8 e 2) .cmd, k := u8 e 3, ring := u32 e 4 } : WellRec))
  let all := c.wells ++ ws
  need (es.all (fun e => u16 e 0 < 256 && u8 e 2 < 5 && 4 ≤ u8 e 3 && u8 e 3 ≤ 16 && u32 e 4 % 64 == 0 && u32 e 8 == 0)) eField
  need (distinct (all.map WellRec.well)) eDuplicate
  need (b.noOther t (fun o => o.wells.any (fun r => ws.any (fun w => w.well == r.well)))) eOwnership
  need (ws.all (fun w => b.hasSpan t w.ring (2 ^ w.k * 64))) eNotOwned
  need (decide ((all.filter (fun w => w.type == .cpl)).length ≤ 1)) eStructure
  return b.upTen t (fun c => { c with wells := all })

/-- A record of a CISTERNS section. The sealed storage of a tenancy can change by a full spawn only (R85), so a partial image keeps it. -/
def recCisterns (b : Build) (t tag : Nat) (v : List Byte) : Except Nat Build :=
  match tag with
  | 1 => do
    let es := entriesOf 16 v
    let rs := es.map (fun e => ({ cistern := u8 e 0, mirror := (u8 e 1).testBit 0, wipeOnRespawn := (u8 e 1).testBit 1,
                                  offset := u32 e 4, length := u32 e 8 } : RegionRec))
    need (es.all (fun e => u8 e 0 < 24 && u8 e 1 < 4 && u16 e 2 == 0 && u32 e 4 % 64 == 0 && u32 e 8 % 64 == 0 && u32 e 12 == 0)) eField
    need (rs.all (fun r => b.hasCis t r.cistern && decide (r.offset + r.length ≤ cisBytes))) eNotOwned
    return b.upTen t (fun c => { c with cisterns := { c.cisterns with regions := c.cisterns.regions ++ rs } })
  | _ => do
    let first := u8 v 4
    let count := u8 v 5
    need (u32 v 0 % 256 == 0 && first < 64 && count ≤ 64 && first + count ≤ 64 && u16 v 6 == 0) eField
    need (b.noOther t (fun o => match o.cisterns.sealedRec with
      | some r => decide (r.firstSlot < first + count) && decide (first < r.firstSlot + r.slotCount)
      | none => false)) eOwnership
    let rec_ : SealedRec := { bytes := u32 v 0, firstSlot := first, slotCount := count }
    return if b.part.isSome then b
      else b.upTen t (fun c => { c with cisterns := { c.cisterns with sealedRec := some rec_ } })

/-- Whether a pump's key slot, if it names one, is a slot of its tenancy. The SEALED record may stand before or after (R37), so this is
checked once every section has been walked. -/
def TenancyCfg.keyOk (c : TenancyCfg) (p : PumpRec) : Bool :=
  match p.keySlot, c.cisterns.sealedRec with
  | none, _ => true
  | some k, some r => decide (r.firstSlot ≤ k) && decide (k < r.firstSlot + r.slotCount)
  | some _, none => false

/-- A record of a PUMPS section. A page-table root is a multiple of 64 KiB (R273; DEDUCED, log entry 92), and a root in a cistern is a BAR2
offset. -/
def recPumps (b : Build) (t : Nat) (v : List Byte) : Except Nat Build := do
  let c := b.tc t
  let es := entriesOf 16 v
  let ps := es.map (fun e => ({ pump := u8 e 0, slots := u8 e 1, keySlot := if u8 e 2 = 255 then none else some (u8 e 2),
                                rootInCistern := u8 e 3 == 1, root := u64 e 4 } : PumpRec))
  let all := c.pumps ++ ps
  need (es.all (fun e => u8 e 0 < 32 && u8 e 1 ≤ 192 && (u8 e 2 < 64 || u8 e 2 == 255) && u8 e 3 < 2 && u64 e 4 % 65536 == 0 && u32 e 12 == 0)) eField
  need (distinct (all.map PumpRec.pump)) eDuplicate
  need (ps.all (fun p => c.own.pumps.testBit p.pump)) eNotOwned
  return b.upTen t (fun c => { c with pumps := all })

end Sys2Proof.Machine
end

