-- ==== Sys2Proof/Machine/ImageMore.lean ====
section
/-! DEFINITION. The records of the remaining sections of a spawn image: converters, Spout, ports, network, USB, Windlass, stage pair,
routes, reflexes, spores, payload, trace and signature. -/

namespace Sys2Proof.Machine

/-! ### FILTER_CHAIN -/

/-- Whether a preset is one of the channel's class (R292). -/
def presetFits (c p : Nat) : Bool :=
  if c < 8 then decide (p < 3) else if c < 40 then decide (0x10 ≤ p) && decide (p ≤ 0x13) else p == 0x20 || p == 0x21

/-- A record of a FILTER_CHAIN section; scope 255 is the device, which has FC40 to FC43. -/
def recFilter (b : Build) (scope : Nat) (v : List Byte) : Except Nat Build := do
  let es := entriesOf 4 v
  let cs := es.map (fun e => ({ channel := u8 e 0, preset := u8 e 1, pend1 := (u8 e 2).testBit 0, dcBlock := (u8 e 2).testBit 1 } : ChannelRec))
  let dev := scope == 255
  let all := (if dev then b.dev.channels else (b.tc scope).channels) ++ cs
  need (es.all (fun e => u8 e 2 < 4 && u8 e 3 == 0 && presetFits (u8 e 0) (u8 e 1) &&
    (if dev then 40 ≤ u8 e 0 && u8 e 0 < 44 else u8 e 0 < 40))) eField
  need (distinct (all.map ChannelRec.channel)) eDuplicate
  need (dev || cs.all (fun c => b.hasPeriph scope pcFc c.channel)) eNotOwned
  return if dev then b.upDev (fun d => { d with channels := all }) else b.upTen scope (fun c => { c with channels := all })

/-! ### SPOUT (R228, R312) -/

/-- The frame chains of every tenancy. -/
def Build.chains (b : Build) : List ChainRec := (List.range 8).flatMap (fun n => (b.tc n).spore.chain)

/-- Whether the STRM well w of a tenancy is one of its wells. -/
def TenancyCfg.hasStrm (c : TenancyCfg) (w : Nat) : Bool := c.wells.any (fun r => r.well == w && r.type == .strm)

/-- Whether tenancy t owns a BUS_IN source. -/
def Build.hasInput (b : Build) (t : Nat) (r : BusInRec) : Bool :=
  match r.cls with
  | 0 => (b.tc t).own.gills.testBit (r.index / 4)
  | 1 => b.hasPeriph t pcFc r.index
  | 2 => b.hasPeriph t pcSap (r.index / 16)
  | 3 => b.hasPeriph t pcListener (r.index / 8)
  | 4 => (b.tc t).hasStrm r.index
  | _ => b.hasPeriph t pcBus r.index

/-- Whether tenancy t owns a BUS_OUT destination. -/
def Build.hasOutput (b : Build) (t : Nat) (r : BusOutRec) : Bool :=
  match r.cls with
  | 0 => b.hasPeriph t pcLga (r.index / 4)
  | 1 => b.hasPeriph t pcLgc (r.index / 8)
  | 2 => b.hasPeriph t pcSap (r.index / 16)
  | 3 => b.hasPeriph t pcTalker (r.index / 8)
  | _ => (b.tc t).hasStrm r.index

/-- Index limits of the BUS_IN and BUS_OUT classes. -/
def busInCount (cls : Nat) : Nat := [192, 8, 128, 128, 256, 64].getD cls 0
def busOutCount (cls : Nat) : Nat := [16, 16, 128, 128, 256].getD cls 0

/-- Whether a STRM well is named on one side only (Table 7 of chapter 05). -/
def strmOneSide (s : SpoutRec) : Bool :=
  s.busIn.all (fun r => r.cls != 4 || !s.busOut.any (fun o => o.cls == 4 && o.index == r.index))

/-- Whether no BUS_IN record takes a chain output (R228). -/
def Build.busesClear (b : Build) : Bool :=
  (List.range 8).all (fun n => (b.tc n).spout.busIn.all (fun r => r.cls != 5 || !b.chains.any (fun c => c.busOut == r.index)))

/-- A record of a SPOUT section. -/
def recSpout (b : Build) (t tag : Nat) (v : List Byte) : Except Nat Build :=
  let c := b.tc t
  let set (f : SpoutRec → SpoutRec) : Build := b.upTen t (fun c => { c with spout := f c.spout })
  match tag with
  | 1 => do
    let rs := (entriesOf 8 v).map (fun e => ({ bus := u8 e 0, cls := u8 e 1, index := u16 e 2, gain := fieldF e 4 } : BusInRec))
    let next := set (fun s => { s with busIn := s.busIn ++ rs })
    need (rs.all (fun r => decide (r.bus < 64) && decide (r.index < busInCount r.cls))) eField
    needRef (rs.all (fun r => b.hasPeriph t pcBus r.bus && b.hasInput t r))
      (rs.any (fun r => r.cls == 4 && !b.hasInput t r && b.laterWell t r.index)) eNotOwned
    need (rs.all (fun r => r.cls != 5 || decide (r.index < r.bus)) && strmOneSide (next.tc t).spout && next.busesClear) eStructure
    return next
  | 2 => do
    let rs := (entriesOf 4 v).map (fun e => ({ bus := u8 e 0, cls := u8 e 1, index := u16 e 2 } : BusOutRec))
    let all := c.spout.busOut ++ rs
    let next := set (fun s => { s with busOut := all })
    need (rs.all (fun r => decide (r.bus < 64) && decide (r.index < busOutCount r.cls))) eField
    need (distinct (all.map (fun r => (r.cls, r.index)))) eDuplicate
    needRef (rs.all (fun r => b.hasPeriph t pcBus r.bus && b.hasOutput t r))
      (rs.any (fun r => r.cls == 4 && !b.hasOutput t r && b.laterWell t r.index)) eNotOwned
    need (strmOneSide (next.tc t).spout) eStructure
    return next
  | _ => do
    let rs := (entriesOf 4 v).map (fun e => ({ group := u8 e 0, code := u8 e 1, timer := u16 e 2 } : LoadGroupRec))
    let all := c.spout.groups ++ rs
    need (rs.all (fun r => decide (r.group < 6) && decide (r.code < if r.group < 4 then 3 else 4) && decide (r.timer < 96))) eField
    need (distinct (all.map LoadGroupRec.group)) eDuplicate
    need (rs.all (fun r => (if r.group < 4 then b.hasPeriph t pcLga r.group else b.hasPeriph t pcLgc (r.group - 4)) &&
      (decide (r.group < 4) || r.code != 1 || b.hasPeriph t pcTimer (r.timer / 4)))) eNotOwned
    return set (fun s => { s with groups := all })

/-! ### CHARACTER_PORTS, TIMERS_KEYBED (R356, R361, R368) -/

/-- The character-port and timer modes by code. -/
def uartModes : List UartMode := [.midi, .panel9, .async, .card]
def timerModes : List TimerMode := [.off, .capture, .paired, .compare, .autoAdd, .pwm]

/-- A record of a CHARACTER_PORTS section. -/
def recPorts (b : Build) (t tag : Nat) (v : List Byte) : Except Nat Build :=
  let c := b.tc t
  match tag with
  | 1 => do
    let es := entriesOf 12 v
    let us := es.map (fun e => ({ port := u8 e 0, mode := uartModes.getD (u8 e 1) .midi, wake := (u8 e 2).testBit 0,
                                  inverse := (u8 e 2).testBit 1, trigger := u8 e 3, rate := u32 e 4, matchVal := u16 e 8 } : UartRec))
    let all := c.uarts ++ us
    need (es.all (fun e => u8 e 0 < 8 && u8 e 1 < 4 && u8 e 2 < 4 && 1 ≤ u8 e 3 && u8 e 3 ≤ 16 && u16 e 8 < 512 && u16 e 10 == 0) &&
      us.all (fun u => (u.mode == .midi || (decide (300 ≤ u.rate) && decide (u.rate ≤ 33333333))) &&
        !(u.wake && (u.mode == .card || (u.mode != .midi && decide (250000 < u.rate)))))) eField
    need (distinct (all.map UartRec.port)) eDuplicate
    need (us.all (fun u => b.hasPeriph t pcUart u.port)) eNotOwned
    return b.upTen t (fun c => { c with uarts := all })
  | _ => do
    let es := entriesOf 4 v
    let is := es.map (fun e => ({ ctl := u8 e 0, speed := u8 e 1, timeout := u16 e 2 } : I2cRec))
    let all := c.i2cs ++ is
    need (is.all (fun i => decide (i.ctl < 2) && decide (i.speed < 3) && i.timeout != 0)) eField
    need (distinct (all.map I2cRec.ctl)) eDuplicate
    need (is.all (fun i => b.hasPeriph t pcI2c i.ctl)) eNotOwned
    return b.upTen t (fun c => { c with i2cs := all })

/-- A record of a TIMERS_KEYBED section. -/
def recTimers (b : Build) (t tag : Nat) (v : List Byte) : Except Nat Build :=
  let c := b.tc t
  match tag with
  | 1 => do
    let es := entriesOf 8 v
    let ts := es.map (fun e => ({ unit := u8 e 0, chan := u8 e 1, mode := timerModes.getD (u8 e 2) .off, prescale := u8 e 3,
                                  compare := u32 e 4 } : TimerRec))
    let all := c.timers ++ ts
    need (es.all (fun e => u8 e 0 < 24 && u8 e 1 < 4 && u8 e 2 < 6 && u8 e 3 < 16)) eField
    need (distinct (all.map (fun x => (x.unit, x.chan)))) eDuplicate
    need (ts.all (fun x => b.hasPeriph t pcTimer x.unit)) eNotOwned
    return b.upTen t (fun c => { c with timers := all })
  | _ => do
    need (1 ≤ u8 v 0 && u8 v 0 ≤ 128 && u8 v 1 < 128 && u8 v 2 < 32 && u8 v 3 == 0 && 20 ≤ u16 v 4 && u16 v 4 ≤ 10000 && u16 v 6 == 0) eField
    needRef (b.hasPeriph t pcKeybed 0 && c.forager.pools.any (fun r => r.pool == u8 v 2))
      (b.hasPeriph t pcKeybed 0 && b.laterPool t (u8 v 2)) eNotOwned
    return b.upTen t (fun c => { c with keybed := some { keys := u8 v 0, firstNote := u8 v 1, pool := u8 v 2, dwell := u16 v 4 } })

/-! ### NETWORK, USB (R337, R342) -/

/-- A record of a NETWORK section: ports for the device, streams for a tenancy. -/
def recNetwork (b : Build) (scope : Nat) (v : List Byte) : Except Nat Build :=
  if scope = 255 then do
    let es := entriesOf 8 v
    let ps := es.map (fun e => ({ port := u8 e 0, mdio := u8 e 1, role := u8 e 2, priority1 := u8 e 3 } : NetPortRec))
    let all := b.dev.ports ++ ps
    need (es.all (fun e => u8 e 0 < 2 && u8 e 1 < 32 && u8 e 2 < 3 && u32 e 4 == 0)) eField
    need (distinct (all.map NetPortRec.port)) eDuplicate
    return b.upDev (fun d => { d with ports := all })
  else do
    let c := b.tc scope
    let es := entriesOf 16 v
    let ss := es.map (fun e => ({ listener := u8 e 0 == 1, stream := u8 e 1, port := u8 e 2, channels := u8 e 3, streamId := w64 (u64 e 4),
                                  format := u8 e 12, offset := u16 e 14 } : StreamRec))
    let all := c.streams ++ ss
    let others := (List.range 8).flatMap (fun n => if n = scope then [] else (b.tc n).streams)
    need (es.all (fun e => u8 e 0 < 2 && u8 e 1 < 16 && u8 e 2 < 2 && 1 ≤ u8 e 3 && u8 e 3 ≤ 8 && u8 e 12 < 3 && u8 e 13 == 0)) eField
    need (distinct (all.map (fun s => (s.listener, s.stream))) && distinct ((others ++ all).map (fun s => (s.port, s.streamId)))) eDuplicate
    need (ss.all (fun s => b.hasPeriph scope (if s.listener then pcListener else pcTalker) s.stream)) eNotOwned
    return b.upTen scope (fun c => { c with streams := all })

/-- The USB descriptors in a row: each starts with its length, at least 2. -/
def usbParts : Nat → List Byte → Option (List (List Byte))
  | 0, b => if b.isEmpty then some [] else none
  | n + 1, b =>
    if b.isEmpty then some []
    else
      let k := u8 b 0
      if k < 2 ∨ b.length < k then none else (usbParts n (b.drop k)).map (fun l => b.take k :: l)

/-- The endpoints that follow an interface descriptor up to the next one. -/
def usbEndpoints (l : List (List Byte)) : List (Nat × Nat) :=
  (l.takeWhile (fun d => u8 d 1 != 4)).filterMap (fun d => if u8 d 1 = 5 then some (u8 d 2, u8 d 3 % 4) else none)

/-- The MIDI streaming interface settings of a descriptor set, each with the endpoints behind it: (interface, alternate, endpoints). -/
def midiSettings : List (List Byte) → List (Nat × Nat × List (Nat × Nat))
  | [] => []
  | d :: l =>
    if u8 d 1 = 4 ∧ u8 d 5 = 1 ∧ u8 d 6 = 3 then (u8 d 2, u8 d 3, usbEndpoints l) :: midiSettings l else midiSettings l

/-- Whether a descriptor set is one the device can serve (R342). -/
def usbOk (v : List Byte) : Bool :=
  match usbParts v.length v with
  | none => false
  | some l =>
    let bulk (e : List (Nat × Nat)) : Bool := e.all (fun x => x == (1, 2) || x == (0x81, 2)) && e.contains (1, 2) && e.contains (0x81, 2)
    (match l with
     | d :: _ => u8 d 1 == 1 && decide (18 ≤ d.length) && u8 d 7 == 64 && u8 d 17 == 1
     | [] => false) &&
      (l.filter (fun d => u8 d 1 == 2)).length == 1 &&
      (match midiSettings l with
       | [a, c] => a.1 == c.1 && a.2.1 == 0 && c.2.1 == 1 && bulk a.2.2 && bulk c.2.2
       | _ => false)

/-- A record of the USB section. The limit of 4,096 bytes on the descriptor set is one of capacity, checked in Phase C. -/
def recUsb (b : Build) (tag : Nat) (v : List Byte) : Except Nat Build :=
  match tag with
  | 1 => do
    need (usbOk v) eField
    return b.upDev (fun d => { d with usbDesc := v })
  | _ => do
    let es := entriesOf 4 v
    let ms := es.map (fun e => ({ iface := u8 e 0, group := u8 e 1, tenancy := u8 e 2 } : MidiMapRec))
    let all := b.dev.midiMap ++ ms
    need (es.all (fun e => u8 e 0 < 2 && u8 e 1 < 16 && b.dev.present.testBit (u8 e 2) && u8 e 2 < 8 && u8 e 3 == 0)) eField
    need (distinct (all.map (fun m => (m.iface, m.group)))) eDuplicate
    return b.upDev (fun d => { d with midiMap := all })

/-! ### WINDLASS, STAGE_PAIR, TRACE (R389) -/

/-- The supply detectors and pair roles by code. -/
def detectors_ : List Detector := [.sag, .dip, .surge, .ripple]
def pairRoles : List PairRole := [.single, .primary, .standby, .referee]

/-- A record of the WINDLASS section. The device's FILTER_CHAIN may stand before or after (R37), so the channels that SUPPLY records name
are checked once every section has been walked. -/
def recWindlass (b : Build) (tag : Nat) (v : List Byte) : Except Nat Build :=
  match tag with
  | 1 => do
    need (100 ≤ u32 v 0 && u32 v 0 ≤ 2000) eField
    return b.upDev (fun d => { d with budget := u32 v 0 })
  | 2 => do
    let es := entriesOf 12 v
    let ss := es.map (fun e => ({ channel := u8 e 0, detector := detectors_.getD (u8 e 1) .sag, level := u8 e 2, windows := u8 e 3,
                                  threshold := fieldF e 4, holdoff := u32 e 8 } : SupplyRec))
    let all := b.dev.supply ++ ss
    need (es.all (fun e => u8 e 0 < 4 && u8 e 1 < 4 && 1 ≤ u8 e 2 && u8 e 2 ≤ 2 && 1 ≤ u8 e 3 && 1 ≤ u32 e 8 && u32 e 8 ≤ 60000)) eField
    need (distinct (all.map (fun s => (s.channel, s.detector)))) eDuplicate
    return b.upDev (fun d => { d with supply := all })
  | _ => do
    need (64 ≤ u32 v 0 && u32 v 0 ≤ 4096) eField
    return b.upDev (fun d => { d with parkFade := u32 v 0 })

/-- The record of the STAGE_PAIR section. -/
def recPair (b : Build) (v : List Byte) : Except Nat Build := do
  need (u8 v 0 < 4 && u8 v 1 == 0 && 250 ≤ u16 v 2 && u16 v 2 ≤ 60000) eField
  return b.upDev (fun d => { d with role := pairRoles.getD (u8 v 0) .single, revertHold := u16 v 2 })

/-- A record of the TRACE section. -/
def recTrace (b : Build) (tag : Nat) (v : List Byte) : Except Nat Build :=
  match tag with
  | 1 => do
    need (u8 v 0 < 2 && 1 ≤ u8 v 1 && u8 v 1 ≤ 16 && u16 v 2 == 0) eField
    return b.upDev (fun d => { d with traceOn := u8 v 0 == 1, traceDiv := u8 v 1 })
  | _ => do
    let fs := (entriesOf 8 v).map (fun e => ({ first := u16 e 0, last := u16 e 2, classes := u32 e 4 } : TraceFilterRec))
    need (fs.all (fun f => decide (f.first < 1024) && decide (f.last < 1024))) eField
    return b.upDev (fun d => { d with traceFilters := d.traceFilters ++ fs })

/-! ### EVENT_ROUTES, REFLEX (R114, R136) -/

/-- The sources of routes and reflex rules. -/
def routeSource (c : Nat) : Bool :=
  decide (c ≤ 8) || [0x10, 0x11, 0x20, 0x30, 0x31, 0x40, 0x50].contains c

/-- A record of an EVENT_ROUTES section. -/
def recRoutes (b : Build) (t : Nat) (v : List Byte) : Except Nat Build := do
  let c := b.tc t
  let es := entriesOf 8 v
  let rs := es.map (fun e => ({ route := u8 e 0, source := u8 e 1, group := u8 e 2, fold := u8 e 3 == 1, channels := u16 e 4,
                                pool := u8 e 6 } : RouteRec))
  let all := c.routes ++ rs
  need (es.all (fun e => u8 e 0 < 64 && routeSource (u8 e 1) && (u8 e 2 < 16 || u8 e 2 == 255) && u8 e 3 < 2 &&
    (u8 e 6 < 32 || u8 e 6 == 255) && u8 e 7 == 0)) eField
  need (distinct (all.map RouteRec.route)) eDuplicate
  let known (r : RouteRec) : Bool := r.pool == 255 || c.forager.pools.any (fun p => p.pool == r.pool)
  needRef (rs.all (fun r => b.hasPeriph t pcRoute r.route && known r)) (rs.any (fun r => !known r && b.laterPool t r.pool)) eNotOwned
  return b.upTen t (fun c => { c with routes := all })

/-- A record of a REFLEX section. The limit of 256 rules is one of capacity, checked in Phase C. -/
def recReflex (b : Build) (t : Nat) (v : List Byte) : Except Nat Build := do
  let c := b.tc t
  let es := entriesOf 16 v
  let rs := es.map (fun e => ({ source := u8 e 0, status := u8 e 1, lo := u8 e 2, hi := u8 e 3, opcode := u8 e 4, arg0 := w32 (u32 e 8),
                                arg1 := w32 (u32 e 12) } : ReflexRec))
  let all := c.reflex ++ rs
  need (es.all (fun e => routeSource (u8 e 0) && ((1 ≤ u8 e 4 && u8 e 4 ≤ 0x0C) || (0x40 ≤ u8 e 4 && u8 e 4 ≤ 0x45)) && u8 e 5 == 0 &&
    u16 e 6 == 0)) eField
  return b.upTen t (fun c => { c with reflex := all })

/-! ### SPORE (R226, R228) -/

/-- The micro-op of 8 bytes. -/
def microOf (e : List Byte) : MicroOp := { op := u8 e 0, dest := u8 e 1, a := u8 e 2, b := u8 e 3, imm := fieldF e 4 }

/-- Whether a micro-op has no reserved code. -/
def microOk (m : MicroOp) : Bool :=
  decide (1 ≤ m.op) && decide (m.op ≤ 0x0E) && decide (m.dest < 8) && decide (m.a ≤ 8) && decide (m.b ≤ 8)

/-- Whether no two programs of one engine share a micro-op of the spore store (R41). -/
def programsApart : List ProgramRec → Bool
  | [] => true
  | p :: l => l.all (fun q => q.engine != p.engine || decide (p.offset + p.ops.length ≤ q.offset) ||
      decide (q.offset + q.ops.length ≤ p.offset)) && programsApart l

/-- Whether frame chains keep the rules of R228: one entry for each position, at most 32 lanes (8 of a block), one record for each output
bus, and an input that is no output of another engine or of the same or a higher position. -/
def chainsOk (all : List ChainRec) : Bool :=
  distinct (all.map ChainRec.busOut) && all.all (fun r =>
    let mine := all.filter (fun x => x.engine == r.engine && x.position == r.position)
    mine.all (fun x => x.address == r.address && x.block == r.block) && decide (mine.length ≤ if r.block then 8 else 32) &&
      all.all (fun x => x.busOut != r.busIn || (x.engine == r.engine && decide (x.position < r.position))))

/-- A record of a SPORE section. That a program ends at or before offset 256 of the spore store is checked in Phase C (E_CAPACITY). -/
def recSpore (b : Build) (t tag : Nat) (v : List Byte) : Except Nat Build :=
  let c := b.tc t
  let set (f : SporeRec → SporeRec) : Build := b.upTen t (fun c => { c with spore := f c.spore })
  match tag with
  | 1 => do
    let p : ProgramRec := { engine := u8 v 0, id := u8 v 1, offset := u16 v 4, ops := (entriesOf 8 (v.drop 8)).map microOf }
    let all := c.spore.programs ++ [p]
    need (v.length == 8 + 8 * u8 v 2) eRecLength
    need (1 ≤ u8 v 2 && u8 v 2 ≤ 64 && p.engine < 4 && p.id < 32 && u8 v 3 == 0 && u16 v 6 == 0 && p.ops.all microOk) eField
    need (distinct (all.map (fun x => (x.engine, x.id)))) eDuplicate
    need (c.own.engines.testBit p.engine) eNotOwned
    need (programsApart all) eStructure
    return set (fun s => { s with programs := all })
  | 2 => do
    let q : SeqCodeRec := { engine := u8 v 0, load := u32 v 4, words := wordsOf (v.drop 8) }
    need (q.engine < 4 && u8 v 1 == 0 && u16 v 2 == 0 && q.load + q.words.length ≤ 4096) eField
    need (c.own.engines.testBit q.engine) eNotOwned
    return set (fun s => { s with code := s.code ++ [q] })
  | 3 => do
    let es := entriesOf 8 v
    let rs := es.map (fun e => ({ engine := u8 e 0, position := u8 e 1, busIn := u8 e 2, busOut := u8 e 3, address := u16 e 4 % 4096,
                                  block := (u16 e 4).testBit 15 } : ChainRec))
    let next := set (fun s => { s with chain := s.chain ++ rs })
    need (es.all (fun e => u8 e 0 < 4 && u8 e 1 < 64 && u8 e 2 < 64 && u8 e 3 < 64 && u16 e 4 / 4096 % 8 == 0 && u16 e 6 == 0)) eField
    need (rs.all (fun r => c.own.engines.testBit r.engine && b.hasPeriph t pcBus r.busIn && b.hasPeriph t pcBus r.busOut)) eNotOwned
    need (chainsOk next.chains && next.busesClear) eStructure
    return next
  | _ => do
    let es := entriesOf 8 v
    let rs := es.map (fun e => ({ engine := u8 e 0, cistern := u8 e 1, offset := u32 e 4 } : SpillRec))
    let all := c.spore.spills ++ rs
    need (es.all (fun e => u8 e 0 < 4 && u8 e 1 < 24 && u16 e 2 == 0 && u32 e 4 % 64 == 0)) eField
    need (distinct (all.map SpillRec.engine)) eDuplicate
    need (rs.all (fun r => c.own.engines.testBit r.engine && b.hasSpan t (r.cistern * cisBytes + r.offset) 8192)) eNotOwned
    return set (fun s => { s with spills := all })

/-! ### PAYLOAD and SIGNATURE -/

/-- A PAYLOAD record: bytes for a destination inside the tenancy's cisterns; those of a partial image may not overlap the image. -/
def recPayload (b : Build) (t : Nat) (v : List Byte) : Except Nat Build := do
  let x := u32 v 0
  let bs := v.drop 4
  need (x % 64 == 0) eField
  need (b.hasSpan t x bs.length) eNotOwned
  need (b.part.isNone || decide (x + bs.length ≤ b.image.1) || decide (b.image.1 + b.image.2 ≤ x)) ePartial
  return { b with payload := (x, bs) :: b.payload }

/-- A record of the SIGNATURE section. -/
def recSignature (b : Build) (tag : Nat) (v : List Byte) : Except Nat Build :=
  return if tag = 1 then { b with pub := v } else { b with sig := v }

end Sys2Proof.Machine
end

