-- ==== Sys2Proof/Machine/ImageLoad.lean ====
section
/-! DEFINITION. The loader (R44): the walk over an image and its Phases A to C, with the signature rules of R47. -/

namespace Sys2Proof.Machine

/-! ### Sections and records (R35 to R39) -/

/-- How the value of a record is laid out: a fixed length, entries of m bytes, or a head and a tail of units. -/
inductive Layout where
  | fixed (n : Nat)
  | rows (m : Nat)
  | tail (head unit least : Nat)
deriving DecidableEq, Repr

/-- Whether a value length fits a layout. -/
def Layout.fits : Layout → Nat → Bool
  | .fixed n, k => k == n
  | .rows m, k => decide (0 < k) && k % m == 0 && decide (k ≤ 65532)
  | .tail h u least, k => decide (h + least * u ≤ k) && (k - h) % u == 0

/-- The layouts of the records of a section type, by tag from 1 (Table 4). Each tag comes with whether its record may stand once only. -/
def layouts (type : Nat) : List (Bool × Layout) :=
  match type with
  | 0x01 => [(true, .fixed 4), (true, .fixed 4), (true, .fixed 4), (false, .rows 4), (true, .fixed 16), (true, .fixed 4)]
  | 0x02 => [(true, .fixed 8), (true, .fixed 4), (true, .fixed 4), (true, .fixed 4), (false, .rows 2), (true, .fixed 16), (true, .fixed 4)]
  | 0x03 => [(true, .fixed 12), (true, .rows 4), (false, .rows 8), (false, .rows 8)]
  | 0x04 => [(false, .rows 4), (false, .rows 12), (false, .rows 12), (false, .rows 4)]
  | 0x05 => [(false, .rows 16), (false, .fixed 516), (false, .fixed 72)]
  | 0x06 => [(false, .rows 12)]
  | 0x07 => [(false, .rows 16), (true, .fixed 8)]
  | 0x08 => [(false, .rows 16)]
  | 0x09 => [(false, .rows 4)]
  | 0x0A => [(false, .rows 8), (false, .rows 4), (false, .rows 4)]
  | 0x0B => [(false, .rows 12), (false, .rows 4)]
  | 0x0C => [(false, .rows 8), (true, .fixed 8)]
  | 0x0D => [(false, .rows 8), (false, .rows 16)]
  | 0x0E => [(true, .tail 0 1 1), (false, .rows 4)]
  | 0x0F => [(true, .fixed 4), (false, .rows 12), (true, .fixed 4)]
  | 0x10 => [(true, .fixed 4)]
  | 0x11 => [(false, .rows 8)]
  | 0x12 => [(false, .rows 16)]
  | 0x13 => [(false, .tail 8 8 1), (false, .tail 8 4 0), (false, .rows 8), (false, .rows 8)]
  | 0x14 => [(false, .tail 4 4 0)]
  | 0x15 => [(true, .fixed 4), (false, .rows 8)]
  | 0x1F => [(true, .fixed 64), (true, .fixed 64)]
  | _ => []

/-- The layout of a record of a section; none is a tag not listed. The NETWORK records differ by scope. -/
def layoutOf (type scope tag : Nat) : Option (Bool × Layout) :=
  if type = 0x0D ∧ (tag = 1) ≠ (scope = 255) then none
  else if tag = 0 then none
  else (layouts type)[tag - 1]?

/-- A record taken into the build, or the code of its first failing check. -/
def recordOf (b : Build) (type scope tag : Nat) (v : List Byte) : Except Nat Build :=
  match type with
  | 0x01 => recDevice b tag v
  | 0x02 => recTenancy b scope tag v
  | 0x03 => recStructure b scope tag v
  | 0x04 => recMycelium b scope tag v
  | 0x05 => recForager b scope tag v
  | 0x06 => recWells b scope v
  | 0x07 => recCisterns b scope tag v
  | 0x08 => recPumps b scope v
  | 0x09 => recFilter b scope v
  | 0x0A => recSpout b scope tag v
  | 0x0B => recPorts b scope tag v
  | 0x0C => recTimers b scope tag v
  | 0x0D => recNetwork b scope v
  | 0x0E => recUsb b tag v
  | 0x0F => recWindlass b tag v
  | 0x10 => recPair b v
  | 0x11 => recRoutes b scope v
  | 0x12 => recReflex b scope v
  | 0x13 => recSpore b scope tag v
  | 0x14 => recPayload b scope v
  | 0x15 => recTrace b tag v
  | _ => recSignature b tag v

/-- Whether a section may stand in this image at all: a partial one has only sections of its target, and its SIGNATURE (R50). -/
def Build.allowed (b : Build) (type scope : Nat) : Bool :=
  match b.part with
  | none => true
  | some t => type == 0x1F || (scope == t && type != 0x02)

/-- One record checked in the order of R44 and taken. -/
def Build.record (b : Build) (type scope tag : Nat) (len : Nat) (v : List Byte) : Except Nat Build :=
  match layoutOf type scope tag with
  | none => .error eTag
  | some (once, l) =>
    if !l.fits len then .error eRecLength
    else if !(v.drop len).all (· == 0#8) then .error eField
    else
      let r := recordOf b type scope tag (v.take len)
      let late (e : Nat) : Bool := decide (eOwnership ≤ e)
      if once && b.tags.contains tag && (match r with | .ok _ => true | .error e => late e) then .error eDuplicate
      else if !b.allowed type scope then (match r with
        | .ok _ => .error ePartial
        | .error e => .error (if e = eStructure then ePartial else e))
      else r.map (fun b => { b with tags := tag :: b.tags })

/-- The index of the first PIN_FUNC entry whose ball or function an earlier entry has. -/
def pinRepeat : List PinFuncRec → List PinFuncRec → Nat
  | _, [] => 0
  | old, r :: l =>
    if old.any (fun x => x.ball == r.ball || (r.func != 0 && x.func == r.func)) then 0 else 1 + pinRepeat (old ++ [r]) l

/-- Where a failing record is located: at its header, but at the second entry for a ball (chapter 19, "Questions"). -/
def recordOfs (b : Build) (type tag ofs code : Nat) (v : List Byte) : Nat :=
  if type = 0x01 ∧ tag = 4 ∧ code = eDuplicate then
    ofs + 4 + 4 * pinRepeat b.dev.pins ((entriesOf 4 v).map (fun e => { ball := u16 e 0, func := u8 e 2, pad := u8 e 3 }))
  else ofs

/-- The records of a section body, from a byte offset on. -/
def walkRecords : Nat → Nat → Nat → Nat → Nat → List Word → Build → Build × Option ImgErr
  | 0, _, _, _, _, _, b => (b, none)
  | fuel + 1, type, scope, sec, ofs, body, b =>
    match body with
    | [] => (b, none)
    | h :: rest =>
      let tag := bits h 15 0
      let len := bits h 31 16
      let n := (len + 3) / 4
      let r := if (layoutOf type scope tag).isSome && decide (rest.length < n) then .error eRecLength
        else b.record type scope tag len (wordsBytes (rest.take n))
      match r with
      | .error e =>
        (b, some { code := e, ofs := recordOfs b type tag ofs e (wordsBytes (rest.take n)), sec := sec, tag := tag })
      | .ok b1 => walkRecords fuel type scope sec (ofs + 4 + 4 * n) (rest.drop n) b1

/-- Whether a section type exists, and which scopes it may have: device, tenancy. -/
def scopesOf (type : Nat) : Option (Bool × Bool) :=
  if type ∈ [0x01, 0x0E, 0x0F, 0x10, 0x15, 0x1F] then some (true, false)
  else if type ∈ [0x09, 0x0D] then some (true, true)
  else if type ∈ [0x02, 0x03, 0x04, 0x05, 0x06, 0x07, 0x08, 0x0A, 0x0B, 0x0C, 0x11, 0x12, 0x13, 0x14] then some (false, true)
  else none

/-- The sections of a type and scope walked so far. -/
def Build.times (b : Build) (type scope : Nat) : Nat := (b.walked.filter (fun x => x.1 == type && x.2.1 == scope)).length

/-- Whether every present tenancy has had its TENANCY section. -/
def Build.tenanciesIn (b : Build) : Bool :=
  (List.range 8).all (fun n => !b.dev.present.testBit n || decide (0 < b.times 0x02 n))

/-- Whether a section may follow those walked so far (R37), within the counts of Table 3. -/
def Build.inOrder (b : Build) (type scope : Nat) : Bool :=
  let most := if type = 0x03 then 48 else 1
  let last := b.walked.head?.map Prod.fst
  (type == 0x14 || decide (b.times type scope < most)) && last != some 0x1F &&
    (b.part.isSome ||
      (if type = 0x01 then b.walked.isEmpty
       else !b.walked.isEmpty && (if type = 0x02 then
          b.walked.all (fun x => x.1 == 0x01 || (x.1 == 0x02 && decide (x.2.1 < scope)))
        else b.tenanciesIn)))

/-- The configuration of the target with what a section type replaces taken away (R51). -/
def TenancyCfg.clearType (c : TenancyCfg) (type : Nat) : TenancyCfg :=
  let d := TenancyCfg.default
  match type with
  | 0x03 => { c with structs := [] }
  | 0x04 => { c with myc := d.myc }
  | 0x05 => { c with forager := d.forager }
  | 0x06 => { c with wells := [] }
  | 0x07 => { c with cisterns := { c.cisterns with regions := [] } }
  | 0x08 => { c with pumps := [] }
  | 0x09 => { c with channels := [] }
  | 0x0A => { c with spout := d.spout }
  | 0x0B => { c with uarts := [], i2cs := [] }
  | 0x0C => { c with timers := [], keybed := none }
  | 0x0D => { c with streams := [] }
  | 0x11 => { c with routes := [] }
  | 0x12 => { c with reflex := [] }
  | 0x13 => { c with spore := d.spore }
  | _ => c

/-- The sections of an image from its first one on, as far as they tile it. -/
def sectionsIn : Nat → List Word → List RawSection
  | 0, _ => []
  | fuel + 1, ws => match ws with
    | h :: l :: rest =>
      let n := l.toNat / 4
      { type := bits h 7 0, scope := bits h 15 8, words := h :: l :: rest.take n } :: sectionsIn fuel (rest.drop n)
    | _ => []

/-- The build before the first section: the sections to come are noted, and those of a partial image take away at once what they replace,
so that no record is checked against what is on its way out (R51). -/
def Build.open_ (b : Build) (ws : List Word) : Build :=
  let all := sectionsIn ws.length (ws.drop 16)
  let b1 := { b with ahead := all }
  match b.part with
  | none => b1
  | some t => b1.upTen t (fun c => ((all.filter (fun x => x.scope == t)).map RawSection.type).foldl TenancyCfg.clearType c)

/-- A section begins. -/
def Build.begin (b : Build) (type scope ofs : Nat) (words : List Word) : Build :=
  let b2 := if type = 0x0E then b.upDev (fun d => { d with usbPresent := true }) else b
  { b2 with walked := (type, scope, ofs) :: b2.walked, tags := [], cur := StructRec.empty, ahead := b2.ahead.drop 1,
            raw := if type = 0x14 ∨ type = 0x1F then b2.raw else { type := type, scope := scope, words := words } :: b2.raw,
            sigAt := if type = 0x1F then some ofs else b2.sigAt }

/-- The mandatory records of a section type by tag. -/
def mandatory (type : Nat) : List Nat := if type = 0x01 ∨ type = 0x03 ∨ type = 0x1F then [1, 2] else []

/-- A section ends: a structure whole, mandatory records missing noted for Phase C. -/
def Build.end_ (b : Build) (type scope sec ofs : Nat) : Build × Option ImgErr :=
  let lacks := (mandatory type).any (fun m => !b.tags.contains m)
  let b1 := if lacks && b.lack.isNone then { b with lack := some (ofs, sec) } else b
  if !b.allowed type scope then (b1, some { code := ePartial, ofs := ofs, sec := sec, tag := 0 })
  else if type = 0x03 && !lacks then
    match structWhole b1 scope b1.cur with
    | .error e => (b1, some { code := e, ofs := ofs, sec := sec, tag := 0 })
    | .ok _ => (b1.upTen scope (fun c => { c with structs := c.structs ++ [b1.cur] }), none)
  else (b1, none)

/-- Phase B over the sections from a byte offset on: the build, and the first failing check or the number of sections. -/
def walkSections : Nat → Nat → Nat → List Word → Build → Build × (ImgErr ⊕ Nat)
  | 0, sec, _, _, b => (b, .inr sec)
  | fuel + 1, sec, ofs, ws, b =>
    let bad (e : Nat) : Build × (ImgErr ⊕ Nat) := (b, .inl { code := e, ofs := ofs, sec := sec, tag := 0 })
    match ws with
    | [] => (b, .inr sec)
    | [_] => bad eBounds
    | h :: l :: rest =>
      let type := bits h 7 0
      let scope := bits h 15 8
      let n := l.toNat / 4
      if l.toNat % 4 ≠ 0 ∨ rest.length < n then bad eBounds
      else match scopesOf type with
        | none => bad eType
        | some sc =>
          if bits h 23 16 ≠ 1 then bad eVersion
          else if bits h 31 24 ≠ 0 then bad eField
          else if !((scope == 255 && sc.1) || (decide (scope < 8) && sc.2 && b.dev.present.testBit scope)) then bad eScope
          else if !b.inOrder type scope then bad eOrder
          else
            let b1 := b.begin type scope ofs (h :: l :: rest.take n)
            match walkRecords (n + 1) type scope sec (ofs + 8) (rest.take n) b1 with
            | (b2, some e) => (b2, .inl e)
            | (b2, none) => match b2.end_ type scope sec ofs with
              | (b3, some e) => (b3, .inl e)
              | (b3, none) => walkSections fuel (sec + 1) (ofs + 8 + 4 * n) (rest.drop n) b3

/-! ### Phase A (R33) -/

/-- A header word. -/
def hdr (ws : List Word) (ofs : Nat) : Word := ws.getD (ofs / 4) 0#32

/-- Phase A of an image of ws words, against the kind that is wanted: none is FULL, a tenancy is PARTIAL for it. DESIGN CHOICE: R44 names
no place for the reserved header bits and the range of SECTION_COUNT; they stand here after the life-cycle, as E_FIELD_VALUE (entry 105). -/
def phaseA (ws : List Word) (part : Option Nat) (lc : LifeCycle) : Option ImgErr :=
  let at_ (c ofs : Nat) : Option ImgErr := some { code := c, ofs := ofs, sec := 0, tag := 0 }
  let len := (hdr ws 8).toNat
  let kind := hdr ws 0x10
  if ws.length < 16 ∨ len % 4 ≠ 0 ∨ len < 64 ∨ 0x1000000 < len ∨ len ≠ 4 * ws.length then at_ eLength 8
  else if hdr ws 0 ≠ 0x5053584B#32 then at_ eMagic 0
  else if hdr ws 4 ≠ 0x00400003#32 then at_ eFormat 4
  else if bits (hdr ws 0x18) 15 0 ≠ 0x0848 ∨ 0xB0 < bits (hdr ws 0x18) 23 16 then at_ ePart 0x18
  else if kind ≠ (match part with | none => 1#32 | some t => w32 (2 + 256 * t)) then at_ eKind 0x10
  else if lc = .retired then at_ eLifecycle 0
  else if (hdr ws 0x14).toNat = 0 ∨ 4096 < (hdr ws 0x14).toNat then at_ eField 0x14
  else if bits (hdr ws 0x18) 31 24 ≠ 0 then at_ eField 0x18
  else if !((ws.drop 8).take 8).all (· == 0#32) then at_ eField 0x20
  else none

/-! ### Phase C (R42, R43, R46) -/

/-- Where the k-th section of a type and scope stands: offset and index. -/
def Build.placeNth (b : Build) (type scope k : Nat) : Nat × Nat :=
  match ((b.walked.reverse.zipIdx).filter (fun x => x.1.1 == type && x.1.2.1 == scope))[k]? with
  | some x => (x.1.2.2, x.2)
  | none => (0, 0)

/-- Where the first section of a type and scope stands. -/
def Build.place (b : Build) (type scope : Nat) : Nat × Nat := b.placeNth type scope 0

/-- Where the section stands that brought a fault between two section types of a tenancy: the first type, or the second if the image has
none of the first. -/
def Build.placeOr (b : Build) (type other scope : Nat) : Nat × Nat := b.place (if b.times type scope = 0 then other else type) scope

/-- The checks that need every section: what a record names and a later one of the image, or one that a partial image keeps, must define
(R37, R41). -/
def Build.whole (b : Build) : Option (Nat × Nat × Nat) :=
  if !b.dev.supply.all (fun s => b.dev.channels.any (fun c => c.channel == 40 + s.channel)) then some (eStructure, b.place 0x0F 255)
  else (List.range 8).findSome? (fun t =>
    let c := b.tc t
    let hasStruct (id : Nat) : Bool := (c.struct id).isSome
    let hasPool (p : Nat) : Bool := p == 255 || c.forager.pools.any (fun r => r.pool == p)
    if !c.forager.pools.all (poolWhole c) then some (eStructure, b.placeOr 0x05 0x03 t)
    else if !(c.myc.ticks.all (fun x => hasStruct x.1) && c.myc.routes.all (fun r => match c.struct r.structId with
        | some st => routeOk st r
        | none => false)) then some (eStructure, b.placeOr 0x04 0x03 t)
    else if !c.pumps.all c.keyOk then some (eNotOwned, b.place 0x08 t)
    else if !c.routes.all (fun r => hasPool r.pool) then some (eNotOwned, b.placeOr 0x11 0x05 t)
    else if !(match c.keybed with
        | some k => hasPool k.pool
        | none => true) then some (eNotOwned, b.placeOr 0x0C 0x05 t)
    else if !(c.spout.busIn.all (fun r => r.cls != 4 || c.hasStrm r.index) &&
        c.spout.busOut.all (fun r => r.cls != 4 || c.hasStrm r.index)) then some (eNotOwned, b.placeOr 0x0A 0x06 t)
    else none)

/-- Usable gill cycles per frame (R69). -/
def usableCycles (fs : Nat) : Nat := 599940000 * 100000 / (fs * 100025) / 10 * 10

/-- The loader's limit on a gill's cycles. -/
def cycleLimit (fs : Nat) : Nat := usableCycles fs * 95 / 100

/-- The spawn reservation Q (R380). -/
def reservation (dev : DeviceCfg) (ten : List TenancyCfg) : Nat :=
  let fs := fsHz dev.fs
  let gills := (ten.flatMap (fun c => c.structs.map (fun st => (gillsOf st.gills).length * ceilDiv (st.cycles * fs) 36000000))).sum
  let engines := ((List.range 4).filter (fun e => ten.any (fun c => c.spore.chain.any (fun r => r.engine == e)))).length
  150 + gills + 40 * engines

/-- The class A idle slope of a port in bit/s: that of its talkers, and 44 kb/s for the CRF talker where it is on the port crf (R337). -/
def idleSlope (dev : DeviceCfg) (ten : List TenancyCfg) (crf : Option Nat) (port : Nat) : Nat :=
  let n := packetFrames dev.fs
  ((ten.flatMap TenancyCfg.streams).map (fun r =>
    if !r.listener && r.port == port then (66 + 4 * n * r.channels) * 8 * fsHz dev.fs / n else 0)).sum + (if crf = some port then 44000 else 0)

/-- The records found missing (R39, R50, R114): those noted in the walk, a SPILL of an engine with code, a CPL well. -/
def Build.missing (b : Build) : Option (Nat × Nat) :=
  match b.lack with
  | some x => some x
  | none => (List.range 8).findSome? (fun t =>
      let c := b.tc t
      let cpl := c.wells.any (fun w => w.type == .cpl)
      let spill := (List.range 4).all (fun e => !(c.spore.programs.any (fun p => p.engine == e) || c.spore.code.any (fun q => q.engine == e)) ||
        c.spore.spills.any (fun r => r.engine == e))
      if !spill then some (b.place 0x13 t)
      else if c.reflex.any (fun r => decide (r.opcode < 0x40)) && !cpl then some (b.place 0x12 t)
      else if b.part == some t && decide (0 < b.times 0x06 t) && !cpl then some (b.place 0x06 t)
      else none)

/-- The words a bank uses for its sections. -/
def rawBytes (raw : List RawSection) : Nat := 4 * (raw.map (fun r => r.words.length)).sum

/-- The sections of the bank after a load: for a partial image those of the old configuration that it does not replace, then its own (R51). -/
def Build.bank (b : Build) (old : List RawSection) : List RawSection :=
  let new := b.raw.reverse
  match b.part with
  | none => new
  | some t => old.filter (fun r => r.scope != t || !new.any (fun x => x.type == r.type)) ++ new

/-- The digest of an applied configuration: CRC-32 over its sections with the STAGE_PAIR section, whose only record is ROLE, left out
(R398). -/
def rawDigest (raw : List RawSection) : Word := crc32 (wordsBytes ((raw.filter (fun r => r.type != 0x10)).flatMap RawSection.words))

/-- How a signature comes out (R47, Table 8): the value of SPAWN_STATUS.SIG, or an error code. -/
def signature (b : Build) (ws : List Word) (lc : LifeCycle) (keyHash : Option (List Byte)) : Except Nat (BitVec 2) :=
  match b.sigAt, keyHash with
  | none, some _ => if lc = .field then .error eSigMissing else .ok 2#2
  | none, none => .ok 2#2
  | some _, none => .ok 0#2
  | some at_, some h =>
    if lc = .make then .ok 0#2
    else if sha256 b.pub ≠ h then .error eSigKey
    else
      let msg := (wordsBytes (ws.set 3 0#32)).take at_
      if ecdsaVerify (sha256 msg) b.pub b.sig then .ok 1#2 else .error eSigBad

/-- What a load came to: the build, the first failing check, and the signature status. -/
structure Loaded where
  build : Build
  err : Option ImgErr
  sig : BitVec 2
deriving DecidableEq, Repr

/-- Where a limit of one section is exceeded: 256 spore micro-ops, 256 reflex rules, 4,096 bytes of USB descriptors (E_CAPACITY). -/
def Build.tooMuch (b : Build) : Option (Nat × Nat) :=
  if 4096 < b.dev.usbDesc.length then some (b.place 0x0E 255)
  else (List.range 8).findSome? (fun t =>
    let c := b.tc t
    if 256 < c.reflex.length then some (b.place 0x12 t)
    else if c.spore.programs.any (fun p => decide (256 < p.offset + p.ops.length)) then some (b.place 0x13 t)
    else none)

/-- Phase C. -/
def phaseC (b : Build) (ws : List Word) (old : List RawSection) (lc : LifeCycle) (keyHash : Option (List Byte)) : Loaded :=
  let ten := b.ten.toList
  let fail (c : Nat) (x : Nat × Nat) : Loaded := { build := b, err := some { code := c, ofs := x.1, sec := x.2, tag := 0 }, sig := 0#2 }
  match b.missing with
  | some x => fail eMissing x
  | none =>
    match (List.range 8).findSome? (fun t =>
      ((b.tc t).structs.findIdx? (fun st => decide (cycleLimit (fsHz b.dev.fs) < st.cycles))).map (fun k => b.placeNth 0x03 t k)) with
    | some x => fail eCycles x
    | none =>
      let slots := ((ten.flatMap TenancyCfg.pumps).map PumpRec.slots).sum
      let sealed_ := ((ten.filterMap (fun c => c.cisterns.sealedRec)).map SealedRec.bytes).sum
      if 192 < slots ∨ 258048 < sealed_ ∨ (List.range 2).any (fun p => decide (750000000 < idleSlope b.dev ten b.crf p)) then fail eCapacity (0, 0)
      else if let some x := b.tooMuch then fail eCapacity x
      else if 524288 < rawBytes (b.bank old) then fail eStoreFull (0, 0)
      else if b.dev.budget < reservation b.dev ten then fail ePower (0, 0)
      else if crc32 (wordsBytes (ws.drop 4)) ≠ hdr ws 0x0C then fail eCrc (0x0C, 0)
      else match signature b ws lc keyHash with
        | .error e => fail e (b.sigAt.getD 0, b.walked.length - 1)
        | .ok g => { build := b, err := none, sig := g }

/-- Phases A to C of an image (R44). -/
def loadImage (b : Build) (ws : List Word) (old : List RawSection) (lc : LifeCycle) (keyHash : Option (List Byte)) : Loaded :=
  match phaseA ws b.part lc with
  | some e => { build := b, err := some e, sig := 0#2 }
  | none =>
    match walkSections (ws.length + 1) 0 64 (ws.drop 16) (b.open_ ws) with
    | (b1, .inl e) => { build := b1, err := some e, sig := 0#2 }
    | (b1, .inr n) =>
      let stop (c ofs : Nat) : Loaded := { build := b1, err := some { code := c, ofs := ofs, sec := n, tag := 0 }, sig := 0#2 }
      if n ≠ (hdr ws 0x14).toNat then stop eBounds 0x14
      else if b.part.isNone && (b1.times 0x01 255 == 0 || !b1.tenanciesIn) then stop eOrder (4 * ws.length)
      else match b1.whole with
        | some x => { build := b1, err := some { code := x.1, ofs := x.2.1, sec := x.2.2, tag := 0 }, sig := 0#2 }
        | none => phaseC b1 ws old lc keyHash

/-- The applied configuration of a FULL image (R48). -/
def Build.applied (b : Build) (ws : List Word) : AppliedCfg :=
  let raw := b.raw.reverse
  { dev := b.dev, ten := b.ten, raw := raw, buildId := hdr ws 0x1C, used := rawBytes raw, digest := rawDigest raw,
    reserve := reservation b.dev b.ten.toList }

/-- The cisterns that a load has written. -/
def Build.cisternsWritten (b : Build) : List Nat :=
  (List.range 24).filter (fun c => b.payload.any (fun p => decide (p.1 < c * cisBytes + cisBytes) && decide (c * cisBytes < p.1 + p.2.length)))

end Sys2Proof.Machine
end

