-- ==== Sys2Proof/Machine/Apply.lean ====
section
/-! DEFINITION. What an applied configuration puts into the blocks of a tenancy, at a full spawn and at the COMMIT of a respawn (R90, R166,
R182, R192 to R194, R303, R309, R350, R357, R366, R370). -/

namespace Sys2Proof.Machine

/-! ### Troughs (R90, R166, R182) -/

/-- A trough with one copy from cistern memory. -/
def copyTrough (cis trough : Memory) (c : Nat × Nat × Nat) : Memory := trough.putBytes c.2.2 (cis.getBytes c.1 c.2.1)

/-- The gills of a structure with their troughs cleared and its tables and zones copied. -/
def State.copyStruct (s : State) (st : StructRec) : State :=
  let mem := st.copies.foldl (copyTrough s.mem.cis) []
  s.modGills (fun b => b.mapi (fun g x => if st.gills.testBit g then { x with trough := mem, ecc := [] } else x))

/-- Tenancy n's troughs cleared, and the copies of structures made. -/
def State.fillTroughs (s : State) (n : Nat) (structs : List StructRec) : State :=
  let clear := s.modGills (fun b => b.mapi (fun g x => if s.gillOwner g == some n then { x with trough := [], ecc := [] } else x))
  structs.foldl State.copyStruct clear

/-- Whether a copy of tenancy n would read a byte that is uncorrectable. -/
def State.copiesBad (s : State) (c : TenancyCfg) : Bool :=
  c.structs.any (fun st => st.copies.any (fun x => eccView s.mem.cisEcc x.1 x.2.1 == .uncorrectable))

/-! ### Pools, gills and mycelium (R177, R192 to R194) -/

/-- The slots of a gill with its free-running LFOs at their start. -/
def Gill.spawned (x : Gill) : Gill := { x with slots := x.slots.mapi (fun _ y => { y with free := [] }) }

/-- A pool at the spawn of its tenancy: sources at their defaults, its generator seeded, ALTERNATE to begin with +1.0. -/
def Pool.spawned (p : Pool) (seed : Word) : Pool :=
  { p with lane := [], claims := [], monoStacks := [], chans := [], notes := [], gen := seed, alternate := false }

/-- Voices, pools and mycelium of tenancy n as its spawn leaves them. -/
def State.loadVoices (s : State) (n : Nat) : State :=
  let s1 := (s.freeTenVoices n).loadMyc n
  let s2 := s1.modGills (fun b => b.mapi (fun g x => if s.gillOwner g == some n then x.spawned else x))
  s2.modPools (fun b => b.mapi (fun p x => if s.poolOwner p == some n then x.spawned (s.poolSeed p) else x))

/-! ### Engines (R90, R227, R231) -/

/-- The code store of engine e: its SEQ_CODE records. -/
def codeOf (c : SporeRec) (e : Nat) : Bank Word 4096 :=
  (c.code.filter (fun r => r.engine == e)).foldl (fun b r =>
    r.words.zipIdx.foldl (fun b w => b.put (r.load + w.2) w.1) b) (Bank.all 4096 0#32)

/-- The spore store of engine e: the micro-ops of its programs. -/
def sporeOf (c : SporeRec) (e : Nat) : Bank MicroOp 256 :=
  (c.programs.filter (fun r => r.engine == e)).foldl (fun b r =>
    r.ops.zipIdx.foldl (fun b o => b.put (r.offset + o.2) o.1) b) (Bank.all 256 { op := 0, dest := 0, a := 0, b := 0, imm := 0#32 })

/-- A chain record that has given nothing yet. -/
def ChainLane.fresh : ChainLane := { y := none, history := [], block := [], blockAt := 0, blockValid := false }

/-- Engine e with everything cleared but its counters and logs, and the programs and chain of its tenancy loaded; f is the first frame of
the configuration. -/
def Engine.load (x : Engine) (c : SporeRec) (e f : Nat) : Engine :=
  { Engine.reset with
    code := codeOf c e,
    spore := sporeOf c e,
    programs := (c.programs.filter (fun r => r.engine == e)).map (fun r => (r.id, r.offset, r.ops.length)),
    loaded := ((c.code.filter (fun r => r.engine == e)).map (fun r => r.words.length)).sum,
    lanes := (c.chain.filter (fun r => r.engine == e)).map (fun _ => ChainLane.fresh),
    spawnFrame := f,
    status := x.status,
    trapLog := x.trapLog,
    ovr := x.ovr,
    ovrCnt := x.ovrCnt,
    cycLast := x.cycLast,
    cycPeak := x.cycPeak,
    spillPkF := x.spillPkF,
    spillPkJ := x.spillPkJ,
    memLog := x.memLog }

/-- The engines of tenancy n loaded, their L1 copies gone. -/
def State.loadEngines (s : State) (n f : Nat) : State :=
  let mine (e : Nat) : Bool := s.engineOwner e == some n
  (s.modMem (fun m => m.flushL1 mine)).modEngines (fun b => b.mapi (fun e x => if mine e then x.load (s.tcfg n).spore e f else x))

/-! ### Buses, wells, pumps and peripherals -/

/-- The bus gains of tenancy n back at 1.0 (R309). -/
def State.loadBuses (s : State) (n : Nat) : State :=
  s.modSpout (fun p => { p with buses := p.buses.mapi (fun b x =>
    if s.periphOwner pcBus b == some n then { x with target := fOne, gain := fOne, from_ := fOne, left := 0 } else x) })

/-- The wells that tenancy n defines, empty (R51). -/
def State.loadWells (s : State) (n : Nat) : State :=
  s.modWells (fun b => b.mapi (fun w x => if (s.tcfg n).wells.any (fun r => r.well == w) then Well.reset else x))

/-- The cached translations of tenancy n's pumps dropped, since their tables may have changed. -/
def State.loadPumps (s : State) (n : Nat) : State :=
  s.modPumps (fun b => b.mapi (fun p x => if s.pumpOwner p == some n then { x with cache := [] } else x))

/-- The keybed scanner of tenancy n at its first scan (R357). -/
def State.loadKeybed (s : State) (n : Nat) : State :=
  match s.keybedRec with
  | some (m, _) => if m = n then s.keybedStart else s
  | none => s

/-- The blocks of tenancy n as the configuration in force starts them at frame f; has says which section types came with it. -/
def State.applyTen (s : State) (n f : Nat) (has : Nat → Bool) : State :=
  let s1 := (((s.loadVoices n).loadEngines n f).loadBuses n).loadPumps n
  let s2 := if has 0x06 then s1.loadWells n else s1
  let s3 := if has 0x0B then (s2.uartLoad (· == n)).i2cLoad (· == n) else s2
  let s4 := if has 0x0C then s3.timerLoad (· == n) else s3
  (s4.loadKeybed n).fcTurnOn (fun c => s.fcOwner c == some n)

end Sys2Proof.Machine
end

