-- ==== Sys2Proof/Machine/Mix.lean ====
section
/-! DEFINITION. What the Spout does in a frame (R308 to R316, R325): the mix, the destinations, and what the outputs load at a boundary. -/

namespace Sys2Proof.Machine

/-! ### Host stream wells (R28, R310) -/

/-- Whether a host-produced STRM well has no sample for this frame. -/
def Well.starved (w : Well) : Bool := w.pos == 0 && w.fill == 0

/-- The sample that a host-produced STRM well gives in this frame. -/
def State.strmSample (s : State) (w : Nat) : F32 :=
  match s.wellRec w with
  | none => 0#32
  | some (_, r) =>
    let x := s.wells.get w
    if x.starved then 0#32 else s.mem.cis.word (r.entryAt x.c.toNat + 4 * x.pos)

/-- A host-produced STRM well after its sample has been used: C advances with the sixteenth, UNDERRUN marks an empty well. -/
def State.strmUsed (s : State) (w : Nat) : State :=
  match s.wellRec w with
  | none => s
  | some (_, r) =>
    let x := s.wells.get w
    if x.starved then (s.modWells (fun b => b.put w { x with status := x.status ||| 16#5 })).settle (384 + w)
    else
      let s1 := s.noteEcc (r.entryAt x.c.toNat + 4 * x.pos) 4 false
      let y := if x.pos = 15 then { x.consumed with pos := 0 } else { x with pos := x.pos + 1 }
      (s1.modWells (fun b => b.put w y)).settle (864 + r.ring / cisBytes)

/-- One sample for a device-produced STRM well: its entry is posted with the sixteenth, or dropped whole by a full well (R119). -/
def State.strmPut (s : State) (w : Nat) (v : F32) : State :=
  match s.wellRec w with
  | none => s
  | some (n, r) =>
    let x := s.wells.get w
    let part := x.part ++ [v]
    if part.length < 16 then s.modWells (fun b => b.put w { x with part := part })
    else if wellCapacity r.k ≤ x.fill then s.modWells (fun b => b.put w { x.drop with part := [] })
    else
      let s1 := s.cisWrite (r.entryAt x.p.toNat) (wordsBytes part)
      let s2 := s1.modWells (fun b => b.put w (({ x with part := [] } : Well).produced 1))
      (s2.count n 12 w 1).settle (384 + w)

/-! ### The mix (R308, R309) -/

/-- The BUS_IN records of bus b in record order. -/
def State.busRecs (s : State) (b : Nat) : List BusInRec :=
  (List.range 8).flatMap (fun n => (s.tcfg n).spout.busIn.filter (fun r => r.bus == b))

/-- The buses that a chain writes. -/
def State.chainBuses (s : State) : List Nat := (List.range 4).flatMap (fun e => (s.chainOf e).map ChainRec.busOut)

/-- The input of a record (Table 1 of chapter 13); lower gives the buses of the frame with a lower number. -/
def State.busInput (s : State) (r : BusInRec) (lower : List F32) : F32 :=
  match r.cls with
  | 0 => (s.gills.get (r.index / 4)).out.get (r.index % 4)
  | 1 => (s.chan r.index).value
  | 2 => (s.sap.get (r.index / 16)).rx.get (r.index % 16)
  | 3 => (s.net.listeners.get (r.index / 8)).out.getD (r.index % 8) 0#32
  | 4 => s.strmSample r.index
  | _ => lower.getD r.index 0#32

/-- The sum of the terms of a bus, with how many were NaN or infinite and gave way to 0.0. -/
def State.busSum (s : State) (b : Nat) (lower : List F32) : F32 × Nat :=
  let terms := (s.busRecs b).map (fun r => gMul r.gain (s.busInput r lower))
  let bad := (terms.filter (fun t => !fIsFinite t)).length
  match terms.map (fun t => if fIsFinite t then t else 0#32) with
  | [] => (0#32, 0)
  | x :: l => (l.foldl gAdd x, bad)

/-- A bus gain one frame on along its ramp. -/
def Bus.step (x : Bus) : Bus :=
  if x.left = 0 then x
  else if x.left = 1 then { x with gain := x.target, left := 0 }
  else
    { x with gain := gAdd x.from_ (gMul (gSub x.target x.from_) (gRatio (33 - x.left : Nat) 32)), left := x.left - 1 }

/-- The values of the buses in ascending number with their replaced terms; a chain output keeps its value until the chain ends. -/
def State.busValues (s : State) : List (F32 × Nat) :=
  let chain := s.chainBuses
  (List.range 64).foldl (fun acc b =>
    let x := s.spout.buses.get b
    acc ++ [if chain.contains b then (x.val, 0)
      else
        let m := s.busSum b (acc.map Prod.fst)
        (gMul x.gain m.1, m.2)]) []

/-- A bus with its value of the frame. -/
def Bus.take (x : Bus) (v : F32 × Nat) : Bus :=
  if v.2 = 0 then { x with val := v.1 } else { x with val := v.1, nan := true, nanCnt := errCount x.nanCnt v.2 }

/-- The votes on the three mix units (R314, R315, R30); a unit that is masked now had 1 + more words that differ (SP_VOTECNT). -/
def State.spoutVote (s : State) (v : Vote) (more : Nat) : State :=
  let r := voted s.dev.spoutMask v
  let s1 := s.modDev (fun d => { d with spoutMask := r.1 })
  let s2 := if r.2.1 then (s1.modSpout (fun p => { p with voteCnt := errCount p.voteCnt (1 + more) })).pairFlag 4 else s1
  if r.2.2 then (s2.modSpout (fun p => { p with voteOk := false, noMaj := true, run := min 127 (p.run + 1) })).pairFlag 5
  else s2.modSpout (fun p => { p with voteOk := true, noMaj := false, run := 0 })

/-- The mix of a frame: gains move, every bus takes its value where the mix units have a majority, and each stream well read gives up its
sample. -/
def State.mix (s : State) (v : Vote) (more : Nat) : State :=
  let s1 := (s.modSpout (fun p => { p with buses := p.buses.mapi (fun _ x => x.step), mixed := true })).spoutVote v more
  let vals := s1.busValues
  let s2 := if s1.spout.voteOk then
      s1.modSpout (fun p => { p with buses := p.buses.mapi (fun b x => x.take (vals.getD b (0#32, 0))) })
    else s1
  ((List.range 256).filter (fun w => (List.range 8).any (fun n => (s.tcfg n).strmIn w))).foldl State.strmUsed s2

/-! ### Destinations (R312, R313) -/

/-- The BUS_OUT records with their tenancies. -/
def State.destinations (s : State) : List (Nat × BusOutRec) :=
  (List.range 8).flatMap (fun n => (s.tcfg n).spout.busOut.map (fun r => (n, r)))

/-- The value of a destination: its bus times the fade gain; 0.0 for an unspawned tenancy. -/
def State.destValue (s : State) (x : Nat × BusOutRec) : F32 :=
  if s.spawned x.1 then gMul (s.spout.buses.get x.2.bus).val (s.spout.fades.get x.1).gain else 0#32

/-- The code of k + 1 bits for a value from -1 to 1 - 2^-k, and whether the value was clamped (Table 2 of chapter 13). -/
def levelCode (k : Nat) (v : F32) (free : Word) : Int × Bool :=
  let q := codeNear k v free
  let exact := if fIsNaN v then 0 else codeNear (k + 24) v free
  (clampInt (-(2 ^ k)) (2 ^ k - 1) q, decide (exact < -(2 ^ (k + 24))) || decide ((2 ^ k - 1) * 2 ^ 24 < exact))

/-- CLIP in load group g of the audio DACs. -/
def State.lgaClip (s : State) (g : Nat) : State :=
  (s.modSpout (fun p => { p with lga := p.lga.upd g (fun x =>
    { x with status := x.status ||| 1#2, clipCnt := errCount x.clipCnt 1 }) })).settle (832 + g)

/-- CLIP in load group h of the CV DACs. -/
def State.lgcClip (s : State) (h : Nat) : State :=
  (s.modSpout (fun p => { p with lgc := p.lgc.upd h (fun x => { x with clipCnt := errCount x.clipCnt 1 }) })).cvFlag h 2#4

/-- CLIP in serial audio port p. -/
def State.sapClip (s : State) (p : Nat) : State :=
  (s.modSap (fun b => b.upd p (fun x => { x with status := x.status ||| 4#3, clipCnt := errCount x.clipCnt 1 }))).settle (838 + p)

/-- How far the signal of an audio DAC is ramped down for its calibration (R321). -/
def muted64 (mute : Nat) (v : F32) : F32 := if mute = 0 then v else gMul v (gRatio (64 - mute : Nat) 64)

/-- One destination of classes 0, 1, 2 and 4 written. -/
def State.writeDest (s : State) (r : BusOutRec) (v : F32) : State :=
  let free := Config.freeWord s.free
  let s0 := if fIsNaN v then s.modFree (· + 1) else s
  match r.cls with
  | 0 =>
    let c := levelCode 23 (muted64 (s.spout.aouts.get r.index).mute v) free
    let s1 := s0.modSpout (fun p => { p with aouts := p.aouts.upd r.index (fun a => { a with written := BitVec.ofInt 24 c.1 }) })
    if c.2 then s1.lgaClip (r.index / 4) else s1
  | 1 =>
    let q := codeNear 18 v free
    let c := clampInt 0 262143 q
    let s1 := s0.modSpout (fun p => { p with cvs := p.cvs.upd r.index (fun a => { a with shadow := BitVec.ofInt 18 c }) })
    if q != c then s1.lgcClip (r.index / 8) else s1
  | 2 =>
    let w := sapWidth (s.sap.get (r.index / 16)).cfg
    let c := levelCode (w - 1) v free
    let s1 := s0.modSap (fun b => b.upd (r.index / 16) (fun x =>
      { x with tx := x.tx.put (r.index % 16) (BitVec.ofInt 32 (c.1 * 2 ^ (32 - w))) }))
    if c.2 then s1.sapClip (r.index / 16) else s1
  | 4 => s0.strmPut r.index v
  | _ => s

/-- The talkers gather the samples written for them in this frame, whose packet takes them as the frame of the boundary that ends it. -/
def State.feedTalkers (s : State) (vals : List ((Nat × BusOutRec) × F32)) : State :=
  (List.range 16).foldl (fun s i =>
    match s.streamRec false i with
    | none => s
    | some (_, r) =>
      let samples := (List.range r.channels).map (fun c =>
        match vals.find? (fun x => x.1.2.cls == 3 && x.1.2.index == 8 * i + c) with
        | some x => x.2
        | none => 0#32)
      let start := w64 (s.gptpTime r.port s.nowNs)
      (s.modNet (fun n => { n with talkers := n.talkers.upd i (fun x =>
        x.gather r (packetFrames s.cfg.dev.fs) start s.free samples) })).modFree (· + r.channels)) s

/-- The calibrations of the outputs one frame on (R321): an audio DAC's signal ramps down while it is measured, then back; a CV gain's is
measured at code 2,048 for 2 ms and then at code 260,096. -/
def State.muteStep (s : State) : State :=
  let gain (i : Nat) : Bool :=
    match (s.spout.lgc.get (i / 8)).cal with
    | some (h, c) => c == i && (s.findOp h).any (fun o => (calArgs o.args).2.2 == 2)
    | none => false
  s.modSpout (fun p => { p with
    aouts := p.aouts.mapi (fun i a =>
      if (p.lga.get (i / 4)).cal.map Prod.snd == some i then { a with mute := min 64 (a.mute + 1) } else { a with mute := a.mute - 1 }),
    cvs := p.cvs.mapi (fun i c => if gain i && decide (calSettle s.fs ≤ (p.lgc.get (i / 8)).calAge + 1) then { c with out := 260096#18 } else c),
    lgc := p.lgc.mapi (fun _ g => { g with calAge := if g.cal.isSome then g.calAge + 1 else 0 }) })

/-- The value that a destination kept from the last frame with a majority. -/
def State.lastValue (s : State) (r : BusOutRec) : F32 :=
  match s.spout.lastOut.find? (fun x => x.1 == r.cls && x.2.1 == r.index) with
  | some x => x.2.2
  | none => 0#32

/-- Every destination written at the end of a frame. Without a majority each keeps what the last frame that had one wrote, so that only the
streams, which take a sample in every frame, get that value again (R315). -/
def State.writeAll (s : State) : State :=
  let ds := s.destinations
  if s.spout.voteOk then
    let vals := ds.map s.destValue
    let pairs := ds.zip vals
    let s1 := s.modSpout (fun p => { p with lastOut := pairs.map (fun x => (x.1.2.cls, x.1.2.index, x.2)) })
    let s2 := s1.modSap (fun b => b.mapi (fun _ x => { x with tx := Bank.all 16 0#32 }))
    ((pairs.foldl (fun s x => s.writeDest x.1.2 x.2) s2).feedTalkers pairs).muteStep
  else
    let pairs := ds.map (fun d => (d, s.lastValue d.2))
    let wells := pairs.filter (fun x => x.1.2.cls == 4)
    ((wells.foldl (fun s x => s.writeDest x.1.2 x.2) s).feedTalkers pairs).muteStep

/-! ### The end of a frame (R311) -/

/-- The output buses of engine e's chain take their values. -/
def State.chainOut (s : State) (e : Nat) : State :=
  let r := s.chainFinish e
  if s.spout.voteOk then
    r.1.modSpout (fun p => { p with buses := r.2.foldl (fun b x => b.upd x.1 (fun y => { y with val := x.2 })) p.buses })
  else r.1

/-- The mix under way completes: frame windows close, the chains give their outputs, and the destinations are written. -/
def State.mixEnd (s : State) : State :=
  if s.spout.mixed then
    let s1 := (List.range 4).foldl (fun s e => if (s.engine e).windowOpen then s.windowClose e else s) s
    let s2 := (List.range 4).foldl State.chainOut s1
    s2.writeAll.modSpout (fun p => { p with mixed := false })
  else s

/-! ### Loads at a boundary (R316, R317, R322 to R325, R408) -/

/-- A port as a port frame begins: it sends the words of the last mix. In a target's buffer a repeated sample lets them wait, and a dropped one
takes the oldest away (R324). -/
def Sap.load (x : Sap) : Sap :=
  if !x.en || x.noFs then x
  else if x.repeatOut then { x with repeatOut := false, txq := (x.txq ++ [x.tx]).take 2 }
  else
    let q := (x.txq ++ [x.tx]).drop (if x.dropOut then 1 else 0)
    { x with dropOut := false, sent := q.headD x.sent, txq := q.drop 1 }

/-- The outputs load what the last frame wrote, but for a device that has given up its ownership, which holds them (R408). -/
def State.loadOutputs (s : State) : State :=
  if s.pair.switch = some .frozen then s
  else
    let s1 := s.modSpout (fun p => { p with aouts := p.aouts.mapi (fun _ a => { a with loaded := a.written }) })
    let s2 := s1.modSap (fun b => b.mapi (fun _ x => x.load))
    s2.cvStrobe .frame (fun _ => true)

/-- A received word of a port as binary32: its leading W bits over 2^(W-1). -/
def Sap.value (x : Sap) (w : Word) : F32 :=
  let k := sapWidth x.cfg
  gRatio (signed k (w.toNat / 2 ^ (32 - k))) (2 ^ (k - 1))

/-- A port with the samples received in the port frame that has ended. In a target's buffer a repeated sample lets them wait, and a dropped
one takes the oldest away (R324). -/
def Sap.receive (x : Sap) (words : List (Nat × Word)) : Sap :=
  let frame : Bank F32 16 := words.foldl (fun b w => b.put w.1 (x.value w.2)) ((x.rxq.getLast?).getD x.rx)
  if !x.en then x
  else if x.noFs then { x with rx := Bank.all 16 0#32, rxq := [] }
  else if x.repeatIn then { x with repeatIn := false, rxq := (x.rxq ++ [frame]).take 2 }
  else
    let q := (x.rxq ++ [frame]).drop (if x.dropIn then 1 else 0)
    { x with dropIn := false, rx := q.headD x.rx, rxq := q.drop 1 }

/-- The inputs that a mix takes as they stand at its boundary: gPTP times, listeners, serial audio with the phase that each target measures, the
filter chain, the media clock. -/
def State.takeInputs (s : State) (f : DWord) (i : FrameIn) : State :=
  let s1 := (List.range 2).foldl (fun s p => s.updPort p (fun x => { x with gtime := w64 (s.gptpTime p s.nowNs) })) s
  let s2 := (List.range 16).foldl State.listenerDeliver s1
  let s3 := s2.modSap (fun b => b.mapi (fun p x => x.receive ((i.sap.filter (fun w => w.1 == p)).map (fun w => (w.2.1, w.2.2)))))
  let s4 := ((List.range 8).filter (fun p => s.sapFollows p && !(s.sap.get p).noFs)).foldl State.sapMeasure s3
  ((s4.fcLatch.sensorEvents).frameTriggers f.toNat).mediaStep

/-- The CRF timestamp of a boundary whose index is a multiple of Fs / 300, gathered while the talker can send (R334). -/
def State.crfStamp (s : State) (f : DWord) : State :=
  let p := if s.net.crfCtl.getLsbD 2 then 1 else 0
  if !s.net.crfCtl.getLsbD 0 || !s.portSends p then s.modNet (fun n => { n with crfStamps := [] })
  else if f.toNat % (s.fs / 300) == 0 then
    s.modNet (fun n => { n with crfStamps := n.crfStamps ++ [w64 (s.gptpTime p s.nowNs + s.net.crfOfs.toNat)] })
  else s

end Sys2Proof.Machine
end

