-- ==== Sys2Proof/Machine/Respawn.lean ====
section
/-! DEFINITION. The phases of a respawn (R50 to R58) and the halt of a tenancy (R96, R100). -/

namespace Sys2Proof.Machine

/-! ### Its phases (Table 9 of chapter 02) -/

/-- The respawn of tenancy n, if its operation is in flight and may go on (R56). -/
def State.respawnNow (s : State) (n : Nat) : Option (Respawn × LongOp) :=
  match (s.ten.get n).respawn with
  | none => none
  | some r => match s.findOp r.handle with
    | some o => if o.mayRun && o.permit == .granted then some (r, o) else none
    | none => none

/-- The respawn record of tenancy n changed. -/
def State.updRespawn (s : State) (n : Nat) (f : Respawn → Respawn) : State :=
  s.modTen (fun b => b.upd n (fun x => { x with respawn := x.respawn.map f }))

/-- The target of a SPAWN_TENANCY. -/
def respawnTarget (o : LongOp) : Nat := (o.args.get 0).toNat

/-- The permit granted to a SPAWN_TENANCY for the first time: it leaves WAIT_PERMIT, and the target's other operations before their commit
point end (R57). -/
def State.respawnGranted (s : State) (o : LongOp) : State :=
  let n := respawnTarget o
  match (s.ten.get n).respawn with
  | some r =>
    if r.handle == o.handle && r.phase == .waitPermit then
      (s.updRespawn n (fun r => { r with phase := .validate })).abortAll false (fun x => x.ten == n && x.handle != o.handle)
    else s
  | none => s

/-- A partial load for tenancy n of an image of len bytes at BAR2 offset at_: it starts from the configuration in force. -/
def State.partialBuild (s : State) (n at_ len : Nat) : Build :=
  { Build.full with
    part := some n, dev := s.cfg.dev, ten := s.cfg.ten, holders := some ((List.range 24).map s.cisOwner), image := (at_, len),
    crf := s.crfTalks }

/-- The words of the image of a SPAWN_TENANCY as they stand now. -/
def State.imageWords (s : State) (o : LongOp) : List Word :=
  (List.range ((o.args.get 2).toNat / 4)).map (fun i => s.mem.cis.word ((o.args.get 1).toNat + 4 * i))

/-- What the image of a SPAWN_TENANCY comes to when it is read now: the build, or the failing check. An uncorrectable word in it is
E_APPLY, and a length that is no multiple of 4 cannot equal IMAGE_LEN. -/
def State.readPartial (s : State) (o : LongOp) : Except ImgErr Build :=
  let at_ := (o.args.get 1).toNat
  let len := (o.args.get 2).toNat
  if len % 4 ≠ 0 then .error { code := eLength, ofs := 8, sec := 0, tag := 0 }
  else if eccView s.mem.cisEcc at_ len == .uncorrectable then .error { code := eApply, ofs := 0, sec := 0, tag := 0 }
  else
    let l := loadImage (s.partialBuild (respawnTarget o) at_ len) (s.imageWords o) s.cfg.raw s.fuses.lc s.fuses.keyHash
    match l.err with
    | some e => .error e
    | none => .ok l.build

/-- A respawn ends with an error before its commit point; wrote says that WRITE had begun (Table 10 of chapter 02). The loader records the
code as the target's last respawn error and the place in SPAWN_ERR_OFS and SPAWN_ERR_LOC (R44; DEDUCED, log entry 108). -/
def State.respawnFail (s : State) (n : Nat) (r : Respawn) (e : ImgErr) (wrote : Bool) : State :=
  let s1 := (s.modTen (fun b => b.upd n (fun x => { x with respawnErr := BitVec.ofNat 8 e.code }))).modSpawn (fun p =>
    { p with errOfs := w32 e.ofs, errLoc := w32 (e.sec % 65536 + fld e.tag 16) })
  let s2 := s1.finishOp r.handle (csSpawn e.code) [w32 e.ofs]
  if wrote then s2.unspawnTen n else s2.updRespawn n (fun r => { r with phase := .resume })

/-- RESPAWN_VALIDATE: Phases A to C end. -/
def State.respawnValidate (s : State) (n : Nat) : State :=
  match s.respawnNow n with
  | none => s
  | some (r, o) =>
    if (r.phase == .validate || r.phase == .quiesce) && !r.validated then
      let at_ := (o.args.get 1).toNat
      let s1 := (s.noteEcc at_ (o.args.get 2).toNat false).settleCis at_ (o.args.get 2).toNat
      match s.readPartial o with
      | .error e => s1.respawnFail n r e false
      | .ok b => s1.updRespawn n (fun r =>
          { r with validated := true, phase := if r.faded then .write else r.phase, cfg := b.tc n, sections := b.raw.reverse,
                   words := s.imageWords o, reserve := reservation b.dev b.ten.toList })
    else s

/-- RESPAWN_VALIDATE. -/
def execRespawnValidate (n : Fin 8) (s : State) : Res := .next (s.respawnValidate n)

/-- RESPAWN_QUIESCE, at the first boundary after the grant: the outputs fade over 64 frames, and the events that wait for the target are
dropped and counted. -/
def State.respawnQuiesce (s : State) (n : Nat) : State :=
  match (s.ten.get n).respawn with
  | none => s
  | some r =>
    if (r.phase == .validate || r.phase == .quiesce) && !r.quiesced then
      let waiting := s.front.sched.get n
      let s1 := s.updRespawn n (fun r => { r with phase := .quiesce, quiesced := true, fadeLeft := 64 })
      let s2 := (s1.modTen (fun b => b.upd n (fun x => { x with dropSeen := false }))).fadeTo n 0#32 64
      waiting.foldl (fun s _ => s.dropFor n) (s2.modFront (fun f => { f with sched := f.sched.put n [] }))
    else s

/-- RESPAWN_QUIESCE. -/
def execRespawnQuiesce (n : Fin 8) (s : State) : Res := .next (if s.dev.phase.frames then s.respawnQuiesce n else s)

/-- RESPAWN_FADE_END: the frames of the fade have run, and every slot of the target is freed. -/
def State.respawnFadeEnd (s : State) (n : Nat) : State :=
  match (s.ten.get n).respawn with
  | none => s
  | some r =>
    if r.phase == .quiesce && r.quiesced && r.fadeLeft == 0 && !r.faded then
      (s.freeTenVoices n).updRespawn n (fun r => { r with faded := true, phase := if r.validated then .write else r.phase })
    else s

/-- RESPAWN_FADE_END. -/
def execRespawnFadeEnd (n : Fin 8) (s : State) : Res := .next (if s.dev.phase.frames then s.respawnFadeEnd n else s)

/-- Regions marked WIPE_ON_RESPAWN in the configuration that the respawn replaces, wiped before its payload is written. -/
def State.wipeRegions (s : State) (n : Nat) : State :=
  (s.tcfg n).cisterns.regions.foldl (fun s r =>
    if r.wipeOnRespawn then s.cisZero (r.cistern * cisBytes + r.offset) r.length else s) s

/-- The payload of a load written to its cisterns. -/
def State.writePayload (s : State) (b : Build) : State := b.payload.reverse.foldl (fun s p => s.cisWrite p.1 p.2) s

/-- An E_APPLY of Phase D, which has no place in the image. -/
def applyErr : ImgErr := { code := eApply, ofs := 0, sec := 0, tag := 0 }

/-- RESPAWN_WRITE: the second read, the payload and the trough copies (Phase D), once the target's operations past their commit point have
completed (R57). A read that differs from the first in any word is E_APPLY. -/
def State.respawnWrite (s : State) (n : Nat) : State :=
  match s.respawnNow n with
  | none => s
  | some (r, o) =>
    if r.phase == .write && s.ops.all (fun x => x.ten != n || x.handle == r.handle || x.done.isSome) then
      match s.readPartial o with
      | .error _ => s.respawnFail n r applyErr true
      | .ok b =>
        let s1 := (s.wipeRegions n).writePayload b
        if s.imageWords o != r.words || b.tc n != r.cfg || b.raw.reverse != r.sections || s1.copiesBad r.cfg then
          s1.respawnFail n r applyErr true
        else (s1.fillTroughs n r.cfg.structs).updRespawn n (fun r => { r with written := true, phase := .commit })
    else s

/-- RESPAWN_WRITE. -/
def execRespawnWrite (n : Fin 8) (s : State) : Res := .next (s.respawnWrite n)

/-- The applied configuration with a respawn's in place (R51). -/
def AppliedCfg.respawned (c : AppliedCfg) (n : Nat) (r : Respawn) : AppliedCfg :=
  let raw := c.raw.filter (fun x => x.scope != n || !r.sections.any (fun y => y.type == x.type)) ++ r.sections
  let ten := c.ten.put n r.cfg
  { c with ten := ten, raw := raw, used := rawBytes raw, digest := rawDigest raw, reserve := reservation c.dev ten.toList }

/-- RESPAWN_COMMIT at boundary f: the pending configuration becomes active, the generation advances, events are accepted and the outputs
ramp up over 64 frames; a pair is unsynchronised and its PAIR_SYNC before the sync frame aborted (R52, R53, R58, R410). -/
def State.respawnCommit (s : State) (n : Nat) (f : Nat) : State :=
  match (s.ten.get n).respawn with
  | none => s
  | some r =>
    if r.phase == .commit && r.written then
      let cfg := s.cfg.respawned n r
      let s1 := s.modSpawn (fun p => { p with active := cfg })
      let s2 := s1.modTen (fun b => b.upd n (fun x =>
        { x with spawned := true, gen := x.gen + 1#5, respawnErr := 0#8, respawn := none, dropSeen := false,
                 keptPools := [], keptRoutes := [] }))
      let s3 := (s2.applyTen n f (fun t => r.sections.any (fun x => x.type == t))).modWindlass (fun w => { w with reserve := cfg.reserve })
      let s4 := s3.modSpout (fun p => { p with fades := p.fades.put n ((Fade.at_ 0#32).start fOne 64) })
      let s5 := (s4.updOp r.handle (fun o => { o with committed := true })).finishOp r.handle csDone [0#32]
      (s5.unsync 5).abortAll false (fun o => o.code == .pairSync)
    else s

/-- RESPAWN_COMMIT. -/
def execRespawnCommit (n : Fin 8) (s : State) : Res :=
  .next (if s.dev.phase.frames then s.respawnCommit n (s.time.frameIdx.toNat + 1) else s)

/-- The boundary at which the old configuration goes on after an abort or an error: voices freed, and outputs ramping back from 0.0 over 64
frames (Table 10, R313) unless a park or a dormant entry is fading them out. -/
def State.respawnResume (s : State) (n : Nat) : State :=
  match (s.ten.get n).respawn with
  | none => s
  | some r =>
    if r.phase == .resume then
      let s1 := (s.freeTenVoices n).modTen (fun b => b.upd n (fun x => { x with respawn := none }))
      if s.spawned n && !s.fadingOut then s1.modSpout (fun p => { p with fades := p.fades.put n ((Fade.at_ 0#32).start fOne 64) }) else s1
    else s

/-- The boundary at which frame f begins, for the respawn of tenancy n: each step that its command has not taken, and the fade's frames. -/
def State.respawnBoundary (s : State) (f n : Nat) : State :=
  let s1 := (((s.respawnResume n).respawnFadeEnd n).respawnCommit n f).respawnQuiesce n
  s1.updRespawn n (fun r => if r.quiesced then { r with fadeLeft := r.fadeLeft - 1 } else r)

/-! ### Halting a tenancy (R96, R100) -/

/-- A halt written: the target's respawn ends ABORTED, and so do its operations before their commit point. Before WRITE the old
configuration stays until the halt's own fade has run. -/
def State.haltTenancy (s : State) (n : Nat) : State :=
  let mine (o : LongOp) : Bool := o.ten == n || (o.code == .spawnTenancy && respawnTarget o == n)
  let early : Bool := match (s.ten.get n).respawn with
    | some r => !(r.phase == .write || r.phase == .commit)
    | none => false
  let s1 := if early then s.modTen (fun b => b.upd n (fun x => { x with respawn := none })) else s
  let waits := (s.ops.filter (fun o => o.ten == n && o.committed && o.done.isNone)).map LongOp.handle
  (s1.modTen (fun b => b.upd n (fun x => { x with halt := some { started := false, fadeLeft := 64, waits := waits } }))).abortAll false mine

/-- TENANCY_CTRLn written. HALT of tenancy 0 is reserved; that of a tenancy being halted has no further effect. -/
def State.tenancyCtrl (s : State) (t n : Nat) (v : Word) : State :=
  if !v.getLsbD 0 then s
  else if t ≠ 0 then s.stewardOnly (0x20024 + 0x40 * n)
  else if n = 0 then s.regRejected 0x20024
  else if (s.ten.get n).halt.isSome then s
  else s.haltTenancy n

/-- TENANCY_HALT: the steward and the tenancy itself see the record. -/
def execTenancyHalt (t n : Fin 8) (v : Word) (s : State) : Res :=
  .next (s.access t (0x20024 + 0x40 * n) true (t == 0 || t == n) (fun s => s.tenancyCtrl t n v))

/-- Whether operations that were past their commit point when the halt of tenancy n was written still run. -/
def State.tenBusy (s : State) (n : Nat) : Bool :=
  match (s.ten.get n).halt with
  | none => false
  | some h => s.ops.any (fun o => h.waits.contains o.handle && o.done.isNone)

/-- HALT_END: the tenancy is left unspawned, and ES1008 + n rises. -/
def State.haltEnd (s : State) (n : Nat) : State :=
  match (s.ten.get n).halt with
  | none => s
  | some h =>
    if (!s.spawned n && h.started) || (h.started && h.fadeLeft == 0 && !s.tenBusy n) then
      ((s.unspawnTen n).modTen (fun b => b.upd n (fun x => { x with halt := none }))).pulse (1008 + n) 0#32
    else s

/-- HALT_END. -/
def execHaltEnd (n : Fin 8) (s : State) : Res := .next (s.haltEnd n)

/-- A boundary for the halt of tenancy n: the fade starts at the first, its end frees the slots, and the halt ends when it can. -/
def State.haltBoundary (s : State) (n : Nat) : State :=
  match (s.ten.get n).halt with
  | none => s
  | some h =>
    let upd (s : State) (x : Halt) : State := s.modTen (fun b => b.upd n (fun y => { y with halt := some x }))
    if !h.started then
      let s1 := upd s { h with started := true, fadeLeft := 63 }
      if s.spawned n then s1.fadeTo n 0#32 64 else s1.haltEnd n
    else if h.fadeLeft = 0 then (s.freeTenVoices n).haltEnd n
    else upd s { h with fadeLeft := h.fadeLeft - 1 }

end Sys2Proof.Machine
end

