-- ==== Sys2Proof/Machine/Frame.lean ====
section
/-! DEFINITION. The frame boundary (R12 to R14): the frame under way completes, the outputs load, and every frame-driven block begins the
next one. The order inside a boundary is that of the pipeline of R14 (DEDUCED, log entry 19). -/

namespace Sys2Proof.Machine

/-- The index and the time of a boundary (R12), its FRAME trace packet and count event. -/
def State.stampFrame (s : State) (f : DWord) : State :=
  let s1 := s.modTime (fun t => { t with frameIdx := f, frameTime := t.devTime })
  let s2 := (List.range 8).foldl (fun s n => s.count n 14 0 1) s1
  s2.trace 4 none 0 [lo32 f, hi32 f, lo32 s.now, hi32 s.now]

/-- What the tenancies' own sequences do at the boundary of frame f: respawns and halts. -/
def State.tenanciesStep (s : State) (f : DWord) : State :=
  (List.range 8).foldl (fun s n => (s.respawnBoundary f.toNat n).haltBoundary n) s

/-- The outputs of the last frame load, and a stage pair does its part (R316, R405 to R408). -/
def State.boundaryLoads (s : State) (f : DWord) (i : FrameIn) : State :=
  ((s.loadOutputs.pairBoundary f i.spSel i.ownIn).driveSample).pairLoaded f

/-- The fade of a dormant entry: it starts once every long operation has completed, and runs frame by frame (R78). -/
def State.dormantFade (s : State) : State :=
  match s.dev.dormEntry with
  | none => s
  | some e => match e.fadeLeft with
    | some k => s.modDev (fun d => { d with dormEntry := some { e with fadeLeft := some (k - 1) } })
    | none => s.dormantFadeStart

/-- Fade gains and engine bypasses as they stand in the frame that begins, and the countdowns of park and dormant fades. -/
def State.fadesStep (s : State) : State :=
  let s1 := s.modSpout (fun p => { p with fades := p.fades.mapi (fun _ x => x.advance) })
  let s2 := s1.modEngines (fun b => b.mapi (fun _ x => x.takeBypass))
  let s3 := s2.modSupply (fun p => { p with parking := match p.parking with
    | some (.fade k) => some (.fade (k - 1))
    | x => x })
  s3.dormantFade

/-- A requested Truffle divider in force, once engine n runs no frame-mode program and no job (R83). DEDUCED: every frame window is closed at a
boundary, so an engine runs no frame-mode program there when it is idle and no position is left in its queue; having active chain
positions is not running one (log entry 113). -/
def State.trfApply (s : State) (n : Nat) : State :=
  let e := s.engines.get n
  match (s.dev.trfdiv.get n).request with
  | some d =>
    if e.run == .idle && e.jobHandle.isNone && e.queue.isEmpty then
      s.modDev (fun x => { x with trfdiv := x.trfdiv.put n { div := d, request := none } })
    else s
  | none => s

/-- What each tenancy may do anew in a frame: its CMD entries (R120, R116), and the polyphony cap as the Forager applies it (R151). -/
def State.allowances (s : State) : State :=
  (s.modQports (fun b => b.mapi (fun _ q => { q with cmdLeft := 64, wellSet := [] }))).modWindlass (fun w => { w with capApplied := w.cap })

/-- GILL_SLOTs of a voice (R188). -/
def Voice.slotWord (v : Voice) : Word :=
  let code := match v.state with
    | .free => 0 | .pending => 1 | .sounding => 2 | .releasing => 3 | .silencing => 4 | .faulted => 5 | .fading => 6 | .cutting => 7
  w32 (code + flag v.starving 3 + fld v.note 8 + fld v.channel 16 + fld v.group 20 + fld v.store 24)

/-- The snapshot that the slot registers show until the next boundary (R188). -/
def Gill.takeSnap (g : Gill) : Gill :=
  let places := (g.slots.toList.map Slot.cur) ++ g.shadows.toList ++ [g.cut]
  let words := places.flatMap (fun v => [v.slotWord, if v.live then v.level else 0#32])
  let gains := [(g.shadows.get 0), (g.shadows.get 1), g.cut].map (fun v =>
    if v.live then (if v.state == SlotState.fading then v.fadeG else gMul v.fadeG (gSub fOne (gRatio v.fadeJ v.fadeC))) else 0#32)
  { g with snap := Bank.make 41 (fun i => (words ++ gains).getD i 0#32) }

/-- The gills and the mycelium in the frame (R154, R189, R198). -/
def State.renderFrame (s : State) (f : DWord) : State := (s.tickAll f).mycFrame.renderAll.modGills (fun b => b.mapi (fun _ g => g.takeSnap))

/-- Frame f begins. -/
def State.beginFrame (s : State) (f : DWord) (i : FrameIn) : State :=
  let s1 := (((List.range 4).foldl State.trfApply s.mixEnd |>.stampFrame f).tenanciesStep f).boundaryLoads f i
  let s2 := (s1.fadesStep.takeInputs f i).crfStamp f
  let s3 := ((s2.mix i.spout i.moreWords).renderFrame f).allowances
  let s4 := (List.range 8).foldl State.uartPump s3.timersStart
  (s4.capture).pairCopy f

/-- FRAME_BOUNDARY: the frame timing generator's copies are voted on first (R30, R31). While frames are stopped by a park, a vote is all
that happens: without a majority the device enters SAFE from PARKED too (Table 7 of chapter 01). -/
def State.frameBoundary (s : State) (i : FrameIn) : State :=
  let v := voted s.dev.ftgMask i.ftg
  let s1 := s.modDev (fun d => { d with ftgMask := v.1 })
  let s2 := if v.2.1 then s1.pairFlag 0 else s1
  if v.2.2 then (s2.pairFlag 1).enterSafe
  else if s.dev.phase.frames && s.time.framesRun then s2.beginFrame (s2.time.frameIdx + 1#64) i else s2

/-- FRAME_BOUNDARY. -/
def execFrameBoundary (i : FrameIn) (s : State) : Res :=
  .next (if s.dev.phase == .running || s.dev.phase == .parked then s.frameBoundary i else s)

end Sys2Proof.Machine
end

