-- ==== Sys2Proof/Machine/Life.lean ====
section
/-! DEFINITION. Power-on, the resets, LOADING with its full spawn, and the first frame (chapters 02 and 03), with the life-cycle requests
that end in a reset (R97 to R101). -/

namespace Sys2Proof.Machine

/-! ### What a reset leaves (Table 6 of chapter 03) -/

/-- Device time, with the AON cycles of a dormancy under way added (R74). -/
def State.timeNow (s : State) : DWord :=
  if s.dev.phase == .dormantK || s.dev.phase == .dormantL then
    s.time.devTime + BitVec.ofNat 64 (s.time.aonCount.toNat * 100 / 3)
  else s.time.devTime

/-- CLOCK_RCAUSE after a reset: its kind, and SAFE_BEFORE (R77). DEDUCED: Table 6 of chapter 03 keeps the register across RESET_N and a steward
reset in that they do not clear it to its reset value; it then records the last reset alone (log entry 112). -/
def State.resetCause (s : State) (kind : Nat) : BitVec 4 := BitVec.ofNat 4 (kind + flag (s.dev.phase == .safe) 3)

/-- The fuses as a reset leaves them: a programming that had not ended has not happened (R101). -/
def FuseState.again (x : FuseState) : FuseState := { x with job := none, lastFailed := false, hashWords := Bank.all 8 0#32 }

/-- The levels on the pair's pins, which a reset does not change. -/
def PairState.again (p : PairState) : PairState := { PairState.reset with sel := p.sel, ownIn := p.ownIn, selOut := p.selOut }

/-- PORST_N low: OFF, with everything reset but the fuses and the levels on pins (R22). -/
def State.powerOff (s : State) : State :=
  { State.reset with
    dev := { DevState.reset with rcause := s.resetCause 1, tamperLow := s.dev.tamperLow },
    fuses := s.fuses.again,
    usb := { UsbState.reset with vbus := s.usb.vbus },
    pair := s.pair.again,
    outs := s.outs,
    free := s.free,
    pending := s.pending }

/-- PORST_N_ASSERT. -/
def execPorstNAssert (s : State) : Res := .next s.powerOff

/-- The clocks, pins and AON registers across a reset into LOADING. -/
def DevState.again (d : DevState) (cause : BitVec 4) : DevState :=
  { DevState.reset with
    phase := .loading, boot := d.boot, xbFitted := d.xbFitted, xaGood := d.xaGood, xbGood := d.xbGood, coreLock := true,
    trfLock := true, aqLock := d.aqLock, crystalLost := d.crystalLost, rcause := cause, wakeEn := d.wakeEn, wakeSrc := d.wakeSrc,
    wakeSen := d.wakeSen, rtcCmp := d.rtcCmp, tamperLow := d.tamperLow }

/-- The aquifer controller at step S9: detection and training end with what is fitted. AQ_CTRL.IECC, which only PORST_N clears, takes
effect with that training (R266). -/
def AqState.again (q : AqState) : AqState :=
  { AqState.reset with
    raw := q.raw, ctrl := q.ctrl, present := q.present, trained := q.present, channels := if q.present then 3#2 else 0#2 }.retrained

/-- Whether a boot mode takes the image from the host (R60). -/
def hostBoot (boot : BitVec 3) : Bool := decide (3 ≤ boot.toNat)

/-- The mode of the boot-flash controller in a boot mode (R372). -/
def flashMode (boot : BitVec 3) : BitVec 2 := if boot.toNat < 3 then boot.setWidth 2 else 0#2

/-- A spawn store that a load is about to fill: from flash it begins at once, from the host it waits for START (R49). -/
def SpawnState.fresh (boot : BitVec 3) : SpawnState :=
  { SpawnState.reset with phase := if hostBoot boot then 0#2 else 1#2 }

/-- LOADING entered by RESET_N or a steward reset: kind is the bit of CLOCK_RCAUSE, boot the boot mode in force from here on, and pcie says
that the PCIe core and the xSPI target are reset too. -/
def State.resetInto (s : State) (kind : Nat) (boot : BitVec 3) (pcie : Bool) : State :=
  let s1 : State :=
    { State.reset with
      dev := { s.dev.again (s.resetCause kind) with boot := boot },
      time := { TimeState.reset with devTime := s.timeNow, aonCount := s.time.aonCount },
      fuses := s.fuses.again,
      spawn := SpawnState.fresh boot,
      host := if pcie then { HostState.reset with linkUp := boot != 4#3 } else { s.host with wcb := [] },
      aq := s.aq.again,
      usb := { UsbState.reset with vbus := s.usb.vbus },
      flash := { FlashState.reset with mode := flashMode boot },
      pair := s.pair.again,
      obs := { ObsState.reset with tapIr := s.obs.tapIr, tapDr := s.obs.tapDr },
      outs := s.outs,
      free := s.free,
      pending := s.pending }
  s1.aqTrained.sealWipe false

/-- RESET_N_ASSERT: a low pulse of 50 ns or longer, and the boot mode sampled at its release (R76, R60). -/
def execResetNAssert (boot : Fin 8) (s : State) : Res :=
  .next (if s.dev.phase == .off || s.dev.phase == .aon then s else s.resetInto 2 (BitVec.ofNat 3 boot.val) true)

/-- CLOCK_RESET written (R76). -/
def State.clockReset (s : State) (v : Word) : State :=
  if v = 0xA5C3#32 then s.resetInto 4 s.dev.boot false
  else s.regRejected 0x3A0014

/-- STEWARD_RESET. -/
def execStewardReset (t : Fin 8) (v : Word) (s : State) : Res :=
  .next (s.access t 0x3A0014 true (t == 0) (fun s => s.clockReset v))

/-! ### Start-up (R62, R63) -/

/-- STARTUP: steps S1 to S5 and S9, from the release of PORST_N. xa says whether XA reaches good amplitude: if not, the device stays in AON
(R63). -/
def State.startup (s : State) (boot : BitVec 3) (xa xb : Bool) (mib : Nat) : State :=
  if !xa then s.modDev (fun d => { d with phase := .aon, xaGood := false })
  else
    let s1 := s.modDev (fun d => { d with
      phase := .loading, boot := boot, xbFitted := xb, xaGood := true, xbGood := xb, coreLock := true, trfLock := true,
      aqLock := decide (0 < mib) })
    let s2 := s1.modAq (fun _ => AqState.again { AqState.reset with raw := mib, present := decide (0 < mib) })
    let s3 := (s2.modSpawn (fun _ => SpawnState.fresh boot)).modHost (fun h => { h with linkUp := boot != 4#3 })
    (s3.modFlash (fun f => { f with mode := flashMode boot })).aqTrained.sealWipe false

/-- STARTUP. -/
def execStartup (boot : Fin 8) (xa xb : Bool) (aquiferMiB : Nat) (s : State) : Res :=
  .next (if s.dev.phase == .off || s.dev.phase == .aon then s.startup (BitVec.ofNat 3 boot.val) xa xb aquiferMiB else s)

/-- XA_TIMEOUT_RESTART: in AON the sequence begins again at S1; its end is STARTUP's. -/
def execXaTimeoutRestart (s : State) : Res :=
  .next (if s.dev.phase == .aon then s.modDev (fun d => { d with xaGood := false }) else s)

/-! ### A full spawn fails (R49) -/

/-- Cisterns wiped whole. -/
def State.wipeCisterns (s : State) (cs : List Nat) : State := cs.foldl (fun s c => s.cisZero (c * cisBytes) cisBytes) s

/-- The load ends in UNSPAWNED with its error: the cisterns it wrote are wiped, and ES1001 rises. -/
def State.spawnFailed (s : State) (e : ImgErr) : State :=
  let s1 := (s.wipeCisterns s.spawn.written).modSpawn (fun p => { p with
    delivering := false, words := [], phase := 3#2, err := BitVec.ofNat 8 e.code, errOfs := w32 e.ofs,
    errLoc := w32 (e.sec % 65536 + fld e.tag 16), pend := none, troughsDone := false, written := [], alt := none })
  (s1.modDev (fun d => { d with phase := .unspawned, audLock := false })).pulse 1001 (w32 e.code)

/-- An error with no place in an image. -/
def bareErr (code : Nat) : ImgErr := { code := code, ofs := 0, sec := 0, tag := 0 }

/-! ### Host delivery (R49) -/

/-- LOADING entered without a reset, from UNSPAWNED by START or from a wake whose spawn store cannot be read: nothing of the old configuration
is left in a block that a tenancy owns (R90, R303, R305, R416, R421), while the registers of the observation blocks, the host links and the
fuses stay. -/
def State.reload (s : State) : State :=
  let s1 : State :=
    { State.reset with
      dev := { s.dev with phase := .loading, audLock := false, dormEntry := none, wakeHeld := false, waking := false },
      time := { s.time with devTime := s.timeNow, frameIdx := 0#64, frameTime := 0#64, framesRun := false },
      fuses := s.fuses,
      spawn := s.spawn,
      deny := s.deny,
      host := { s.host with wcb := [] },
      aq := if s.aq.trainFail then { AqState.reset with raw := s.aq.raw, ctrl := s.aq.ctrl, present := true, trainFail := true } else s.aq.again,
      usb := { UsbState.reset with vbus := s.usb.vbus, connect := s.usb.connect },
      flash := { s.flash with released := false },
      windlass := s.windlass,
      supply := s.supply,
      pair := s.pair,
      evs := { s.evs with src := s.evs.src.mapi (fun _ x => { x with mask := true }), well := Bank.all 8 0#32 },
      obs := { s.obs with perf := ObsState.reset.perf, allow := ObsState.reset.allow },
      outs := s.outs,
      free := s.free,
      pending := s.pending }
  (s1.modSpawn (fun p => { SpawnState.fresh s.dev.boot with
    slot := p.slot, fromHost := p.fromHost, err := p.err, errOther := p.errOther, errOfs := p.errOfs, errLoc := p.errLoc })).sealWipe false

/-- A host delivery begins, or begins again: one under way is cancelled with E_SOURCE and what the load had written is wiped. -/
def State.beginDelivery (s : State) : State :=
  let s1 := if s.dev.phase == .unspawned then s.reload else s
  let s2 := s1.wipeCisterns s1.spawn.written
  (s2.modDev (fun d => { d with audLock := false })).modSpawn (fun p => { p with
    delivering := true, words := [], count := 0, phase := 1#2, fromHost := true, pend := none, troughsDone := false, written := [], alt := none,
    err := if p.delivering then BitVec.ofNat 8 eSource else p.err })

/-- SPAWN_CTRL written (R59). -/
def State.spawnCtrl (s : State) (v : Word) : State :=
  if v.getLsbD 0 && (s.dev.phase == .unspawned || (s.dev.phase == .loading && (hostBoot s.dev.boot || s.spawn.fromHost))) then
    s.beginDelivery
  else s

/-- SPAWN_CTRL_START. -/
def execSpawnCtrlStart (t : Fin 8) (v : Word) (s : State) : Res :=
  .next (s.access t 0x10000 true (t == 0) (fun s => s.spawnCtrl v))

/-- Whether the delivery already holds IMAGE_LEN bytes. -/
def SpawnState.full (p : SpawnState) : Bool :=
  decide (3 ≤ p.count) && decide ((p.words.getD (p.count - 3) 0#32).toNat ≤ 4 * p.count)

/-- Whether a delivery is ready to be judged: IMAGE_LEN bytes have come, or IMAGE_LEN itself is no possible length. -/
def SpawnState.judged (p : SpawnState) : Bool :=
  let len := (p.words.getD (p.count - 3) 0#32).toNat
  p.full || (decide (3 ≤ p.count) && decide (len % 4 ≠ 0 ∨ len < 64 ∨ 0x1000000 < len))

/-- SPAWN_DATA written: the next image word; words after IMAGE_LEN bytes are ignored. -/
def State.spawnData (s : State) (v : Word) : State :=
  if s.spawn.delivering && !s.spawn.full then s.modSpawn (fun p => { p with words := v :: p.words, count := p.count + 1 })
  else s

/-- SPAWN_DATA_WRITE. -/
def execSpawnDataWrite (t : Fin 8) (v : Word) (s : State) : Res :=
  .next (s.access t 0x10010 true (t == 0) (fun s => s.spawnData v))

/-! ### The load (R44, R55) -/

/-- Phases A to C of a full image. -/
def State.fullLoad (s : State) (ws : List Word) : Loaded := loadImage Build.full ws [] s.fuses.lc s.fuses.keyHash

/-- A load that passed its checks: the pending bank built, the payload written. -/
def State.loadPassed (s : State) (l : Loaded) (ws : List Word) (slot host : Bool) : State :=
  (s.writePayload l.build).modSpawn (fun p => { p with
    delivering := false, words := [], slot := slot, fromHost := host, sig := l.sig, err := 0#8, pend := some (l.build.applied ws),
    troughsDone := false, written := l.build.cisternsWritten })

/-- The load of a host delivery. -/
def State.loadHost (s : State) : State :=
  let ws := s.spawn.words.reverse
  let l := s.fullLoad ws
  match l.err with
  | some e => (s.modSpawn (fun p => { p with written := l.build.cisternsWritten })).spawnFailed e
  | none => s.loadPassed l ws s.spawn.slot true

/-- The fields of a valid directory: the slot offsets, and whether slot B is preferred (Table 11). -/
def directoryOf (d : List Word) : Option (Nat × Nat × Bool) :=
  let w (i : Nat) : Word := d.getD i 0#32
  if d.length = 8 ∧ w 0 = 0x4944584B#32 ∧ (w 1).toNat % 4096 = 0 ∧ (w 2).toNat % 4096 = 0 ∧ (w 3).toNat < 2 ∧ w 4 = 0#32 ∧
      w 5 = 0#32 ∧ w 6 = 0#32 ∧ crc32 (wordsBytes (d.take 7)) = w 7 then
    some ((w 1).toNat, (w 2).toNat, (w 3).getLsbD 0)
  else none

/-- One slot tried: the load with the words of its image, or the first failing check and the cisterns written before it. -/
def State.trySlot (s : State) (ofs : Nat) (words : Option (List Word)) : Except (ImgErr × List Nat) (Loaded × List Word) :=
  match words with
  | none => .error (bareErr eSource, [])
  | some all =>
    if ofs = 0 ∨ all.length < 16 then .error (bareErr eSource, [])
    else
      let ws := all.take (max 16 ((hdr all 8).toNat / 4))
      let l := s.fullLoad ws
      match l.err with
      | some e => .error (e, l.build.cisternsWritten)
      | none => .ok (l, ws)

/-- A slot failed with an error that wrote cisterns: they are wiped, ES1002 rises, and the other slot is the one tried (R55). -/
def State.slotFallback (s : State) (isB : Bool) (code : Nat) (written : List Nat) : State :=
  ((s.wipeCisterns written).pulse 1002 0#32).modSpawn (fun p =>
    { p with slot := isB, fromHost := false, errOther := BitVec.ofNat 8 code, alt := none })

/-- The other slot tried after a fallback. -/
def State.loadOther (s : State) (isB : Bool) (ofs : Nat) (words : Option (List Word)) : State :=
  match s.trySlot ofs words with
  | .ok (l, ws) => s.loadPassed l ws isB false
  | .error (e, w) => (s.modSpawn (fun p => { p with written := w })).spawnFailed e

/-- The load from boot flash: the directory, the preferred slot, and after a failure the other one (R55). -/
def State.loadFlash (s : State) (dir : Option (List Word)) (a b : Option (List Word)) : State :=
  match dir with
  | none => s.spawnFailed (bareErr eSource)
  | some d => match directoryOf d with
    | none => s.spawnFailed (bareErr eDirectory)
    | some (oa, ob, preferB) =>
      let first := if preferB then (ob, b) else (oa, a)
      let other := if preferB then (oa, a) else (ob, b)
      match s.trySlot first.1 first.2 with
      | .ok (l, ws) => (s.loadPassed l ws preferB false).modSpawn (fun p =>
          { p with errOther := 0#8, alt := some (!preferB, other.1, other.2) })
      | .error (e, w) => (s.slotFallback (!preferB) e.code w).loadOther (!preferB) other.1 other.2

/-- FULL_SPAWN_LOAD: from the host once its delivery holds the image, from flash in a flash boot mode. -/
def execFullSpawnLoad (src : ImageSource) (s : State) : Res :=
  .next (if s.dev.phase == .loading && s.spawn.pend.isNone && s.spawn.phase == 1#2 then
    match src with
    | .host => if s.spawn.delivering && s.spawn.judged then s.loadHost else s
    | .flash d a b => if s.spawn.delivering || hostBoot s.dev.boot then s else s.loadFlash d a b
  else s)

/-! ### Phase D and the first frame (R44, R48, R62) -/

/-- Phase D: the trough copies of the pending bank; an uncorrectable word in them is E_APPLY, after which a flash slot not yet tried is
tried (R55). -/
def State.phaseD (s : State) (c : AppliedCfg) : State :=
  let tens := c.ten.toList
  if tens.any (fun t => s.copiesBad t) then
    match s.spawn.alt with
    | none => s.spawnFailed (bareErr eApply)
    | some (isB, ofs, words) =>
      let s1 := (s.slotFallback isB eApply s.spawn.written).modSpawn (fun p => { p with pend := none, written := [] })
      (s1.modDev (fun d => { d with audLock := false })).loadOther isB ofs words
  else
    let s1 := (tens.flatMap TenancyCfg.structs).foldl State.copyStruct s
    (s1.modSpawn (fun p => { p with troughsDone := true, phase := 2#2, build := c.buildId })).pulse 1000 0#32

/-- SPAWN_APPLIED. -/
def execSpawnApplied (s : State) : Res :=
  .next (match s.spawn.pend with
    | some c => if s.dev.phase == .loading && !s.spawn.troughsDone then s.phaseD c else s
    | none => s)

/-- Whether an Fs code selects family B, the multiples of 44.1 kHz (R67). -/
def fsFamilyB (code : Nat) : Bool := code % 2 == 0

/-- The Fs code of the RATE record, as soon as a host delivery has brought it (step S8). -/
def SpawnState.rateSoFar (p : SpawnState) : Option Nat :=
  let ws := p.words.reverse
  (sectionsIn ws.length (ws.drop 16)).findSome? (fun x =>
    if x.type = 0x01 then (recordsIn x.words.length (x.words.drop 2)).findSome? (fun r =>
      if r.1 = 1 ∧ r.2.length = 4 then some (u8 r.2 0 % 16) else none)
    else none)

/-- AUDIO_PLL_LOCK: after the RATE record has been read, which a host delivery may have brought before the rest of the image (R62), or in a
wake. A family-B rate without XB never locks (R67). -/
def State.audioLock (s : State) : State :=
  match s.spawn.pend with
  | some c =>
    if fsFamilyB c.dev.fs && !s.dev.xbFitted then s.spawnFailed (bareErr eApply)
    else s.modDev (fun d => { d with audLock := true })
  | none =>
    match s.spawn.rateSoFar with
    | some fs => if s.spawn.delivering && (!fsFamilyB fs || s.dev.xbFitted) then s.modDev (fun d => { d with audLock := true }) else s
    | none => s

/-- AUDIO_PLL_LOCK. -/
def execAudioPllLock (s : State) : Res :=
  .next (if s.dev.phase == .loading then s.audioLock
    else if s.dev.waking || s.dev.phase == .running then s.modDev (fun d => { d with audLock := true })
    else s)

/-- The pending bank active on entry to RUNNING: ownership, tenancies, handles and reservation as it gives them (R48, R54, R123, R380). -/
def State.activate (s : State) (c : AppliedCfg) : State :=
  let s1 := s.modSpawn (fun p => { p with active := c, pend := none, written := [], alt := none })
  let s2 := s1.modMem (fun m => { m with banks := m.banks.mapi (fun i b =>
    { b with owner := firstTen (fun n => (c.ten.get n).own.cisterns.testBit i) }) })
  let s3 := s2.modTen (fun b => b.mapi (fun n x => { x with spawned := c.dev.present.testBit n, gen := 0#5, keptPools := [], keptRoutes := [] }))
  let s4 := s3.modQports (fun b => b.mapi (fun _ q => { q with seq := 0#24 }))
  s4.modWindlass (fun w => { w with reserve := c.reserve })

/-- Every tenancy that is there started as its configuration says, for a configuration whose first frame is f; wells says that the wells
start empty or the ports take their records anew. -/
def State.applyAll (s : State) (f : Nat) (has : Nat → Bool) : State :=
  (List.range 8).foldl (fun s n => if s.spawned n then s.applyTen n f has else s) s

/-- The banks whose supply, as VMON8 to VMON11 last read it, lies more than 10 % from the nominal that IO_BANKS gives raise their monitor
sources at the first frame (R437). A monitor that has not been sampled yet says nothing (DEDUCED, log entry 128). -/
def State.bankCheck (s : State) : State :=
  let off (k : Nat) : Bool :=
    let v := s.windlass.vmon.get (8 + k)
    let nominal := if s.cfg.dev.ioBanks.testBit k then gRatio 33 10 else gRatio 18 10
    v != 0#32 && gLt (gMul nominal (gRatio 1 10)) (fAbs (gSub v nominal))
  s.monFlags (((List.range 4).filter off).map (20 + ·))

/-- RUNNING entered from LOADING, before the first boundary. -/
def State.enterRunning (s : State) (c : AppliedCfg) (f : Nat) : State :=
  let follows := s.startsFollower
  let s1 := ((s.activate c).applyAll f (fun _ => true)).fcTurnOn (fun i => decide (40 ≤ i))
  let s2 := (s1.modDev (fun d => { d with phase := .running })).modTime (fun x => { x with framesRun := true })
  let s3 := (s2.modPair (fun p => { p with forwarder := !follows })).poolUpdate.levelUpdate
  ((s3.outputsOn true).usbAttach).bankCheck

/-- FIRST_FRAME: S6 to S9 have ended. A device that starts as a follower waits for SP_FRAME and a FRAME packet, whose index it goes on from
(R402). -/
def State.firstFrame (s0 : State) (c : AppliedCfg) (i : FrameIn) : State :=
  let s := s0.modPair (fun p => { p with sel := i.spSel, ownIn := i.ownIn })
  if s.startsFollower then
    match s.pair.partnerFrame with
    | some g => if s.pair.framePulse then (s.enterRunning c (g.toNat + 1)).beginFrame (g + 1#64) i else s
    | none => s
  else (s.enterRunning c 0).beginFrame 0#64 i

/-- FIRST_FRAME: after Phase D, the lock of the audio PLL and the wipe of the sealed cistern that step S6 includes (R62). -/
def execFirstFrame (i : FrameIn) (s : State) : Res :=
  .next (match s.spawn.pend with
    | some c => if s.dev.phase == .loading && s.spawn.troughsDone && s.dev.audLock && !s.mem.sealWiping then s.firstFrame c i else s
    | none => s)

/-! ### Life-cycle (R97 to R101) -/

/-- The code of a life-cycle state (R59). -/
def LifeCycle.code : LifeCycle → Nat
  | .make => 0 | .develop => 1 | .field => 2 | .retired => 3

/-- The life-cycle state of a code. -/
def LifeCycle.ofCode (n : Nat) : LifeCycle :=
  match n with
  | 0 => .make | 1 => .develop | 2 => .field | _ => .retired

/-- Table 4 of chapter 04: every later state may follow, no earlier one. -/
def LifeCycle.allows (a b : LifeCycle) : Bool := decide (a.code < b.code)

/-- The request that TENANCY_LC_REQ carries, if it is accepted: with the key, in RUNNING or UNSPAWNED, and with no programming under way
(R98, R99). -/
def State.lcAccepts (s : State) (v : Word) : Option FuseJob :=
  if bits v 31 16 ≠ 0x4C43 ∨ s.fuses.job.isSome ∨ (s.dev.phase ≠ .running ∧ s.dev.phase ≠ .unspawned) then none
  else if bits v 1 0 = 1 then
    let target := LifeCycle.ofCode (bits v 3 2)
    if s.fuses.lc.allows target then some (.lifecycle target) else none
  else if bits v 1 0 = 2 then
    if (s.fuses.lc = .make ∨ s.fuses.lc = .develop) ∧ s.fuses.keyHash.isNone then some .keyHash else none
  else none

/-- TENANCY_LC_REQ written. A transition first wipes the sealed cistern. -/
def State.lcReq (s : State) (v : Word) : State :=
  match s.lcAccepts v with
  | none => s.regRejected 0x2020C
  | some j =>
    let s1 := s.modFuses (fun x => { x with job := some j })
    match j with
    | .lifecycle _ => s1.sealWipe false
    | .keyHash => s1

/-- A write of TENANCY_LC_REQ. R98 judges it in every state in which the host is served: outside RUNNING, where the rest of its block is not
reachable, the steward's request is accepted in UNSPAWNED and raises ES1004 elsewhere. -/
def State.lcWrite (s : State) (t : Nat) (v : Word) : State :=
  if s.hostServed && s.dev.phase != .running && t == 0 then s.retireAll.lcReq v
  else s.access t 0x2020C true (t == 0) (fun s => s.lcReq v)

/-- LIFECYCLE_TRANSITION. -/
def execLifecycleTransition (t : Fin 8) (v : Word) (s : State) : Res := .next (s.lcWrite t v)

/-- KEY_HASH_FUSE. -/
def execKeyHashFuse (t : Fin 8) (v : Word) (s : State) : Res := .next (s.lcWrite t v)

/-- Fuse programming ends: verified, the new state or the hash stands, and a transition raises ES1006 and resets the device; otherwise
LAST_FAILED is set (R98, R99, R101). -/
def State.fuseDone (s : State) (verified : Bool) : State :=
  match s.fuses.job with
  | none => s
  | some j =>
    if !verified then s.modFuses (fun x => { x with job := none, lastFailed := true })
    else match j with
      | .lifecycle target =>
        let s1 := s.modFuses (fun x => { x with job := none, lastFailed := false, lc := target })
        (s1.pulse 1006 0#32).resetInto 4 s.dev.boot false
      | .keyHash => s.modFuses (fun x => { x with
          job := none, lastFailed := false, keyHash := some (wordsBytes x.hashWords.toList), hashWords := Bank.all 8 0#32 })

/-- FUSE_PROGRAM_DONE. -/
def execFuseProgramDone (verified : Bool) (s : State) : Res := .next (s.fuseDone verified)

end Sys2Proof.Machine
end

