-- ==== Sys2Proof/Machine/Clock.lean ====
section
/-! DEFINITION. The clocks, device time, dormancy and the wake sources (R66 to R83). -/

namespace Sys2Proof.Machine

/-! ### Time and dividers (R73, R83) -/

/-- CLOCK_TIME_LO read by tenancy t: its latch takes the whole value. -/
def State.timeRead (s : State) (t : Nat) : State × Word :=
  (s.modTime (fun x => { x with timeLatch := x.timeLatch.put t x.devTime }), lo32 s.time.devTime)

/-- CLOCK_FRAME_LO read by tenancy t: its latch takes the index and the time of the last boundary. -/
def State.frameRead (s : State) (t : Nat) : State × Word :=
  (s.modTime (fun x => { x with frameLatch := x.frameLatch.put t x.frameIdx, ftimeLatch := x.ftimeLatch.put t x.frameTime }),
    lo32 s.time.frameIdx)

/-- What a read with an effect gives, on the outside. -/
def answer (t : Nat) (x : State × Word) : State := x.1.emit (.regRead t x.2)

/-- CLOCK_TIME_READ. -/
def execClockTimeRead (t : Fin 8) (s : State) : Res :=
  .next (s.access t 0x3A0018 false true (fun s => answer t (s.timeRead t)))

/-- CLOCK_FRAME_READ. -/
def execClockFrameRead (t : Fin 8) (s : State) : Res :=
  .next (s.access t 0x3A0020 false true (fun s => answer t (s.frameRead t)))

/-- CLOCK_TRFDIVn written: only the engine's owner requests a divider. -/
def State.trfDiv (s : State) (t n : Nat) (v : Word) : State :=
  if s.engineOwner n == some t then
    s.modDev (fun d => { d with trfdiv := d.trfdiv.upd n (fun x => { x with request := some (v.setWidth 2) }) })
  else s

/-- TRFDIV_WRITE. -/
def execTrfdivWrite (t : Fin 8) (n : Fin 4) (v : Word) (s : State) : Res :=
  .next (s.access t (0x3A0040 + 4 * n) true (t == 0 || s.engineOwner n == some t.val) (fun s => s.trfDiv t n v))

/-- TRFDIV_APPLY: a divider takes effect at a frame boundary only, so at the time of the last one or not at all. -/
def execTrfdivApply (n : Fin 4) (s : State) : Res :=
  .next (if s.dev.phase.frames && s.time.framesRun && s.time.devTime == s.time.frameTime then s.trfApply n else s)

/-! ### The media clock and the crystals (R68, R82) -/

/-- MEDIA_CLOCK_CLAMP. -/
def execMediaClockClamp (s : State) : Res :=
  .next (if s.mediaPort.isNone || s.dev.clamp then s else (s.modDev (fun d => { d with clamp := true })).clockFault)

/-- MEDIA_CLOCK_LOST. -/
def execMediaClockLost (s : State) : Res := .next s.holdover

/-- MEDIA_CLOCK_RETURN: the media clock is back in range and the PLL slews back to it; MEDIA_LOCK follows once the phase error has stayed
within ±100 ns for 1 s (R68, R333). While its port is down or not synchronised the media clock cannot be back. -/
def execMediaClockReturn (s : State) : Res :=
  .next (if s.mediaPort.isNone || s.mediaGone then s else s.modDev (fun d => { d with holdover := false, clamp := false }))

/-- Whether a configuration is applied: from the first frame after LOADING on (R48). -/
def DevPhase.applied : DevPhase → Bool
  | .running | .parked | .dormantK | .dormantL | .safe => true
  | _ => false

/-- Whether the clock monitor checks a crystal: it runs on AON, and watches XB while a family-B rate is applied. -/
def State.watches (s : State) (x : Crystal) : Bool :=
  s.dev.phase != .off && (match x with
    | .xa => true
    | .xb => s.dev.phase.applied && fsFamilyB s.cfg.dev.fs && s.dev.xbFitted)

/-- CRYSTAL_LOST. -/
def State.crystalLost (s : State) (x : Crystal) : State :=
  (s.modDev (fun d => match x with
    | .xa => { d with xaGood := false, crystalLost := true }
    | .xb => { d with xbGood := false, crystalLost := true })).clockFault

/-- CRYSTAL_LOST. -/
def execCrystalLost (x : Crystal) (s : State) : Res := .next (if s.watches x then s.crystalLost x else s)

/-- A PLL's bit of CLOCK_STATUS; the other PLLs have none. -/
def DevState.setLock (d : DevState) (p : Pll) (b : Bool) : DevState :=
  match p with
  | .core => { d with coreLock := b }
  | .audio => { d with audLock := b }
  | .truffle => { d with trfLock := b }
  | .aquifer => { d with aqLock := b }
  | .other => d

/-- PLL_LOCK_LOSS: the device stays in its state and keeps issuing frames. -/
def execPllLockLoss (p : Pll) (s : State) : Res :=
  .next (if s.dev.phase == .off || s.dev.phase == .aon then s else (s.modDev (fun d => d.setLock p false)).clockFault)

/-- CRYSTAL_RETURN: the PLLs that run from the crystal relock. -/
def State.crystalBack (s : State) (x : Crystal) : State :=
  s.modDev (fun d => match x with
    | .xa => { d with xaGood := true, crystalLost := s.watches .xb && !d.xbGood, coreLock := true, trfLock := true,
                      aqLock := s.aq.present, audLock := d.audLock || (d.phase.frames && !fsFamilyB s.cfg.dev.fs) }
    | .xb => { d with xbGood := true, crystalLost := !d.xaGood, audLock := d.audLock || (d.phase.frames && fsFamilyB s.cfg.dev.fs) })

/-- CRYSTAL_RETURN. -/
def execCrystalReturn (x : Crystal) (s : State) : Res :=
  .next (if s.watches x && s.dev.crystalLost then s.crystalBack x else s)

/-! ### Dormancy (R78, R29) -/

/-- A dormant request accepted: uncommitted operations abort, and the fade starts once none is left (R78). -/
def State.dormantBegin (s : State) (deep : Bool) : State :=
  let s1 := s.drainBulk.abortAll false (fun _ => true)
  (s1.modDev (fun d => { d with dormEntry := some { deep := deep, fadeLeft := none }, wakeHeld := false })).dormantFadeStart

/-- CLOCK_DORMANT written: KIND, and REQ, which is dropped with ES1008 outside RUNNING, in a stage pair, with no wake source enabled, or
once a park has begun (R78, R23). -/
def State.clockDormant (s : State) (v : Word) : State :=
  let s1 := s.modDev (fun d => { d with dormKind := v.getLsbD 1 })
  if !v.getLsbD 0 || s.dev.dormEntry.isSome then s1
  else if s.dev.phase != .running || s.role != .single || s.dev.wakeEn == 0#14 || s.parkDue || s.supply.parking.isSome then
    s1.pulse 1008 0#32
  else s1.dormantBegin (v.getLsbD 1)

/-- DORMANT_REQUEST. -/
def execDormantRequest (t : Fin 8) (v : Word) (s : State) : Res :=
  .next (s.access t 0x3A0030 true (t == 0) (fun s => s.clockDormant v))

/-- Dormancy entered: outputs at high impedance, stores drained, the aquifer in self-refresh or deep power-down, and for DORMANT-L the
cisterns down and the sealed cistern wiped (R78). A wake held during the entry begins at once (R29). -/
def State.dormantEnter (s : State) (deep : Bool) : State :=
  let s1 := (s.outputsOff.freeAllVoices).drainMemory
  let s2 := if deep then
      ((s1.modMem (fun m => { m with cis := [], cisEcc := [], aq := [], aqEcc := [] })).modAq (fun q => { q with deepDown := true })).sealWipe false
    else s1.modAq (fun q => { q with selfRefresh := true })
  let s3 := s2.modTime (fun x => { x with framesRun := false, aonCount := 0#64 })
  s3.modDev (fun d => { d with
    phase := if deep then .dormantL else .dormantK, dormEntry := none, waking := d.wakeHeld && !s.parkCause,
    wakeHeld := d.wakeHeld && s.parkCause })

/-- DORMANT_ENTRY_COMPLETE: the fade has run. A park that has arisen outranks it (R23). -/
def execDormantEntryComplete (s : State) : Res :=
  .next (match s.dev.dormEntry with
    | some e => if s.dev.phase == .running && e.fadeLeft == some 0 && !s.parkDue then s.dormantEnter e.deep else s
    | none => s)

/-! ### Wake sources (R79) -/

/-- Whether the device is dormant. -/
def DevPhase.dormant : DevPhase → Bool
  | .dormantK | .dormantL => true
  | _ => false

/-- A wake source fires: armed only when enabled. During the entry the wake is held (R29), and a supply condition of level 2 holds it too
(R23). -/
def State.wakeFire (s : State) (b : Nat) : State :=
  if !s.dev.wakeEn.getLsbD b || !(s.dev.phase.dormant || s.dev.dormEntry.isSome) then s
  else
    let hold := s.dev.dormEntry.isSome || s.parkCause
    s.modDev (fun d => { d with
      wakeSrc := d.wakeSrc ||| BitVec.ofNat 14 (2 ^ b), wakeHeld := d.wakeHeld || hold, waking := d.waking || !hold })

/-- Whether a character wakes a port (R368). -/
def State.uartWakes (s : State) (n : Nat) (c : BitVec 9) : Bool :=
  match s.uartRec n with
  | none => false
  | some (_, r) => r.wake && (match r.mode with
    | .midi => c.getLsbD 7 && (if r.matchVal.testBit 8 then bits c 7 4 == r.matchVal / 16 % 16 else bits c 7 0 == r.matchVal % 256)
    | .panel9 => c.getLsbD 8 && c.toNat == r.matchVal
    | .async => c.toNat % 2 ^ (s.uarts.get n).charBits .async == r.matchVal % 2 ^ (s.uarts.get n).charBits .async
    | .card => false)

/-- WAKE_UART_MATCH: the matching character is the first of those the dormant receiver holds; one that arrives during the entry, while the
receiver still works as ever, only holds the wake (R29). -/
def State.wakeUart (s : State) (n : Nat) (c : BitVec 9) : State :=
  if !(s.uartWakes n c && s.dev.wakeEn.getLsbD n) then s
  else if s.dev.phase.dormant then
    if (s.uarts.get n).dorm.isEmpty then (s.updUart n (fun u => u.hold (w32 c.toNat))).wakeFire n else s
  else s.wakeFire n

/-- WAKE_UART_MATCH. -/
def execWakeUartMatch (n : Fin 8) (c : BitVec 9) (s : State) : Res := .next (s.wakeUart n c)

/-- WAKE_ANY_KEY: first and second are the active KB_SNS lines of two consecutive samples. -/
def execWakeAnyKey (first second : BitVec 32) (s : State) : Res :=
  .next (if s.keybedRec.isSome && bits (first &&& second) 15 0 != 0 then s.wakeFire 8 else s)

/-- WAKE_RTC: the AON counter has reached CLOCK_RTC_CMP; during the entry the wake is held (R29). -/
def State.wakeRtc (s : State) : State :=
  if s.dev.phase.dormant then
    (s.modTime (fun x => { x with aonCount := BitVec.ofNat 64 (max x.aonCount.toNat s.dev.rtcCmp.toNat) })).wakeFire 9
  else s.wakeFire 9

/-- WAKE_RTC. -/
def execWakeRtc (s : State) : Res := .next s.wakeRtc

/-- WAKE_USB_RESUME: resume signalling ends the suspension too. -/
def execWakeUsbResume (s : State) : Res :=
  .next (if s.usb.attached then (s.modUsb (fun u => { u with suspended := false })).wakeFire 10 else s)

/-- Whether a code of the channel named in CLOCK_WAKE_SEN is past its threshold, which is its upper 12 bits (Table 10). -/
def State.sensorWakes (s : State) (code : BitVec 16) : Bool :=
  let limit := bits s.dev.wakeSen 31 20
  if s.dev.wakeSen.getLsbD 16 then decide (bits code 15 4 < limit) else decide (limit < bits code 15 4)

/-- WAKE_SENSOR. -/
def execWakeSensor (code : BitVec 16) (s : State) : Res := .next (if s.sensorWakes code then s.wakeFire 11 else s)

/-- WAKE_N_LOW. -/
def execWakeNLow (s : State) : Res := .next (s.wakeFire 12)

/-- WAKE_PCIE. -/
def execWakePcie (s : State) : Res := .next (if s.host.linkUp then s.wakeFire 13 else s)

/-! ### Wake (R80, R48, R25, R368) -/

/-- The characters that a dormant receiver held, at the end of the receive queue. -/
def UartState.wake (u : UartState) (trigger : Nat) : UartState :=
  let u1 := u.dorm.foldl (fun u e => u.store trigger e) { u with dorm := [], dormOvr := false }
  if u.dormOvr then { u1 with ovr := true, ovrCnt := errCount u1.ovrCnt 1 } else u1

/-- What a wake starts again: the configuration of the active bank, the keybed scan, the sensors and the outputs. -/
def State.wakeApply (s : State) (f : Nat) : State :=
  let s1 := (List.range 8).foldl (fun s n => s.fillTroughs n (s.tcfg n).structs) s
  let s2 := ((s1.applyAll f (fun _ => false)).fcTurnOn (fun i => decide (40 ≤ i))).outputsOn false
  (List.range 8).foldl (fun s n => s.updUart n (fun u => u.wake (s.uartTrigger n))) s2

/-- The first frame after a wake. DESIGN CHOICE: device time takes its new value here; what CLOCK_TIME_LO shows between the wake and the first
frame the manual does not state, and it shows the value at dormant entry (log entry 110). deep says that the device was in DORMANT-L, after which each tenancy with a cistern is told (R25). -/
def State.wakeUp (s : State) (deep : Bool) (i : FrameIn) : State :=
  let f := s.time.frameIdx + 1#64
  let s1 := s.modTime (fun x => { x with devTime := s.timeNow, framesRun := true })
  let s2 := s1.modDev (fun d => { d with phase := .running, waking := false, wakeHeld := false, audLock := true })
  let s3 := (s2.modAq (fun q => { q with selfRefresh := false, deepDown := false })).aqTrained.wakeApply f.toNat
  let owners := (List.range 8).filter (fun n => deep && (List.range 24).any (fun c => s.cisOwner c == some n))
  let s4 := owners.foldl (fun s n => s.pulse (1008 + n) 0#32) s3
  (s4.pulse 1007 0#32).beginFrame f i

/-- WAKE_COMPLETE: an uncorrectable word in the active bank leads to LOADING, with ES1001 and E_APPLY (R48). -/
def State.wakeComplete (s : State) (ecc : Bool) (i : FrameIn) : State :=
  if ecc then
    (s.reload.modSpawn (fun p => { p with err := BitVec.ofNat 8 eApply, active := AppliedCfg.empty })).pulse 1001 (w32 eApply)
  else s.wakeUp (s.dev.phase == .dormantL) i

/-- WAKE_COMPLETE. -/
def execWakeComplete (ecc : Bool) (i : FrameIn) (s : State) : Res :=
  .next (if s.dev.waking && s.dev.phase.dormant then s.wakeComplete ecc i else s)

end Sys2Proof.Machine
end

