-- ==== Sys2Proof/Machine/Visible.lean ====
section
/-! DEFINITION. What each tenancy sees of each block (R91 and the block notes of every chapter): one condition for reads and writes alike. -/

namespace Sys2Proof.Machine

/-- The instance that an offset of a block falls into: base and size of one instance, and the offset inside it. -/
def inst (ofs base size : Nat) : Nat × Nat := ((ofs - base) / size, (ofs - base) % size)

/-- The byte of tenancy t's sealed data that an offset of CIS_SEALWIN shows. -/
def State.sealByte (s : State) (t ofs : Nat) : Nat := (s.mem.sealPage.get t).toNat * 32768 + (ofs - 0x208000)

/-- What tenancy t sees of the event sources: the words of its own sources, every EVS_PEND word, its EVS_WELL and the pins it holds. -/
def State.seesEvsrc (s : State) (t ofs : Nat) : Bool :=
  if ofs < 0x5000 then s.sourceOwner ((ofs - 0x4000) / 4) == some t
  else if 0x5100 ≤ ofs ∧ ofs < 0x5110 then s.pinHolder ((ofs - 0x5100) / 4) == some t
  else true

/-- What it sees of the Forager: its pools, its front registers, FOR_CAP, and its routes; EVF_UNROUTED is the steward's. -/
def State.seesForager (s : State) (t ofs : Nat) : Bool :=
  if ofs < 0x141000 then s.poolOrKept (inst ofs 0x140000 0x80).1 == some t
  else if ofs < 0x141100 then (inst ofs 0x141000 0x20).1 == t
  else if ofs = 0x141184 then t == 0
  else if 0x141200 ≤ ofs then s.periphOwner pcRoute (inst ofs 0x141200 8).1 == some t
  else true

/-- What it sees of the cisterns: its own, its key slots, its page and its sealed window; CIS_SEALSTAT is the steward's. -/
def State.seesCistern (s : State) (t ofs : Nat) : Bool :=
  if ofs < 0x200600 then s.cisOwner (inst ofs 0x200000 0x40).1 == some t
  else if 0x200800 ≤ ofs ∧ ofs < 0x200900 then s.keyOwner ((ofs - 0x200800) / 4) == some t
  else if ofs = 0x200900 then t == 0
  else if 0x208000 ≤ ofs then decide (s.sealByte t ofs + 4 ≤ (s.sealedAt t).2)
  else true

/-- What it sees of the Spout: its buses and load groups; voter and fade registers are the steward's. -/
def State.seesSpout (s : State) (t ofs : Nat) : Bool :=
  if ofs < 0x310400 then s.periphOwner pcBus (inst ofs 0x310000 0x10).1 == some t
  else if ofs < 0x310500 then s.groupOwner (inst ofs 0x310400 0x40).1 == some t
  else if 0x310600 ≤ ofs ∧ ofs < 0x310700 then s.groupOwner (4 + (inst ofs 0x310600 0x80).1) == some t
  else t == 0

/-- What it sees of the network: its talkers and listeners; the rest is the steward's. -/
def State.seesNet (s : State) (t ofs : Nat) : Bool :=
  if ofs < 0x340200 then s.periphOwner pcTalker (inst ofs 0x340000 0x20).1 == some t
  else if 0x340400 ≤ ofs ∧ ofs < 0x340600 then s.periphOwner pcListener (inst ofs 0x340400 0x20).1 == some t
  else t == 0

/-- What it sees of the CLOCK block: time and frames, and the dividers of its engines; the steward sees everything (R83). -/
def State.seesClock (s : State) (t ofs : Nat) : Bool :=
  t == 0 || (decide (0x3A0018 ≤ ofs) && decide (ofs < 0x3A0030)) ||
    (decide (0x3A0040 ≤ ofs) && decide (ofs < 0x3A0050) && s.engineOwner ((ofs - 0x3A0040) / 4) == some t)

/-- What it sees of the observation registers: its counters and its TRC_ALLOW; the trace port is the steward's. -/
def seesObserve (t ofs : Nat) : Bool :=
  if ofs < 0x3E2000 then (inst ofs 0x3E0000 0x10).1 / 64 == t
  else if ofs < 0x3E2100 then (inst ofs 0x3E2000 0x20).1 == t
  else t == 0

/-- What it sees of the Windlass: its own requests and class; the steward sees every class and the rest (Table 3 of chapter 04). -/
def seesWindlass (t ofs : Nat) : Bool :=
  if 0x3B0200 ≤ ofs ∧ ofs < 0x3B0280 then
    (inst ofs 0x3B0200 0x10).1 == t || (t == 0 && (inst ofs 0x3B0200 0x10).2 == 8)
  else t == 0

/-- Whether tenancy t, which is present or the steward, sees the register at a BAR0 offset of a block. -/
def State.sees (s : State) (b : Block) (t ofs : Nat) : Bool :=
  match b with
  | .ident | .qport | .msix | .pba => true
  | .wellctl => s.wellOwner (inst ofs 0x2000 0x20).1 == some t
  | .evsrc => s.seesEvsrc t ofs
  | .spawn => t == 0 || !(ofs == 0x10000 || ofs == 0x10010)
  | .tenancy => t == 0 || (decide (ofs < 0x20200) && (inst ofs 0x20000 0x40).1 == t)
  | .gill => s.gillOwner (inst ofs 0x100000 0x1000).1 == some t
  | .forager => s.seesForager t ofs
  | .mycelium => decide (0x178000 ≤ ofs) || ((s.tcfg t).struct (inst ofs 0x160000 0x800).1).isSome
  | .truffle => s.engineOwner (inst ofs 0x180000 0x10000).1 == some t
  | .cistern => s.seesCistern t ofs
  | .pump => s.pumpOwner (inst ofs 0x210000 0x100).1 == some t
  | .aquifer => if ofs < 0x220080 then (inst ofs 0x220000 0x10).1 == t else t == 0
  | .filter => if ofs < 0x302000 then s.fcOwner (inst ofs 0x300000 0x80).1 == some t && decide ((inst ofs 0x300000 0x80).1 < 44) else t == 0
  | .spout => s.seesSpout t ofs
  | .sap => s.periphOwner pcSap (inst ofs 0x320000 0x100).1 == some t
  | .net => s.seesNet t ofs
  | .usb => if 0x360100 ≤ ofs ∧ ofs < 0x360180 then (inst ofs 0x360100 0x10).1 == t else t == 0
  | .timer => s.periphOwner pcTimer (inst ofs 0x370000 0x100).1 == some t
  | .keybed => s.periphOwner pcKeybed 0 == some t
  | .uart => s.periphOwner pcUart (inst ofs 0x390000 0x100).1 == some t
  | .i2c => s.periphOwner pcI2c (inst ofs 0x398000 0x100).1 == some t
  | .flash | .supply | .pair => t == 0
  | .clock => s.seesClock t ofs
  | .windlass => seesWindlass t ofs
  | .observe => seesObserve t ofs

end Sys2Proof.Machine
end

