-- ==== Sys2Proof/Machine/ReadHost.lean ====
section
/-! DEFINITION. What reads of the registers give (R6, R7), part one: identity, host, spawn, tenancy, Forager, gill, mycelium and
Truffle blocks. A register that the manual does not list reads as 0. -/

namespace Sys2Proof.Machine

/-- A read without effect. -/
def State.ro (s : State) (v : Word) : State × Word := (s, v)

/-- Lower and upper 32 of 64 bits. -/
def half (x : DWord) (hi : Bool) : Word := if hi then hi32 x else lo32 x

/-- IDENT (R11). -/
def readIdent (t ofs : Nat) : Word :=
  if ofs = 0 then 0x4B580848#32 else if ofs = 4 then 0xB0#32 else if ofs = 8 then w32 t else 0#32

/-- QPORT (R128). -/
def State.readQport (s : State) (t ofs : Nat) : State × Word :=
  let q := s.qports.get t
  if ofs < 0x1020 then s.ro (q.args.get ((ofs - 0x1000) / 4))
  else if ofs = 0x1024 then s.ro (w32 q.status.toNat)
  else if ofs = 0x1028 then s.ro q.handle
  else if ofs = 0x1030 then s.ro (w32 q.abortStatus.toNat)
  else if ofs = 0x1034 then s.ro (w32 ((s.opsOf t).length + fld q.store.length 16))
  else if 0x1040 ≤ ofs ∧ ofs < 0x1080 then
    match q.store with
    | c :: _ => s.ro ((wordsOf c.bytes).getD ((ofs - 0x1040) / 4) 0#32)
    | [] => s.ro 0#32
  else if ofs = 0x1084 then (s.modQports (fun b => b.upd t (fun q => { q with reflexDrop := 0 })), w32 q.reflexDrop)
  else if ofs = 0x1088 then (s.modQports (fun b => b.upd t (fun q => { q with reflexRefused := 0 })), w32 q.reflexRefused)
  else s.ro 0#32

/-- The code of a well type (Table 7 of chapter 05). -/
def WellType.code : WellType → Nat
  | .cmd => 0 | .cpl => 1 | .evt => 2 | .strm => 3 | .pkt => 4

/-- WELL_CFGw: ACTIVE is 1 but for a STRM well that no record names. -/
def State.wellCfg (s : State) (w : Nat) : Word :=
  match s.wellRec w with
  | none => 0#32
  | some (n, r) =>
    let idle := r.type == .strm && !(s.tcfg n).strmIn w && !(s.tcfg n).strmOut w
    w32 (r.type.code + fld r.k 3 + flag (s.deviceProduced w) 8 + flag (!idle) 9)

/-- WELLCTL (R129). -/
def State.readWell (s : State) (ofs : Nat) : State × Word :=
  let w := (inst ofs 0x2000 0x20).1
  let x := s.wells.get w
  let upd (f : Well → Well) : State := s.modWells (fun b => b.upd w f)
  match (inst ofs 0x2000 0x20).2 with
  | 0x00 => s.ro (s.wellCfg w)
  | 0x04 => s.ro (match s.wellRec w with
    | some (_, r) => w32 r.ring
    | none => 0#32)
  | 0x08 => s.ro (w32 x.p.toNat)
  | 0x0C => s.ro (w32 x.c.toNat)
  | 0x10 => s.ro (w32 x.trig.toNat)
  | 0x14 => s.ro (w32 x.status.toNat)
  | 0x18 => (upd (fun x => { x with lost := 0, lostIdx := none }), w32 (x.lost + fld (x.lostIdx.getD 0#16).toNat 16))
  | 0x1C => (upd (fun x => { x with cmdErr := 0 }), w32 x.cmdErr)
  | _ => s.ro 0#32

/-- EVS_CFGi (Table 7 of chapter 18). -/
def State.evsWord (s : State) (i : Nat) : Word :=
  let c := s.evs.src.get i
  match s.sourceOwner i with
  | none => w32 (flag c.mask 0 + flag true 31)
  | some n => w32 (flag c.mask 0 + flag c.pend 1 + flag c.req 2 + flag c.out 4 + flag c.well 5 + fld c.vector.toNat 8 + fld c.pin.toNat 16 +
      fld n 28)

/-- EVS_PENDk as tenancy t sees it. -/
def State.pendWord (s : State) (t k : Nat) (unmasked : Bool) : Nat :=
  ((List.range 32).map (fun b =>
    let c := s.evs.src.get (32 * k + b)
    flag (s.sourceOwner (32 * k + b) == some t && c.pend && !(unmasked && c.mask)) b)).sum

/-- EVSRC (R430). -/
def State.readEvsrc (s : State) (t ofs : Nat) : Word :=
  if ofs < 0x5000 then (if sourceReserved ((ofs - 0x4000) / 4) then 0#32 else s.evsWord ((ofs - 0x4000) / 4))
  else if ofs < 0x5080 then w32 (s.pendWord t ((ofs - 0x5000) / 4) false)
  else if ofs = 0x5080 then w32 ((List.range 32).map (fun k => flag (s.pendWord t k true != 0) k)).sum
  else if ofs = 0x5084 then s.evs.well.get t
  else if 0x5100 ≤ ofs ∧ ofs < 0x5110 then w32 (flag (s.evs.mode.get ((ofs - 0x5100) / 4)) 0)
  else 0#32

/-- A word of an MSI-X table entry (R104). -/
def State.readMsix (s : State) (t ofs : Nat) : Word :=
  let e := (s.host.fns.get t).table.get (inst ofs 0x8000 16).1
  match (inst ofs 0x8000 16).2 with
  | 0 => e.addrLo
  | 4 => e.addrHi
  | 8 => e.data
  | 12 => w32 (flag e.masked 0)
  | _ => 0#32

/-- A word of the PBA. -/
def State.readPba (s : State) (t ofs : Nat) : Word := half (s.host.fns.get t).pba (ofs == 0x9004)

/-- SPAWN_STATUS (Table 13 of chapter 02). -/
def SpawnState.statusWord (p : SpawnState) : Word :=
  w32 (p.phase.toNat + flag p.slot 3 + flag p.fromHost 4 + fld p.sig.toNat 5 + fld p.err.toNat 8 + fld p.errOther.toNat 16)

/-- The phase of SPAWN_TSTATEn; the boundary after an abort is none of them and shows as COMMIT's predecessor, QUIESCE. -/
def RespawnPhase.code : RespawnPhase → Nat
  | .waitPermit => 0 | .validate => 1 | .quiesce => 2 | .write => 3 | .commit => 4 | .resume => 2

/-- SPAWN_TSTATEn. -/
def TenancyState.tstateWord (x : TenancyState) : Word :=
  let phase := match x.respawn with
    | some r => r.phase.code
    | none => 0
  w32 (x.gen.toNat + flag x.spawned 8 + flag x.respawn.isSome 9 + fld phase 10 + fld x.respawnErr.toNat 16)

/-- SPAWN (R59): a function other than 0 reads only its own per-tenancy registers. DESIGN CHOICE: SPAWN_CTRL.START reads 0, the start taken
being its clearing (log entry 118). -/
def State.readSpawn (s : State) (t ofs : Nat) : State × Word :=
  let mine (n : Nat) : Bool := t == 0 || t == n
  if ofs = 0x10004 then s.ro s.spawn.statusWord
  else if ofs = 0x10008 then s.ro s.spawn.errOfs
  else if ofs = 0x1000C then s.ro s.spawn.errLoc
  else if ofs = 0x10014 then s.ro (w32 s.spawn.count)
  else if ofs = 0x10018 then s.ro (w32 (s.fuses.lc.code + flag s.fuses.keyHash.isSome 4))
  else if ofs = 0x1001C then s.ro s.spawn.build
  else if ofs = 0x10020 then s.ro (w32 s.cfg.used)
  else if 0x10040 ≤ ofs ∧ ofs < 0x10060 then
    s.ro (if mine ((ofs - 0x10040) / 4) then (s.ten.get ((ofs - 0x10040) / 4)).tstateWord else 0#32)
  else if 0x10060 ≤ ofs ∧ ofs < 0x10080 then
    let n := (ofs - 0x10060) / 4
    if mine n then (s.modTen (fun b => b.upd n (fun x => { x with drop := 0 })), w32 (s.ten.get n).drop) else s.ro 0#32
  else s.ro 0#32

/-- A record of the TENANCY block. -/
def State.readRecord (s : State) (n r : Nat) : State × Word :=
  let o := (s.tcfg n).own
  match r with
  | 0x00 => s.ro (w32 o.gills)
  | 0x04 => s.ro (w32 (o.gills / 4294967296))
  | 0x08 => s.ro (w32 ((List.range 24).map (fun c => flag (s.cisOwner c == some n) c)).sum)
  | 0x0C => s.ro (w32 o.pumps)
  | 0x10 => s.ro (w32 o.engines)
  | 0x14 => s.ro (w32 ((s.partition n).1 / 1048576))
  | 0x18 => s.ro (w32 ((s.partition n).2 / 1048576))
  | 0x1C => s.ro (match (s.tcfg n).cisterns.sealedRec with
    | some x => w32 (x.firstSlot + fld x.slotCount 8)
    | none => 0#32)
  | 0x20 => (s.modTen (fun b => b.upd n (fun x => { x with denied := 0 })), w32 (s.ten.get n).denied)
  | 0x24 => s.ro (w32 (flag (s.ten.get n).halt.isSome 0))
  | _ => s.ro 0#32

/-- TENANCY (R103). -/
def State.readTenancy (s : State) (ofs : Nat) : State × Word :=
  if ofs < 0x20200 then s.readRecord (inst ofs 0x20000 0x40).1 (inst ofs 0x20000 0x40).2
  else if ofs = 0x20200 then s.ro (w32 s.cfg.dev.present)
  else if ofs = 0x20204 then s.ro (w32 (flag s.deny.valid 0 + fld s.deny.ten.toNat 1 + flag s.deny.write 4 + flag s.deny.bar2 5))
  else if ofs = 0x20208 then s.ro s.deny.ofs
  else if ofs = 0x20210 then s.ro (w32 (flag s.fuses.job.isSome 0 + flag s.fuses.lastFailed 1))
  else if 0x20220 ≤ ofs ∧ ofs < 0x20240 then
    s.ro (if s.fuses.keyHash.isSome then 0#32 else s.fuses.hashWords.get ((ofs - 0x20220) / 4))
  else s.ro 0#32

/-- GILL_CFGg, GILL_CYCLESg and GILL_TROUGHg, of a gill that runs a structure. -/
def State.gillWord (s : State) (g r : Nat) : Word :=
  match s.gillStruct g with
  | none => 0#32
  | some (_, st) =>
    if r = 0 then
      match s.gillPool g with
      | some (_, p) => w32 (st.slots + fld st.id 8 + fld p.pool 16 + flag true 21)
      | none => w32 (st.slots + fld st.id 8)
    else if r = 4 then w32 st.cycles
    else w32 (st.areas.map Prod.snd).sum

/-- GILL (R188). -/
def State.readGill (s : State) (ofs : Nat) : State × Word :=
  let g := (inst ofs 0x100000 0x1000).1
  let r := (inst ofs 0x100000 0x1000).2
  let x := s.gills.get g
  let upd (f : Gill → Gill) : State := s.modGills (fun b => b.upd g f)
  if r < 0x0C then s.ro (s.gillWord g r)
  else if r = 0x0C then s.ro (w32 x.status.toNat)
  else if r = 0x10 then s.ro (if x.status.getLsbD 0 then x.fault else 0#32)
  else if r = 0x14 then (upd (fun x => { x with clampCnt := 0 }), w32 x.clampCnt)
  else if r = 0x18 then (upd (fun x => { x with starveCnt := 0 }), w32 x.starveCnt)
  else if r = 0x1C then (upd (fun x => { x with faultCnt := 0 }), w32 x.faultCnt)
  else if r = 0x20 then (upd (fun x => { x with headMissCnt := 0 }), w32 x.headMissCnt)
  else if r = 0x24 then (upd (fun x => { x with eccCnt := 0 }), w32 x.eccCnt)
  else if 0x100 ≤ r ∧ r < 0x198 then s.ro (x.snap.get ((r - 0x100) / 4))
  else if 0x1A0 ≤ r ∧ r < 0x1AC then s.ro (x.snap.get (38 + (r - 0x1A0) / 4))
  else s.ro 0#32

/-- FOR_CFGp (R153). -/
def PoolRec.cfgWord (r : PoolRec) : Word :=
  let mode := match r.mode with
    | .poly => 0 | .mono => 1 | .legato => 2 | .unison => 3
  let steal := match r.steal with
    | .oldest => 0 | .quietest => 1 | .priority => 2 | .sameNote => 3
  let priority := match r.priority with
    | .highest => 0 | .lowest => 1 | .last => 2
  w32 (mode + (if r.mode == .unison then fld (r.unison - 1) 2 else 0) + fld steal 5 + flag r.preferRelease 7 + flag r.newVoice 8 +
    fld priority 9 + fld r.choke 16)

/-- The registers of a pool. -/
def State.readPool (s : State) (p r : Nat) : State × Word :=
  let x := s.pools.get p
  let upd (f : Pool → Pool) : State := s.modPools (fun b => b.upd p f)
  match s.poolRec p with
  | none => s.ro 0#32
  | some (_, c) => match r with
    | 0x00 => s.ro c.cfgWord
    | 0x04 => s.ro (w32 c.gills)
    | 0x08 => s.ro (w32 (c.gills / 4294967296))
    | 0x0C =>
      let taken := ((s.slotsOf c).filter (s.occupied x.claimed)).length
      s.ro (w32 (taken + fld (s.usable c) 10 + fld s.windlass.capApplied 20))
    | 0x10 => s.ro x.ccmap0
    | 0x14 => s.ro x.ccmap1
    | 0x1C => (upd (fun x => { x with steals := 0 }), w32 x.steals)
    | 0x20 => (upd (fun x => { x with shcut := 0 }), w32 x.shcut)
    | 0x24 => (upd (fun x => { x with hardcut := 0 }), w32 x.hardcut)
    | 0x28 => s.ro (w32 x.status.toNat)
    | _ => s.ro 0#32

/-- EVF_ROUTEr. -/
def RouteRec.word (r : RouteRec) : Word := w32 (r.source + fld r.group 8 + flag r.fold 16 + fld r.pool 24)

/-- FORAGER (R153). A read of FOR_CAP also clears WL_STATE.CAP (R396). -/
def State.readForager (s : State) (ofs : Nat) : State × Word :=
  let f := s.front
  if ofs < 0x141000 then s.readPool (inst ofs 0x140000 0x80).1 (inst ofs 0x140000 0x80).2
  else if ofs < 0x141100 then
    let n := (inst ofs 0x141000 0x20).1
    match (inst ofs 0x141000 0x20).2 with
    | 0 => s.ro (f.tap.get n)
    | 4 => s.ro (w32 (f.sched.get n).length)
    | 8 => (s.modFront (fun f => { f with schedDrop := f.schedDrop.put n 0 }), w32 (f.schedDrop.get n))
    | _ => s.ro 0#32
  else if ofs = 0x141180 then (s.modWindlass (fun w => { w with capFlag := false }), w32 s.windlass.cap)
  else if ofs = 0x141184 then (s.modFront (fun f => { f with unrouted := 0 }), w32 f.unrouted)
  else if 0x141200 ≤ ofs ∧ ofs < 0x141400 then
    let r := (inst ofs 0x141200 8).1
    if (inst ofs 0x141200 8).2 = 0 then s.ro (match s.routeRec r with
      | some (_, x) => x.word
      | none => 0#32)
    else (s.modFront (fun f => { f with hits := f.hits.put r 0 }), w32 (f.hits.get r))
  else s.ro 0#32

/-- MYC_ROUTEs_r. -/
def MycRouteRec.word (r : MycRouteRec) : Word :=
  w32 (r.source + fld r.dest 8 + fld r.curve 16 + flag r.audioRate 19 + flag r.viaEnable 20 + fld r.via 24)

/-- The registers of structure id of tenancy t (R206). -/
def State.readStruct (s : State) (t id r : Nat) : State × Word :=
  let routes := (s.tcfg t).routesOf id
  let upd (f : MycStruct → MycStruct) : State := s.updMycStruct t id f
  match s.mycStruct t id, (s.tcfg t).struct id with
  | some x, some st =>
    if r = 0 then s.ro (w32 ((s.tcfg t).tickLog id + fld routes.length 8 + fld (routes.filter MycRouteRec.audioRate).length 16 +
      fld st.dests.length 24))
    else if r = 4 then s.ro (w32 (flag x.arm 0))
    else if r = 8 then s.ro (w32 x.status.toNat)
    else if r = 0x0C then (upd (fun x => { x with nanCnt := 0 }), w32 x.nanCnt)
    else if r = 0x10 then (upd (fun x => { x with satCnt := 0 }), w32 x.satCnt)
    else if r = 0x14 then s.ro x.swapFrame
    else if 0x200 ≤ r ∧ r < 0x400 then s.ro (x.pend.getD ((r - 0x200) / 4) 0#32)
    else if 0x400 ≤ r ∧ r < 0x600 then s.ro (x.active.getD ((r - 0x400) / 4) 0#32)
    else if 0x600 ≤ r then s.ro (match routes[(r - 0x600) / 4]? with
      | some x => x.word
      | none => 0#32)
    else s.ro 0#32
  | _, _ => s.ro 0#32

/-- MYCELIUM (R206, R207). -/
def State.readMycelium (s : State) (t ofs : Nat) : State × Word :=
  let x := s.myc.get t
  if ofs < 0x178000 then s.readStruct t (inst ofs 0x160000 0x800).1 (inst ofs 0x160000 0x800).2
  else if ofs < 0x178020 then s.ro ((x.glfos.get ((ofs - 0x178000) / 4)).rate)
  else if ofs < 0x178030 then s.ro (x.macros.get ((ofs - 0x178020) / 4))
  else if ofs < 0x178050 then s.ro (x.sensors.get ((ofs - 0x178030) / 4))
  else if ofs < 0x178070 then s.ro ((x.glfos.get ((ofs - 0x178050) / 4)).out)
  else s.ro 0#32

/-- TRUFFLE (R238). -/
def State.readTruffle (s : State) (ofs : Nat) : State × Word :=
  let e := (inst ofs 0x180000 0x10000).1
  let x := s.engines.get e
  let upd (f : Engine → Engine) : State := s.modEngines (fun b => b.upd e f)
  let chain := s.chainOf e
  match (inst ofs 0x180000 0x10000).2 with
  | 0x00 => s.ro (w32 (chain.length + fld ((List.range 64).filter (fun p => chain.any (fun r => r.position == p))).length 8 + fld x.loaded 16))
  | 0x04 => s.ro (w32 (x.status.toNat + flag x.halted 8 + flag (x.jobHandle.isSome && !x.jobPaused) 9 + flag x.jobPaused 10))
  | 0x0C => s.ro x.trapLog
  | 0x10 => s.ro (lo32 ((x.bypTarget &&& ~~~x.bypMask) ||| (x.bypNext &&& x.bypMask)))
  | 0x14 => s.ro (hi32 ((x.bypTarget &&& ~~~x.bypMask) ||| (x.bypNext &&& x.bypMask)))
  | 0x18 => s.ro (lo32 x.ovr)
  | 0x1C => s.ro (hi32 x.ovr)
  | 0x20 => (upd (fun x => { x with ovrCnt := 0 }), w32 x.ovrCnt)
  | 0x24 => s.ro (w32 x.frame.sticky.toNat)
  | 0x28 => s.ro (w32 x.job.sticky.toNat)
  | 0x2C => s.ro (w32 x.cycLast)
  | 0x30 => (upd (fun x => { x with cycPeak := 0 }), w32 x.cycPeak)
  | 0x34 => s.ro (w32 (frameWindow s.fs ((s.dev.trfdiv.get e).div.toNat + 1)))
  | 0x38 => s.ro (x.jobHandle.getD 0#32)
  | 0x3C => (upd (fun x => { x with spillPkF := 0, spillPkJ := 0 }), w32 (x.spillPkF + fld x.spillPkJ 8))
  | 0x40 => s.ro x.memLog
  | _ => s.ro 0#32

end Sys2Proof.Machine
end

