-- ==== Sys2Proof/Machine/ReadBlocks.lean ====
section
/-! DEFINITION. What reads of the registers give (R6, R7), part two: cisterns, pumps, aquifer, filter chain, Spout, network, USB, peripherals,
clocks, Windlass, supply, stage pair and observation. Then the read of any register. -/

namespace Sys2Proof.Machine

/-! ### Memories (chapter 11) -/

/-- The registers of cistern c. -/
def State.readBank (s : State) (c r : Nat) : State × Word :=
  let b := s.mem.banks.get c
  let upd (f : Cistern → Cistern) : State := s.modMem (fun m => { m with banks := m.banks.upd c f })
  match r with
  | 0x00 => s.ro (w32 (b.owner.getD 0 + flag b.owner.isSome 3 + flag b.draining.isSome 4 + flag b.wiping.isSome 5 + flag b.release 6))
  | 0x04 => s.ro (w32 (flag b.release 0))
  | 0x08 => s.ro (w32 b.status.toNat)
  | 0x0C => (upd (fun b => { b with cecc := 0 }), w32 b.cecc)
  | 0x10 => (upd (fun b => { b with uecc := 0 }), w32 b.uecc)
  | 0x14 => s.ro b.elog
  | 0x18 => s.ro (w32 (s.mem.mirrorQ.filter (fun l => l.1 / cisBytes == c)).length)
  | _ => s.ro 0#32

/-- CISTERN (R280): a key slot shows VALID and its check value; the sealed window shows the tenancy's own sealed data (R261). -/
def State.readCistern (s : State) (t ofs : Nat) : State × Word :=
  if ofs < 0x200600 then s.readBank (inst ofs 0x200000 0x40).1 (inst ofs 0x200000 0x40).2
  else if 0x200800 ≤ ofs ∧ ofs < 0x200900 then
    s.ro (match s.mem.keys.get ((ofs - 0x200800) / 4) with
      | some k => keyKcv k ||| 1#32
      | none => 0#32)
  else if ofs = 0x200900 then s.ro (w32 (flag s.mem.sealWiping 0 + flag s.mem.sealTamper 1))
  else if ofs = 0x200904 then s.ro (w32 (s.mem.sealPage.get t).toNat)
  else if 0x208000 ≤ ofs then s.ro (s.mem.sealedData.word ((s.sealedAt t).1 + s.sealByte t ofs))
  else s.ro 0#32

/-- PU_CFGn. -/
def PumpRec.cfgWord (r : PumpRec) : Word :=
  w32 (r.slots + fld (r.keySlot.getD 0) 8 + flag r.keySlot.isSome 14 + flag r.rootInCistern 15)

/-- PUMP (R281). -/
def State.readPump (s : State) (ofs : Nat) : State × Word :=
  let n := (inst ofs 0x210000 0x100).1
  let p := s.pumps.get n
  let upd (f : Pump → Pump) : State := s.modPumps (fun b => b.upd n f)
  match (inst ofs 0x210000 0x100).2 with
  | 0x00 => s.ro (match s.pumpRec n with
    | some r => r.cfgWord
    | none => 0#32)
  | 0x08 => s.ro p.nonceLo
  | 0x0C => s.ro p.nonceHi
  | 0x10 => s.ro (w32 p.status.toNat)
  | 0x14 => s.ro (if p.status.getLsbD 0 then p.fault else 0#32)
  | 0x18 => s.ro (lo32 p.faddr)
  | 0x1C => s.ro (hi32 p.faddr)
  | 0x20 => s.ro (w32 ((p.streams.toList.filter Option.isSome).length + fld p.peak 8))
  | 0x24 => (upd (fun p => { p with noctx := 0 }), w32 p.noctx)
  | 0x28 => (upd (fun p => { p with faultCnt := 0 }), w32 p.faultCnt)
  | _ => s.ro 0#32

/-- AQUIFER (R282). -/
def State.readAquifer (s : State) (ofs : Nat) : State × Word :=
  let q := s.aq
  let upd (f : AqState → AqState) : State := s.modAq f
  if ofs < 0x220080 then
    let n := (inst ofs 0x220000 0x10).1
    match (inst ofs 0x220000 0x10).2 with
    | 0 => s.ro (w32 (flag (q.pstatus.get n) 0))
    | 4 => s.ro (q.pelog.get n)
    | _ => s.ro 0#32
  else match ofs with
    | 0x220100 => s.ro (w32 (flag q.present 0 + flag q.trained 1 + flag q.iecc 2 + flag q.trainFail 3 + fld q.channels.toNat 4))
    | 0x220104 => s.ro (w32 (flag q.ctrl 0))
    | 0x220108 => s.ro (w32 q.cap)
    | 0x22010C => (upd (fun q => { q with cecc := 0 }), w32 q.cecc)
    | 0x220110 => (upd (fun q => { q with uecc := 0 }), w32 q.uecc)
    | 0x220114 => s.ro q.elog
    | 0x220118 => (upd (fun q => { q with winMax := 0 }), w32 q.winMax)
    | _ => s.ro 0#32

/-! ### Filter chain (chapter 12) -/

/-- The registers of channel c. -/
def State.readChan (s : State) (c r : Nat) : State × Word :=
  let ch := s.chan c
  let upd (f : FcChan → FcChan) : State := s.modFilter (fun x => { x with chans := x.chans.upd c f })
  match r with
  | 0x00 =>
    let pend := match s.channelRec c with
      | some r => r.pend1
      | none => false
    s.ro (w32 (s.presetOf c + flag pend 8 + flag (s.dcbOf c) 9 + flag ch.on 10 + fld (if c < 8 then 0 else if c < 40 then 1 else 2) 12))
  | 0x04 => s.ro (w32 (flag ch.freeze 0 + flag ch.frozen 1))
  | 0x08 => s.ro ch.trig
  | 0x0C => s.ro (w32 ch.status.toNat)
  | 0x10 => (upd (fun ch => { ch with ovlCnt := 0 }), w32 ch.ovlCnt)
  | 0x14 => (upd (fun ch => { ch with driftSkip := 0 }), w32 ch.driftSkip)
  | 0x18 => s.ro (w32 ch.phase.toNat)
  | 0x1C => s.ro ch.dcCut
  | 0x20 => s.ro ch.coef0
  | 0x24 => s.ro ch.coef1
  | 0x28 => s.ro ch.value
  | 0x2C => s.ro (w32 ch.coarse.toNat)
  | 0x30 => s.ro ch.peak
  | 0x34 => s.ro ch.rms
  | 0x38 => s.ro ch.env
  | 0x3C => s.ro ch.detCfg
  | 0x40 => s.ro ch.detThr
  | 0x44 => s.ro ch.pkDec
  | 0x48 => s.ro ch.envAtk
  | 0x4C => s.ro ch.envRel
  | 0x50 => s.ro ch.evt
  | 0x54 => s.ro ch.evtLev
  | 0x58 => s.ro ch.evtHys
  | 0x5C => s.ro ch.zWin
  | 0x60 => s.ro ch.sWin
  | 0x64 => s.ro ch.calNoise
  | 0x68 => s.ro ch.calCoup
  | _ => s.ro 0#32

/-- FILTER (R306, R307). -/
def State.readFilter (s : State) (ofs : Nat) : State × Word :=
  if ofs < 0x301600 then s.readChan (inst ofs 0x300000 0x80).1 (inst ofs 0x300000 0x80).2
  else if ofs = 0x302000 then s.ro (w32 s.filter.driftPer.toNat)
  else if ofs = 0x302004 then
    s.ro (w32 (s.filter.drift.getD 0 + flag s.filter.drift.isSome 3 + flag s.calHold 4 + flag s.filter.spareFault 5))
  else s.ro 0#32

/-! ### Spout and serial audio (chapter 13) -/

/-- SP_BCFGb. DESIGN CHOICE: of a count above 63 the field shows the low 6 bits (log entry 57). -/
def State.busWord (s : State) (b : Nat) : Word :=
  let owner := s.periphOwner pcBus b
  w32 ((s.busRecs b).length % 64 + flag (s.chainBuses.contains b) 8 + flag owner.isSome 9 + fld (owner.getD 0) 10)

/-- A CV load group. -/
def State.readLgc (s : State) (h r : Nat) : State × Word :=
  let g := s.spout.lgc.get h
  let upd (f : Lgc → Lgc) : State := s.modSpout (fun p => { p with lgc := p.lgc.upd h f })
  if r = 0x00 then
    match s.groupRec (4 + h) with
    | some x => s.ro (w32 (x.code + flag g.skipHalf 8 + fld x.timer 16))
    | none => s.ro (w32 (flag g.skipHalf 8))
  else if r = 0x08 then s.ro (w32 (fld g.seq.toNat 16))
  else if r = 0x0C then s.ro (w32 g.status.toNat)
  else if r = 0x10 then (upd (fun g => { g with halfCnt := 0 }), w32 g.halfCnt)
  else if r = 0x14 then (upd (fun g => { g with clipCnt := 0 }), w32 g.clipCnt)
  else if 0x20 ≤ r ∧ r < 0x40 then s.ro (w32 (s.spout.cvs.get (8 * h + (r - 0x20) / 4)).shadow.toNat)
  else if 0x40 ≤ r ∧ r < 0x60 then s.ro (s.spout.cvs.get (8 * h + (r - 0x40) / 4)).offset
  else if 0x60 ≤ r ∧ r < 0x80 then s.ro (s.spout.cvs.get (8 * h + (r - 0x60) / 4)).gain
  else s.ro 0#32

/-- An audio load group. -/
def State.readLga (s : State) (g r : Nat) : State × Word :=
  let x := s.spout.lga.get g
  if r = 0x00 then s.ro (match s.groupRec g with
    | some x => w32 x.code
    | none => 0#32)
  else if r = 0x04 then s.ro (w32 x.status.toNat)
  else if r = 0x08 then (s.modSpout (fun p => { p with lga := p.lga.upd g (fun x => { x with clipCnt := 0 }) }), w32 x.clipCnt)
  else if 0x10 ≤ r ∧ r < 0x20 then s.ro (s.spout.aouts.get (4 * g + (r - 0x10) / 4)).offset
  else s.ro 0#32

/-- A Spout bus. -/
def State.readBus (s : State) (b r : Nat) : State × Word :=
  let x := s.spout.buses.get b
  match r with
  | 0x0 => s.ro (s.busWord b)
  | 0x4 => s.ro x.target
  | 0x8 => s.ro (w32 (flag x.nan 0))
  | _ => (s.modSpout (fun p => { p with buses := p.buses.upd b (fun x => { x with nanCnt := 0 }) }), w32 x.nanCnt)

/-- SPOUT (R327). -/
def State.readSpout (s : State) (ofs : Nat) : State × Word :=
  if ofs < 0x310400 then s.readBus (inst ofs 0x310000 0x10).1 (inst ofs 0x310000 0x10).2
  else if ofs < 0x310500 then s.readLga (inst ofs 0x310400 0x40).1 (inst ofs 0x310400 0x40).2
  else if 0x310600 ≤ ofs ∧ ofs < 0x310700 then s.readLgc (inst ofs 0x310600 0x80).1 (inst ofs 0x310600 0x80).2
  else if ofs = 0x310800 then s.ro (w32 (s.dev.spoutMask.toNat + flag s.spout.noMaj 3 + fld s.spout.run 16))
  else if ofs = 0x310804 then (s.modSpout (fun p => { p with voteCnt := 0 }), w32 s.spout.voteCnt)
  else if 0x310900 ≤ ofs ∧ ofs < 0x310920 then s.ro (s.spout.fades.get ((ofs - 0x310900) / 4)).gain
  else s.ro 0#32

/-- SAP (R328). -/
def State.readSap (s : State) (ofs : Nat) : State × Word :=
  let p := (inst ofs 0x320000 0x100).1
  let x := s.sap.get p
  let upd (f : Sap → Sap) : State := s.modSap (fun b => b.upd p f)
  match (inst ofs 0x320000 0x100).2 with
  | 0x00 => s.ro (w32 (flag x.en 0))
  | 0x04 => s.ro x.cfg
  | 0x08 => s.ro (w32 x.status.toNat)
  | 0x0C => (upd (fun x => { x with slipCnt := 0 }), w32 x.slipCnt)
  | 0x10 => (upd (fun x => { x with clipCnt := 0 }), w32 x.clipCnt)
  | 0x14 => s.ro (w32 x.phase.toNat)
  | _ => s.ro 0#32

/-! ### Network and USB (chapter 14) -/

/-- Lower and upper word of a 48-bit address: bytes 0 to 3, and 4 and 5. -/
def macHalf (m : BitVec 48) (hi : Bool) : Word := if hi then w32 (m.toNat / 4294967296) else w32 m.toNat

/-- A talker. -/
def State.readTalker (s : State) (i r : Nat) : State × Word :=
  let x := s.net.talkers.get i
  let upd (f : Talker → Talker) : State := s.modNet (fun n => { n with talkers := n.talkers.upd i f })
  match r with
  | 0x00 => s.ro (w32 (flag x.en 0))
  | 0x04 => s.ro (macHalf x.dmac false)
  | 0x08 => s.ro (macHalf x.dmac true)
  | 0x0C => s.ro x.vlan
  | 0x10 => s.ro (w32 x.stat.toNat)
  | 0x14 => (upd (fun x => { x with clips := 0 }), w32 x.clips)
  | 0x18 => (upd (fun x => { x with drops := 0 }), w32 x.drops)
  | _ => s.ro 0#32

/-- A listener. -/
def State.readListener (s : State) (i r : Nat) : State × Word :=
  let x := s.net.listeners.get i
  let upd (f : Listener → Listener) : State := s.modNet (fun n => { n with listeners := n.listeners.upd i f })
  match r with
  | 0x00 => s.ro (w32 (flag x.en 0))
  | 0x04 => s.ro (w32 x.stat.toNat)
  | 0x08 => (upd (fun x => { x with lates := 0 }), w32 x.lates)
  | 0x0C => (upd (fun x => { x with slips := 0 }), w32 x.slips)
  | 0x10 => (upd (fun x => { x with seqs := 0 }), w32 x.seqs)
  | 0x14 => (upd (fun x => { x with margin := 0xFFFF#16 }), w32 x.margin.toNat)
  | _ => s.ro 0#32

/-- A port. -/
def State.readPort (s : State) (p r : Nat) : State × Word :=
  let x := s.net.ports.get p
  let upd (f : NetPort → NetPort) : State := s.modNet (fun n => { n with ports := n.ports.upd p f })
  match r with
  | 0x00 => s.ro (w32 x.pctl.toNat)
  | 0x04 => s.ro (macHalf x.mac false)
  | 0x08 => s.ro (macHalf x.mac true)
  | 0x0C => s.ro (w32 (flag x.link 0 + flag x.asCapable 1 + flag x.isGm 2 + flag x.synced 3))
  | 0x10 => s.ro (w32 x.stat.toNat)
  | 0x14 => s.ro (w32 x.txLat.toNat)
  | 0x18 => s.ro (w32 x.rxLat.toNat)
  | 0x1C => s.ro x.pdelay
  | 0x20 => s.ro (lo32 x.gtime)
  | 0x24 => s.ro (hi32 x.gtime)
  | 0x28 => s.ro (lo32 x.gmId)
  | 0x2C => s.ro (hi32 x.gmId)
  | 0x30 => s.ro (w32 (ceilDiv (idleSlope s.cfg.dev s.cfg.ten.toList s.crfTalks p) 1000))
  | 0x34 => (upd (fun x => { x with rxDrop := 0 }), w32 x.rxDrop)
  | 0x38 => (upd (fun x => { x with rxErr := 0 }), w32 x.rxErr)
  | _ => s.ro 0#32

/-- The steward's network registers. -/
def State.readNetRest (s : State) (ofs : Nat) : Word :=
  let n := s.net
  if ofs = 0x340A04 then w32 (flag (decide (s.now.toNat < n.mdioEnd.toNat)) 0 + fld n.mdioData.toNat 16)
  else if ofs = 0x340A08 ∨ ofs = 0x340A0C then half n.epoch (ofs == 0x340A0C)
  else if 0x340B00 ≤ ofs ∧ ofs < 0x340B40 then n.steer.get ((ofs - 0x340B00) / 4)
  else if ofs = 0x340B40 then w32 n.defWell.toNat
  else if 0x340C00 ≤ ofs ∧ ofs < 0x340C40 then w32 (n.txWell.get ((ofs - 0x340C00) / 4)).toNat
  else match ofs with
    | 0x340D00 => w32 n.crfCtl.toNat
    | 0x340D04 => lo32 n.crfTsid
    | 0x340D08 => hi32 n.crfTsid
    | 0x340D0C => lo32 n.crfLsid
    | 0x340D10 => hi32 n.crfLsid
    | 0x340D14 => macHalf n.crfDmac false
    | 0x340D18 => macHalf n.crfDmac true
    | 0x340D1C => n.crfOfs
    | 0x340D20 => w32 n.crfStat.toNat
    | _ => 0#32

/-- NET (R346). -/
def State.readNet (s : State) (ofs : Nat) : State × Word :=
  if ofs < 0x340200 then s.readTalker (inst ofs 0x340000 0x20).1 (inst ofs 0x340000 0x20).2
  else if 0x340400 ≤ ofs ∧ ofs < 0x340600 then s.readListener (inst ofs 0x340400 0x20).1 (inst ofs 0x340400 0x20).2
  else if 0x340800 ≤ ofs ∧ ofs < 0x340A00 then s.readPort (inst ofs 0x340800 0x100).1 (inst ofs 0x340800 0x100).2
  else s.ro (s.readNetRest ofs)

/-- The state code of USB_STAT. -/
def UsbState.code (u : UsbState) : Nat :=
  if u.suspended then 4 else match u.phase with
    | .detached => 0 | .default_ => 1 | .address => 2 | .configured => 3

/-- USB (R347). -/
def State.readUsb (s : State) (ofs : Nat) : State × Word :=
  let u := s.usb
  if 0x360100 ≤ ofs ∧ ofs < 0x360180 then
    let n := (inst ofs 0x360100 0x10).1
    match (inst ofs 0x360100 0x10).2 with
    | 4 => s.ro (u.tx.get n).statWord
    | 8 => (s.modUsb (fun u => { u with tx := u.tx.upd n (fun x => { x with drops := 0 }) }), w32 (u.tx.get n).drops)
    | _ => s.ro 0#32
  else match ofs with
    | 0x360000 => s.ro (w32 (flag u.connect 0))
    | 0x360004 => s.ro (w32 (flag u.highSpeed 0 + fld u.code 1 + flag u.alt 4 + flag u.remoteWake 5))
    | 0x360008 => s.ro (w32 u.evt.toNat)
    | 0x36000C => (s.modUsb (fun u => { u with unmapped := 0 }), w32 u.unmapped)
    | _ => s.ro 0#32

/-! ### Peripherals (chapter 15) -/

/-- TIMER (R375): a read of TU_CNT latches the extension. -/
def State.readTimer (s : State) (ofs : Nat) : State × Word :=
  let u := (inst ofs 0x370000 0x100).1
  let k := (inst ofs 0x370000 0x100).2 / 0x40
  let x := s.tchan u k
  let upd (f : TimerChan → TimerChan) : State := s.modTimers (fun b => b.upd u (fun c => c.upd k f))
  match ofs % 0x40 with
  | 0x00 => s.ro (w32 x.cfg.toNat)
  | 0x04 => s.ro (w32 (flag x.run 0))
  | 0x08 => (upd (fun x => { x with extLatch := x.ext }), x.cnt)
  | 0x0C => s.ro (w32 x.extLatch.toNat)
  | 0x10 => s.ro (x.cmpNext.getD x.cmp)
  | 0x14 => s.ro (x.addNext.getD x.add)
  | 0x18 => s.ro x.capA
  | 0x1C => s.ro x.capB
  | 0x20 => s.ro x.pair
  | 0x24 => s.ro (w32 x.stat.toNat)
  | 0x28 => s.ro (w32 x.evmsg.toNat)
  | 0x2C => (upd (fun x => { x with evLost := 0 }), w32 x.evLost)
  | _ => s.ro 0#32

/-- Thirty-two contacts as a word. -/
def State.contactWord (s : State) (i : Nat) (f : KeyContacts → Contact) : Word :=
  maskOf (fun b => (f (s.keybed.keys.get (32 * i + b))).closed)

/-- KEYBED (R376). -/
def State.readKeybed (s : State) (ofs : Nat) : State × Word :=
  let b := s.keybed
  let rec_ (f : KeybedRec → Nat) : Word := match s.keybedRec with
    | some (_, r) => w32 (f r)
    | none => 0#32
  if 0x380020 ≤ ofs ∧ ofs < 0x380030 then s.ro (s.contactWord ((ofs - 0x380020) / 4) KeyContacts.a)
  else if 0x380030 ≤ ofs ∧ ofs < 0x380040 then s.ro (s.contactWord ((ofs - 0x380030) / 4) KeyContacts.b)
  else match ofs with
    | 0x380000 => s.ro (rec_ (fun r => r.keys + fld r.firstNote 8 + fld r.pool 16))
    | 0x380004 => s.ro (rec_ KeybedRec.dwell)
    | 0x380008 => s.ro (rec_ (fun r => r.lines * r.dwell))
    | 0x38000C => s.ro (w32 (b.debounce.toNat + flag b.en 5))
    | 0x380010 => s.ro (w32 b.status.toNat)
    | 0x380014 => (s.modKeybed (fun b => { b with orderCnt := 0 }), w32 b.orderCnt)
    | 0x380018 => (s.modKeybed (fun b => { b with lateCnt := 0 }), w32 b.lateCnt)
    | _ => s.ro 0#32

/-- U_CFGn. -/
def UartRec.cfgWord (r : UartRec) : Word :=
  let mode := match r.mode with
    | .midi => 0 | .panel9 => 1 | .async => 2 | .card => 3
  w32 (mode + flag r.wake 2 + flag r.inverse 3 + fld r.trigger 4 + fld r.matchVal 16)

/-- UART (R377). -/
def State.readUart (s : State) (ofs : Nat) : State × Word :=
  let n := (inst ofs 0x390000 0x100).1
  let u := s.uarts.get n
  let upd (f : UartState → UartState) : State := s.modUarts (fun b => b.upd n f)
  let rec_ (f : UartRec → Word) : Word := match s.uartRec n with
    | some (_, r) => f r
    | none => 0#32
  match (inst ofs 0x390000 0x100).2 with
  | 0x00 => s.ro (rec_ UartRec.cfgWord)
  | 0x04 => s.ro (rec_ (fun r => w32 r.rate))
  | 0x08 => s.ro (w32 u.fmt.toNat)
  | 0x0C => s.ro (w32 (flag u.en 0 + flag u.aux 1 + flag u.afilt 2))
  | 0x10 => s.uartRead n
  | 0x18 => s.ro u.statWord
  | 0x1C => s.ro u.card
  | 0x20 => (upd (fun u => { u with errCnt := 0 }), w32 u.errCnt)
  | 0x24 => (upd (fun u => { u with ovrCnt := 0 }), w32 u.ovrCnt)
  | _ => s.ro 0#32

/-- I2C (R378). -/
def State.readI2c (s : State) (ofs : Nat) : State × Word :=
  let c := (inst ofs 0x398000 0x100).1
  let x := s.i2c.get c
  match (inst ofs 0x398000 0x100).2 with
  | 0x00 => s.ro (match s.i2cRec c with
    | some (_, r) => w32 (r.speed + fld r.timeout 16)
    | none => 0#32)
  | 0x04 => s.ro (w32 (flag x.en 0))
  | 0x0C => s.i2cGet c
  | 0x10 => s.ro x.statWord
  | _ => s.ro 0#32

/-- The boot-flash controller (R379). -/
def State.readFlash (s : State) (ofs : Nat) : Word :=
  let f := s.flash
  match ofs with
  | 0x39C000 => w32 (f.mode.toNat + flag f.released 2 + flag f.busy 3 + flag f.dsTimeout 4)
  | 0x39C004 => w32 (flag f.released 0)
  | 0x39C00C => f.rdata
  | _ => 0#32

/-! ### Clocks, power and the pair (chapters 03, 16 and 17) -/

/-- CLOCK_PPM: a measured value, which the manual cannot state; 0 until the audio PLL locks. -/
def State.readPpm (s : State) : State × Word :=
  if s.dev.audLock then
    ((s.modFree (· + 1)).modDev (fun d => { d with ppm := Config.freeWord s.free }), Config.freeWord s.free)
  else s.ro s.dev.ppm

/-- CLOCK_FS: the Fs code, its family and the clock source, once a configuration is applied. -/
def State.fsWord (s : State) : Word :=
  if s.dev.phase.applied then w32 (s.cfg.dev.fs + flag (fsFamilyB s.cfg.dev.fs) 4 + fld s.cfg.dev.clock 5) else 0#32

/-- CLOCK (R83): the high words and the frame time come from the reading tenancy's latches (R73). -/
def State.readClock (s : State) (t ofs : Nat) : State × Word :=
  let d := s.dev
  if 0x3A0040 ≤ ofs ∧ ofs < 0x3A0050 then
    let x := d.trfdiv.get ((ofs - 0x3A0040) / 4)
    s.ro (w32 (x.div.toNat + flag x.request.isSome 8))
  else match ofs with
    | 0x3A0000 => s.ro d.clockStatus
    | 0x3A0004 => s.ro s.fsWord
    | 0x3A0008 => s.readPpm
    | 0x3A000C => s.ro (w32 (d.boot.toNat + (if 5 ≤ d.boot.toNat then 8 else 0)))
    | 0x3A0010 => s.ro (w32 d.rcause.toNat)
    | 0x3A0018 => s.timeRead t
    | 0x3A001C => s.ro (hi32 (s.time.timeLatch.get t))
    | 0x3A0020 => s.frameRead t
    | 0x3A0024 => s.ro (hi32 (s.time.frameLatch.get t))
    | 0x3A0028 => s.ro (lo32 (s.time.ftimeLatch.get t))
    | 0x3A002C => s.ro (hi32 (s.time.ftimeLatch.get t))
    | 0x3A0030 => s.ro (w32 (flag d.dormEntry.isSome 0 + flag d.dormKind 1 + flag d.dormEntry.isSome 2))
    | 0x3A0034 => s.ro (w32 d.wakeEn.toNat)
    | 0x3A0038 => s.ro (w32 d.wakeSrc.toNat)
    | 0x3A003C => s.ro d.wakeSen
    | 0x3A0050 => s.ro d.rtcCmp
    | _ => s.ro 0#32

/-- WINDLASS (R396). -/
def State.readWindlass (s : State) (ofs : Nat) : State × Word :=
  let w := s.windlass
  if 0x3B0100 ≤ ofs ∧ ofs < 0x3B0130 then s.ro (w.tmon.get ((ofs - 0x3B0100) / 4))
  else if 0x3B0140 ≤ ofs ∧ ofs < 0x3B0180 then s.ro (w.vmon.get ((ofs - 0x3B0140) / 4))
  else if 0x3B0180 ≤ ofs ∧ ofs < 0x3B01A0 then s.ro (w.pmon.get ((ofs - 0x3B0180) / 4))
  else if 0x3B0200 ≤ ofs ∧ ofs < 0x3B0280 then
    let n := (inst ofs 0x3B0200 0x10).1
    match (inst ofs 0x3B0200 0x10).2 with
    | 0 => s.ro (w32 (((s.opsOf n).filter (fun o => o.permit == .waiting)).length + fld (s.duHeldBy n) 16))
    | 4 => (s.modWindlass (fun w => { w with noPermit := w.noPermit.put n 0 }), w32 (w.noPermit.get n))
    | 8 => s.ro (w32 (s.tcfg n).own.permitClass)
    | _ => s.ro 0#32
  else match ofs with
    | 0x3B0000 => s.ro (w32 s.cfg.dev.budget)
    | 0x3B0004 => s.ro (w32 w.reserve)
    | 0x3B0008 => s.ro (w32 w.leak)
    | 0x3B000C => s.ro (w32 (w.pool + fld s.duHeld 16))
    | 0x3B0010 => s.ro (w32 (flag w.warn 0 + flag w.reduce 1 + flag w.crit 2 + flag w.shed 3 + flag w.capFlag 4 + fld w.band.toNat 8))
    | 0x3B0014 => s.ro (w32 w.status.toNat)
    | 0x3B0018 => s.ro w.tj
    | 0x3B001C => s.ro w.monStat
    | _ => s.ro 0#32

/-- SUP_STATE. -/
def State.supWord (s : State) : Word :=
  let p := s.supply
  let act := ((List.range 16).map (fun b => flag ((p.chans.get (b / 4)).dets.get (b % 4)).active (16 + b))).sum
  w32 (p.level + flag p.pfail 2 + flag s.dev.tamperLow 3 + flag p.parkAck 4 + flag p.swPark 5 + flag p.thermPark 6 +
    flag p.railPark 7 + act)

/-- SUPPLY (R397). -/
def State.readSupply (s : State) (ofs : Nat) : State × Word :=
  let p := s.supply
  if 0x3C0040 ≤ ofs ∧ ofs < 0x3C00C0 then
    let c := (inst ofs 0x3C0040 0x20).1
    let x := p.chans.get c
    match (inst ofs 0x3C0040 0x20).2 with
    | 0x00 => s.ro (w32 x.win.toNat)
    | 0x04 => s.ro x.rms
    | 0x08 => s.ro x.max
    | 0x0C => s.ro x.min
    | 0x10 => (s.modSupply (fun p => { p with chans := p.chans.upd c (fun x => { x with detCnt := 0 }) }), w32 x.detCnt)
    | _ => s.ro 0#32
  else match ofs with
    | 0x3C0000 => s.ro s.supWord
    | 0x3C0008 => s.ro (w32 p.status.toNat)
    | 0x3C000C => s.ro (w32 p.pfHold.toNat)
    | 0x3C0010 => (s.modSupply (fun p => { p with parkCnt := 0 }), w32 p.parkCnt)
    | 0x3C0014 => (s.modSupply (fun p => { p with drop := 0 }), w32 p.drop)
    | _ => s.ro 0#32

/-- The code of a role. -/
def PairRole.code : PairRole → Nat
  | .single => 0 | .primary => 1 | .standby => 2 | .referee => 3

/-- PAIR_STATE. -/
def State.pairWord (s : State) : Word :=
  let p := s.pair
  w32 (flag p.link 0 + flag p.synced 1 + flag p.own 2 + flag p.forwarder 3 + flag p.req 4 + flag p.ownIn 5 + flag p.sel 6 +
    flag p.holdover 7 + fld p.verdict.toNat 8 + flag s.digestsAgree 10)

/-- PAIR (R412). -/
def State.readPair (s : State) (ofs : Nat) : State × Word :=
  let p := s.pair
  let upd (f : PairState → PairState) : State := s.modPair f
  match ofs with
  | 0x3D0000 => s.ro (w32 (s.role.code + fld s.pairCfg.dev.revertHold 16))
  | 0x3D0004 => s.ro s.pairWord
  | 0x3D0008 => s.ro (w32 p.status.toNat)
  | 0x3D000C => s.ro (w32 (flag p.noRevert 0))
  | 0x3D0010 => s.ro (w32 p.cause.toNat)
  | 0x3D0014 => s.ro p.syncLo
  | 0x3D0018 => s.ro p.syncHi
  | 0x3D001C => s.ro p.matchRun
  | 0x3D0020 => s.ro s.pairCfg.digest
  | 0x3D0024 => s.ro p.pdigest
  | 0x3D0028 => (upd (fun p => { p with crcErr := 0 }), w32 p.crcErr)
  | 0x3D002C => (upd (fun p => { p with lateEvt := 0 }), w32 p.lateEvt)
  | 0x3D0030 => (upd (fun p => { p with mismatchCnt := 0 }), w32 p.mismatchCnt)
  | 0x3D0034 => (upd (fun p => { p with switchCnt := 0 }), w32 p.switchCnt)
  | 0x3D0038 => (upd (fun p => { p with bothReq := 0 }), w32 p.bothReq)
  | _ => s.ro 0#32

/-! ### Observation (chapter 18) -/

/-- Saturation marks of thirty-two counters of bank n, from counter k. -/
def State.satWord (s : State) (n k : Nat) (f : PerfCtr → Bool) : Word := maskOf (fun b => f ((s.obs.perf.get n).get (k + b)))

/-- OBSERVE (R431, R432). -/
def State.readObserve (s : State) (ofs : Nat) : State × Word :=
  let o := s.obs
  if ofs < 0x3E2000 then
    let i := (inst ofs 0x3E0000 0x10).1
    let c := (o.perf.get (i / 64)).get (i % 64)
    match (inst ofs 0x3E0000 0x10).2 with
    | 0 => s.ro c.sel
    | 4 => s.ro c.cnt
    | 8 => s.ro c.shot
    | _ => s.ro 0#32
  else if ofs < 0x3E2100 then
    let n := (inst ofs 0x3E2000 0x20).1
    match (inst ofs 0x3E2000 0x20).2 with
    | 0x04 => s.ro (s.satWord n 0 PerfCtr.sat)
    | 0x08 => s.ro (s.satWord n 32 PerfCtr.sat)
    | 0x0C => s.ro (s.satWord n 0 PerfCtr.shotSat)
    | 0x10 => s.ro (s.satWord n 32 PerfCtr.shotSat)
    | 0x14 => s.ro (w32 (flag (o.allow.get n) 0))
    | _ => s.ro 0#32
  else if ofs = 0x3E3000 then
    s.ro (w32 (flag s.cfg.dev.traceOn 0 + fld (s.cfg.dev.traceDiv - 1) 1 + fld (o.fifo.length / 4) 8))
  else if ofs = 0x3E3004 then (s.modObs (fun o => { o with lostCnt := 0 }), w32 o.lostCnt)
  else s.ro 0#32

/-! ### Any register -/

/-- The value and the effect of a read of a register that the tenancy sees. -/
def State.readBlock (s : State) (b : Block) (t ofs : Nat) : State × Word :=
  match b with
  | .ident => s.ro (readIdent t ofs)
  | .qport => s.readQport t ofs
  | .wellctl => s.readWell ofs
  | .evsrc => s.ro (s.readEvsrc t ofs)
  | .msix => s.ro (s.readMsix t ofs)
  | .pba => s.ro (s.readPba t ofs)
  | .spawn => s.readSpawn t ofs
  | .tenancy => s.readTenancy ofs
  | .gill => s.readGill ofs
  | .forager => s.readForager ofs
  | .mycelium => s.readMycelium t ofs
  | .truffle => s.readTruffle ofs
  | .cistern => s.readCistern t ofs
  | .pump => s.readPump ofs
  | .aquifer => s.readAquifer ofs
  | .filter => s.readFilter ofs
  | .spout => s.readSpout ofs
  | .sap => s.readSap ofs
  | .net => s.readNet ofs
  | .usb => s.readUsb ofs
  | .timer => s.readTimer ofs
  | .keybed => s.readKeybed ofs
  | .uart => s.readUart ofs
  | .i2c => s.readI2c ofs
  | .flash => s.ro (s.readFlash ofs)
  | .clock => s.readClock t ofs
  | .windlass => s.readWindlass ofs
  | .supply => s.readSupply ofs
  | .pair => s.readPair ofs
  | .observe => s.readObserve ofs

/-- The registers of its own that an absent tenancy reads as 0 (R93). -/
def ownZero (t ofs : Nat) : Bool :=
  ofs == 0x10040 + 4 * t || (decide (0x20000 + 0x40 * t ≤ ofs) && decide (ofs < 0x20040 + 0x40 * t))

/-- A read of the register at a BAR0 offset by tenancy t (R7, R64, R91 to R93): nothing where the state does not serve the block, and 0
with a denial where the tenancy does not see it. -/
def State.readReg (s0 : State) (t ofs : Nat) : State × Word :=
  let s := if s0.hostServed then s0.retireAll else s0
  match blockOf ofs with
  | none => if s0.hostServed then (s.denied t ofs false false).ro 0#32 else s.ro 0#32
  | some b =>
    if !s.opens b then s.ro 0#32
    else if !s.seen t then
      if b == .ident then s.ro (readIdent t ofs)
      else if ownZero t ofs then s.ro 0#32
      else (s.denied t ofs false false).ro 0#32
    else if s.sees b t ofs then s.readBlock b t ofs
    else (s.denied t ofs false false).ro 0#32

/-- RC_READ: a read of any register; a counter it reads is cleared by the read (R6). -/
def execRcRead (t : Fin 8) (ofs : Nat) (s : State) : Res := .next (if s.hostServed then answer t (s.readReg t (ofs / 4 * 4)) else s)

end Sys2Proof.Machine
end

