-- ==== Sys2Proof/Machine/Host.lean ====
section
/-! DEFINITION. Wells, completions, aborts and permit grants (R118, R122, R124, R382). -/

namespace Sys2Proof.Machine

/-! ### Well indices (R117, R118, R129) -/

/-- A status bit of well w set, with its source. -/
def State.wellFlag (s : State) (w : Nat) (b : BitVec 5) : State :=
  (s.modWells (fun x => x.upd w (fun y => { y with status := y.status ||| b }))).settle (384 + w)

/-- WELL_PIDXw written: the producer index of a host-produced well, unless it would overfill the well; read-only otherwise. -/
def State.wellPidx (s : State) (w : Nat) (v : Word) : State :=
  match s.wellRec w with
  | none => s
  | some (_, r) =>
    let x := { s.wells.get w with p := v.setWidth 16 }
    if s.deviceProduced w then s
    else if wellCapacity r.k < x.fill then s.wellFlag w 4#5
    else (s.modWells (fun b => b.put w x.thresh)).settle (384 + w)

/-- The entries that a new consumer index steps over. -/
def Well.advance (x : Well) (c : BitVec 16) : Nat := (c.toNat + 65536 - x.c.toNat) % 65536

/-- WELL_CIDXw written: the consumer index of a device-produced well, unless it would pass the producer; read-only otherwise. -/
def State.wellCidx (s : State) (w : Nat) (v : Word) : State :=
  match s.wellRec w with
  | none => s
  | some _ =>
    let x := s.wells.get w
    if !s.deviceProduced w then s
    else if x.fill < x.advance (v.setWidth 16) then s.wellFlag w 4#5
    else s.modWells (fun b => b.put w { x with c := v.setWidth 16 })

/-- WELL_TRIGw written. -/
def State.wellTrig (s : State) (w : Nat) (v : Word) : State :=
  (s.modWells (fun b => b.upd w (fun x => { x with trig := v.setWidth 16 }.thresh))).settle (384 + w)

/-- WELL_PIDX_WRITE. -/
def execWellPidxWrite (t : Fin 8) (w : Fin 256) (v : Word) (s : State) : Res :=
  .next (s.access t (0x2008 + 0x20 * w) true (s.wellOwner w == some t.val) (fun s => s.wellPidx w v))

/-- WELL_CIDX_WRITE. -/
def execWellCidxWrite (t : Fin 8) (w : Fin 256) (v : Word) (s : State) : Res :=
  .next (s.access t (0x200C + 0x20 * w) true (s.wellOwner w == some t.val) (fun s => s.wellCidx w v))

/-! ### Completions (R122) -/

/-- What the end of an operation starts: the next job of its engine asks for its permit (R232), and a respawn raises its target's
source (R59). -/
def State.afterCompletion (s : State) (o : LongOp) : State :=
  match o.code with
  | .truffleJob => s.jobKick (jobEngine o.args)
  | .spawnTenancy => if respawnTarget o < 8 then s.pulse (1008 + respawnTarget o) 0#32 else s
  | _ => s

/-- The completion of an ended operation posted. -/
def State.post (s : State) (h : Word) : State :=
  match s.findOp h with
  | none => s
  | some o => match o.done with
    | none => s
    | some c =>
      let s1 := (s.dropOp h).traceQport o.ten h o.code.opcode 1 c.status.toNat
      (s1.postCompletion o.ten c).afterCompletion o

/-- COMPLETION_POST. -/
def execCompletionPost (handle : Word) (s : State) : Res := .next (if s.dev.phase.hosted then s.post handle else s)

/-- Completions moved from the store of tenancy n to its CPL well r, oldest first, up to k of them while the well has room. -/
def State.drainCompletions (n : Nat) (r : WellRec) : Nat → State → State
  | 0, s => s
  | k + 1, s =>
    match (s.qports.get n).store with
    | [] => s
    | c :: rest =>
      if (s.wells.get r.well).fill < wellCapacity r.k then
        State.drainCompletions n r k ((s.modQports (fun b => b.upd n (fun q => { q with store := rest }))).cplStore n r c)
      else s

/-- COMPLETION_DRAIN (R122): the store holds at most 64. -/
def execCompletionDrain (t : Fin 8) (s : State) : Res :=
  .next (if s.dev.phase.hosted then
    match s.cplWell t with
    | none => s
    | some r => State.drainCompletions t r (s.qports.get t).store.length s
  else s)

/-- QP_CPL_POP written: the oldest held completion goes, unless the tenancy has a CPL well (R122, R128). -/
def State.cplPop (s : State) (t : Nat) (v : Word) : State :=
  if v.getLsbD 0 && (s.cplWell t).isNone then s.modQports (fun b => b.upd t (fun q => { q with store := q.store.drop 1 })) else s

/-- QP_CPL_POP. -/
def execQpCplPop (t : Fin 8) (v : Word) (s : State) : Res := .next (s.access t 0x1080 true true (fun s => s.cplPop t v))

/-! ### Aborts (R123, R124) -/

/-- The operation of tenancy t that a handle names for an abort: its own, of the current generation, in flight. -/
def State.abortTarget (s : State) (t : Nat) (h : Word) : Option LongOp :=
  match s.findOp h with
  | some o => if o.ten = t ∧ bits h 28 24 = (s.ten.get t).gen.toNat then some o else none
  | none => none

/-- QP_ABORT_STATUS written by the device. -/
def State.abortAnswer (s : State) (t : Nat) (a : BitVec 2) : State :=
  s.modQports (fun b => b.upd t (fun q => { q with abortStatus := a }))

/-- QP_ABORT written: ABORTED before the commit point, ALREADY_DONE from it on, UNKNOWN_HANDLE for any other handle. DESIGN CHOICE: an
operation that ended without reaching its commit point and whose completion is not posted yet gets ALREADY_DONE; the manual names no
answer for it (log entry 117). -/
def State.qpAbort (s : State) (t : Nat) (h : Word) : State :=
  match s.abortTarget t h with
  | none => s.abortAnswer t 2#2
  | some o =>
    if o.committed || o.done.isSome then s.abortAnswer t 1#2
    else (s.abortOne false o).abortAnswer t 0#2

/-- QP_ABORT. -/
def execQpAbort (t : Fin 8) (v : Word) (s : State) : Res := .next (s.access t 0x102C true true (fun s => s.qpAbort t v))

/-! ### Permits (R382, R384) -/

/-- What a grant lets an operation do, when it is granted first and when it is granted again (Table 2 of chapter 16). The other operations
look at their permit at each of their steps. -/
def State.granted (s : State) (o : LongOp) : State :=
  match o.code with
  | .cisternHandover => if o.started then s else s.startDrain o.handle
  | .cisternWipe => if o.started then s else s.startWipe o
  | .truffleJob => s.jobResume (jobEngine o.args)
  | .spawnTenancy => s.respawnGranted o
  | .calibrate => s.startCal o
  | .pairSync => s.updOp o.handle (fun o => { o with started := true })
  | _ => s

/-- An operation takes its permit: a first grant ranks it, a later one keeps its rank (R384). -/
def State.grant (s : State) (o : LongOp) : State :=
  let o1 := { o with permit := .granted, everGranted := true, order := if o.everGranted then o.order else s.nextOrder }
  (((s.countWait o).updOp o.handle (fun _ => o1)).tracePermit o.ten 1 o.cost).granted o1

/-- The Windlass looks at the one request it considers and grants it or nothing. -/
def State.permitGrant (s : State) : State :=
  match s.considered with
  | none => s
  | some o => if s.mayGrant o then s.grant o else s

/-- PERMIT_GRANT. -/
def execPermitGrant (s : State) : Res := .next (if s.dev.phase.monitors then s.permitGrant else s)

end Sys2Proof.Machine
end

