-- ==== Sys2Proof/Machine/WriteReg.lean ====
section
/-! DEFINITION. What writes of the registers do (R6 to R8): REGISTER_WRITE reaches every register, also those whose writes have a row of their
own, with the same effect. A write to a register that is read-only or not listed changes nothing. -/

namespace Sys2Proof.Machine

/-- A field written with a value that is reserved where bad holds: the field keeps its value and ES1004 rises (R8). -/
def State.rejectIf (s : State) (bad : Bool) (ofs : Nat) : State := if bad then s.regRejected ofs else s

/-- A 64-bit value with one of its words written. -/
def putHalf (x : DWord) (hi : Bool) (v : Word) : DWord := if hi then dwordOf (lo32 x) v else dwordOf v (hi32 x)

/-- A 48-bit address with its bytes 0 to 3, or 4 and 5, written. -/
def putMac (m : BitVec 48) (hi : Bool) (v : Word) : BitVec 48 :=
  if hi then BitVec.ofNat 48 (m.toNat % 4294967296 + v.toNat % 65536 * 4294967296)
  else BitVec.ofNat 48 (m.toNat / 4294967296 * 4294967296 + v.toNat)

/-- A 64-bit set of bits with the 1s of a written word cleared in one half. -/
def w1cHalf (x : BitVec 64) (hi : Bool) (v : Word) : BitVec 64 := x &&& ~~~(v.setWidth 64 <<< (if hi then 32 else 0))

/-! ### Host, spawn and tenancy -/

/-- QPORT (R121, R128). -/
def State.writeQport (s : State) (t ofs : Nat) (v : Word) : State :=
  if ofs < 0x1020 then s.modQports (fun b => b.upd t (fun q => { q with args := q.args.put ((ofs - 0x1000) / 4) v }))
  else match ofs with
    | 0x1020 => s.submitCode t (bits v 7 0) (s.qpArgs t) .port
    | 0x102C => s.qpAbort t v
    | 0x1080 => s.cplPop t v
    | _ => s

/-- WELLCTL (R129). -/
def State.writeWell (s : State) (ofs : Nat) (v : Word) : State :=
  let w := (inst ofs 0x2000 0x20).1
  match (inst ofs 0x2000 0x20).2 with
  | 0x08 => s.wellPidx w v
  | 0x0C => s.wellCidx w v
  | 0x10 => s.wellTrig w v
  | 0x14 => (s.modWells (fun b => b.upd w (fun x => { x with status := w1c x.status v }))).settle (384 + w)
  | _ => s

/-- EVSRC (R430). -/
def State.writeEvsrc (s : State) (t ofs : Nat) (v : Word) : State :=
  if ofs < 0x5000 then s.evsCfg ((ofs - 0x4000) / 4) v
  else if ofs < 0x5080 then s.evsPend t ((ofs - 0x5000) / 4) v
  else if ofs = 0x5084 then s.modEvs (fun e => { e with well := e.well.put t (v &&& 0x1FF#32) })
  else if 0x5100 ≤ ofs ∧ ofs < 0x5110 then s.modEvs (fun e => { e with mode := e.mode.put ((ofs - 0x5100) / 4) (v.getLsbD 0) })
  else s

/-- A word of an MSI-X table entry. -/
def MsixEntry.write (e : MsixEntry) (r : Nat) (v : Word) : MsixEntry :=
  match r with
  | 0 => { e with addrLo := v &&& 0xFFFFFFFC#32 }
  | 4 => { e with addrHi := v }
  | 8 => { e with data := v }
  | 12 => { e with masked := v.getLsbD 0 }
  | _ => e

/-- The MSI-X table of function t (R104). -/
def State.writeMsix (s : State) (t ofs : Nat) (v : Word) : State :=
  s.modHost (fun h => { h with fns := h.fns.upd t (fun f =>
    { f with table := f.table.upd (inst ofs 0x8000 16).1 (fun e => e.write (inst ofs 0x8000 16).2 v) }) })

/-- SPAWN (R59). -/
def State.writeSpawn (s : State) (ofs : Nat) (v : Word) : State :=
  match ofs with
  | 0x10000 => s.spawnCtrl v
  | 0x10010 => s.spawnData v
  | _ => s

/-- TENANCY (R103): halts, the deny log, life-cycle requests, and the key hash words, which are closed once they are fused. -/
def State.writeTenancy (s : State) (t ofs : Nat) (v : Word) : State :=
  if ofs < 0x20200 then
    if (inst ofs 0x20000 0x40).2 = 0x24 then s.tenancyCtrl t (inst ofs 0x20000 0x40).1 v else s
  else if ofs = 0x20204 then
    s.modDeny (fun d => { d with valid := d.valid && !v.getLsbD 0, ten := BitVec.ofNat 3 (bits v 3 1), write := v.getLsbD 4, bar2 := v.getLsbD 5 })
  else if ofs = 0x2020C then s.lcReq v
  else if 0x20220 ≤ ofs ∧ ofs < 0x20240 then
    if s.fuses.keyHash.isSome then s
    else s.modFuses (fun x => { x with hashWords := x.hashWords.put ((ofs - 0x20220) / 4) v })
  else s

/-! ### Voices and engines -/

/-- GILL (R188). -/
def State.writeGill (s : State) (ofs : Nat) (v : Word) : State :=
  let g := (inst ofs 0x100000 0x1000).1
  if (inst ofs 0x100000 0x1000).2 = 0x0C then
    (s.modGills (fun b => b.upd g (fun x => { x with status := w1c x.status v }))).settleAll ((List.range 6).map (fun k => 8 * g + k))
  else s

/-- FOR_CCMAP0p and FOR_CCMAP1p, which only an unspawned tenancy can change (R6). -/
def State.forCcmap (s : State) (p : Nat) (hi : Bool) (v : Word) : State :=
  let open_ := match s.poolOrKept p with
    | some n => !s.spawned n
    | none => false
  let x := v &&& 0x7F7F7F7F#32
  if open_ then s.modPools (fun b => b.upd p (fun q => if hi then { q with ccmap1 := x } else { q with ccmap0 := x }))
  else s.regRejected (0x140010 + 0x80 * p + (if hi then 4 else 0))

/-- The source that FOR_STATUSp raises: that of the pool's lowest gill (R152). -/
def State.poolSource (s : State) (p : Nat) : Option Nat :=
  match s.poolRec p with
  | none => none
  | some (_, r) => (lowestGill r.gills).map (fun g => 8 * g + 7)

/-- EVF_TAPn: a well that is not an EVT well of tenancy n is a reserved encoding (R153). -/
def State.evfTap (s : State) (n : Nat) (v : Word) : State :=
  let ok := match s.wellRec (bits v 7 0) with
    | some (m, r) => m == n && r.type == .evt
    | none => false
  let old := s.front.tap.get n
  let well := if ok then bits v 7 0 else bits old 7 0
  (s.modFront (fun f => { f with tap := f.tap.put n (w32 (well + flag (v.getLsbD 8) 8)) })).rejectIf (!ok) (0x141000 + 0x20 * n)

/-- FORAGER (R153). -/
def State.writeForager (s : State) (ofs : Nat) (v : Word) : State :=
  if ofs < 0x141000 then
    let p := (inst ofs 0x140000 0x80).1
    match (inst ofs 0x140000 0x80).2 with
    | 0x10 => s.forCcmap p false v
    | 0x14 => s.forCcmap p true v
    | 0x18 => s.forPanic p v
    | 0x28 =>
      let s1 := s.modPools (fun b => b.upd p (fun x => { x with status := w1c x.status v }))
      match s.poolSource p with
      | some i => s1.settle i
      | none => s1
    | _ => s
  else if ofs < 0x141100 ∧ (inst ofs 0x141000 0x20).2 = 0 then s.evfTap (inst ofs 0x141000 0x20).1 v
  else s

/-- MYCELIUM (R206, R207). -/
def State.writeMycelium (s : State) (t ofs : Nat) (v : Word) : State :=
  if ofs < 0x178000 then
    let id := (inst ofs 0x160000 0x800).1
    let r := (inst ofs 0x160000 0x800).2
    if r = 4 then s.mycArm t id v
    else if r = 8 then s.updMycStruct t id (fun x => { x with status := w1c x.status v })
    else if 0x200 ≤ r ∧ r < 0x400 then s.mycDepth t id ((r - 0x200) / 4) v
    else s
  else if ofs < 0x178020 then s.mycRate t ((ofs - 0x178000) / 4) v
  else if ofs < 0x178030 then s.mycMacro t ((ofs - 0x178020) / 4) v
  else s

/-- TRUFFLE (R238). -/
def State.writeTruffle (s : State) (ofs : Nat) (v : Word) : State :=
  let e := (inst ofs 0x180000 0x10000).1
  match (inst ofs 0x180000 0x10000).2 with
  | 0x04 => (s.updEngine e (fun x => { x with status := w1c x.status v })).settleAll ((List.range 4).map (fun b => 848 + 4 * e + b))
  | 0x08 => s.trfCtrl e v
  | 0x10 => s.trfByp e false v
  | 0x14 => s.trfByp e true v
  | 0x18 => s.updEngine e (fun x => { x with ovr := w1cHalf x.ovr false v })
  | 0x1C => s.updEngine e (fun x => { x with ovr := w1cHalf x.ovr true v })
  | 0x24 => s.updEngine e (fun x => { x with frame := { x.frame with sticky := w1c x.frame.sticky v } })
  | 0x28 => s.updEngine e (fun x => { x with job := { x.job with sticky := w1c x.job.sticky v } })
  | _ => s

/-! ### Memories -/

/-- CISTERN (R280). -/
def State.writeCistern (s : State) (t ofs : Nat) (v : Word) : State :=
  if ofs < 0x200600 then
    let c := (inst ofs 0x200000 0x40).1
    match (inst ofs 0x200000 0x40).2 with
    | 0x04 => s.cisRelease c v
    | 0x08 => (s.modMem (fun m => { m with banks := m.banks.upd c (fun b => { b with status := w1c b.status v }) })).settle (864 + c)
    | _ => s
  else if ofs = 0x200904 then s.modMem (fun m => { m with sealPage := m.sealPage.put t (v.setWidth 3) })
  else if 0x208000 ≤ ofs then s.modMem (fun m => { m with sealedData := m.sealedData.putWord ((s.sealedAt t).1 + s.sealByte t ofs) v })
  else s

/-- PUMP (R281). -/
def State.writePump (s : State) (ofs : Nat) (v : Word) : State :=
  let n := (inst ofs 0x210000 0x100).1
  let upd (f : Pump → Pump) : State := s.modPumps (fun b => b.upd n f)
  match (inst ofs 0x210000 0x100).2 with
  | 0x04 => s.puCtrl n v
  | 0x08 => upd (fun p => { p with nonceLo := v })
  | 0x0C => upd (fun p => { p with nonceHi := v })
  | 0x10 => (upd (fun p => { p with status := w1c p.status v })).settle (640 + n)
  | _ => s

/-- AQUIFER (R282). -/
def State.writeAquifer (s : State) (ofs : Nat) (v : Word) : State :=
  if ofs < 0x220080 then
    if (inst ofs 0x220000 0x10).2 = 0 ∧ v.getLsbD 0 then
      s.modAq (fun q => { q with pstatus := q.pstatus.put (inst ofs 0x220000 0x10).1 false })
    else s
  else if ofs = 0x220104 then s.aqCtrl v
  else s

/-! ### Filter chain, Spout and serial audio -/

/-- A blocker frequency that R294 allows: 0.01 to 20 Hz. -/
def dcCutAllowed (v : F32) : Bool := fIsFinite v && gLe (gRatio 1 100) v && gLe v (gOfInt 20)

/-- FC_DETCFGc: a window exponent other than 0 and 4 to 16 is a reserved encoding (R295). -/
def State.fcDetCfg (s : State) (c : Nat) (v : Word) : State :=
  let w := bits v 4 0
  let bad := decide (w ≠ 0) && (decide (w < 4) || decide (16 < w))
  let old := bits (s.chan c).detCfg 4 0
  (s.updChan c (fun ch => { ch with detCfg := w32 ((if bad then old else w) + fld (bits v 10 8) 8) })).rejectIf bad (0x30003C + 0x80 * c)

/-- FC_EVTc: only a SEN channel can have EN, and setting it takes the current value as the last one sent (R296). -/
def State.fcEvt (s : State) (c : Nat) (v : Word) : State :=
  let bad := v.getLsbD 0 && (decide (c < 8) || decide (40 ≤ c))
  let on := v.getLsbD 0 && !bad
  (s.updChan c (fun ch =>
    { ch with evt := w32 (flag on 0 + flag (v.getLsbD 1) 1 + fld (bits v 7 4) 4 + fld (bits v 14 8) 8),
              lastSent := if on && !ch.evt.getLsbD 0 then ch.norm else ch.lastSent })).rejectIf bad (0x300050 + 0x80 * c)

/-- FC_COEF0c and FC_COEF1c: read-only but on a SEN channel, where a span equal to the zero is a reserved encoding (R304). -/
def State.fcCoef (s : State) (c : Nat) (span : Bool) (v : Word) : State :=
  let same := gLe v (s.chan c).coef0 && gLe (s.chan c).coef0 v
  if c < 8 ∨ 40 ≤ c then s
  else if !span then s.updChan c (fun ch => { ch with coef0 := v })
  else if same then s.regRejected (0x300024 + 0x80 * c)
  else s.updChan c (fun ch => { ch with coef1 := v })

/-- The registers of filter-chain channel c. -/
def State.writeChan (s : State) (c r : Nat) (v : Word) : State :=
  match r with
  | 0x04 => s.fcCtrl c v
  | 0x08 => s.fcTrigReg c v
  | 0x0C => s.updChan c (fun ch => { ch with status := w1c ch.status v })
  | 0x18 => s.fcPhase c v
  | 0x1C => if dcCutAllowed v then s.updChan c (fun ch => { ch with dcCut := v }) else s.regRejected (0x30001C + 0x80 * c)
  | 0x20 => s.fcCoef c false v
  | 0x24 => s.fcCoef c true v
  | 0x3C => s.fcDetCfg c v
  | 0x40 => s.updChan c (fun ch => { ch with detThr := v })
  | 0x44 => s.updChan c (fun ch => { ch with pkDec := v })
  | 0x48 => s.updChan c (fun ch => { ch with envAtk := v })
  | 0x4C => s.updChan c (fun ch => { ch with envRel := v })
  | 0x50 => s.fcEvt c v
  | 0x54 => s.updChan c (fun ch => { ch with evtLev := v })
  | 0x58 => s.updChan c (fun ch => { ch with evtHys := v })
  | 0x5C => s.updChan c (fun ch => { ch with zWin := v })
  | 0x60 => s.updChan c (fun ch => { ch with sWin := v })
  | 0x64 => s.updChan c (fun ch => { ch with calNoise := v &&& 0xFFFF#32 })
  | 0x68 => s.updChan c (fun ch => { ch with calCoup := v })
  | _ => s

/-- FILTER (R306, R307): a drift period from 1 to 99, or above 60,000, is a reserved encoding. -/
def State.writeFilter (s : State) (ofs : Nat) (v : Word) : State :=
  if ofs < 0x301600 then s.writeChan (inst ofs 0x300000 0x80).1 (inst ofs 0x300000 0x80).2 v
  else if ofs = 0x302000 then
    let p := bits v 15 0
    if (0 < p ∧ p < 100) ∨ 60000 < p then s.regRejected ofs else s.modFilter (fun f => { f with driftPer := v.setWidth 16 })
  else s

/-- SPOUT (R327). -/
def State.writeSpout (s : State) (ofs : Nat) (v : Word) : State :=
  if ofs < 0x310400 then
    let b := (inst ofs 0x310000 0x10).1
    match (inst ofs 0x310000 0x10).2 with
    | 4 => s.spBgain b v
    | 8 => if v.getLsbD 0 then s.modSpout (fun p => { p with buses := p.buses.upd b (fun x => { x with nan := false }) }) else s
    | _ => s
  else if ofs < 0x310500 then
    let g := (inst ofs 0x310400 0x40).1
    if (inst ofs 0x310400 0x40).2 = 4 then
      (s.modSpout (fun p => { p with lga := p.lga.upd g (fun x => { x with status := w1c x.status v }) })).settle (832 + g)
    else s
  else if 0x310600 ≤ ofs ∧ ofs < 0x310700 then
    let h := (inst ofs 0x310600 0x80).1
    let r := (inst ofs 0x310600 0x80).2
    if r = 0 then s.cvGctrl h v
    else if r = 4 then s.cvStrobeReg h v
    else if r = 8 then s.cvSeq h v
    else if r = 0xC then
      (s.modSpout (fun p => { p with lgc := p.lgc.upd h (fun x => { x with status := w1c x.status v }) })).settle (836 + h)
    else if 0x20 ≤ r ∧ r < 0x40 then s.cvData h ((r - 0x20) / 4) v
    else s
  else s

/-- SAP (R328). -/
def State.writeSap (s : State) (ofs : Nat) (v : Word) : State :=
  let p := (inst ofs 0x320000 0x100).1
  match (inst ofs 0x320000 0x100).2 with
  | 0 => s.sapCtrl p v
  | 4 => s.sapCfg p v
  | 8 => (s.modSap (fun b => b.upd p (fun x => { x with status := w1c x.status v ||| (if x.noFs then 2#3 else 0#3) }))).settle (838 + p)
  | _ => s

/-! ### Network and USB -/

/-- A talker. -/
def State.writeTalker (s : State) (i r : Nat) (v : Word) : State :=
  let upd (f : Talker → Talker) : State := s.modNet (fun n => { n with talkers := n.talkers.upd i f })
  match r with
  | 0x00 => upd (fun x => { x with en := v.getLsbD 0 })
  | 0x04 => upd (fun x => { x with dmac := putMac x.dmac false v })
  | 0x08 => upd (fun x => { x with dmac := putMac x.dmac true v })
  | 0x0C => upd (fun x => { x with vlan := v &&& 0xEFFF#32 })
  | 0x10 => upd (fun x => { x with stat := w1c x.stat v })
  | _ => s

/-- A listener. -/
def State.writeListener (s : State) (i r : Nat) (v : Word) : State :=
  let upd (f : Listener → Listener) : State := s.modNet (fun n => { n with listeners := n.listeners.upd i f })
  match r with
  | 0x00 => upd (fun x => { x with en := v.getLsbD 0 })
  | 0x04 => (upd (fun x => { x with stat := w1c x.stat v })).settle (896 + i)
  | _ => s

/-- A port. -/
def State.writePort (s : State) (p r : Nat) (v : Word) : State :=
  match r with
  | 0x00 => s.updPort p (fun x => { x with pctl := v.setWidth 2 })
  | 0x04 => s.updPort p (fun x => { x with mac := putMac x.mac false v })
  | 0x08 => s.updPort p (fun x => { x with mac := putMac x.mac true v })
  | 0x10 => (s.updPort p (fun x => { x with stat := w1c x.stat v })).settleAll ((List.range 4).map (fun b => 912 + 4 * p + b))
  | 0x14 => s.updPort p (fun x => { x with txLat := v.setWidth 16 })
  | 0x18 => s.updPort p (fun x => { x with rxLat := v.setWidth 16 })
  | _ => s

/-- Whether packet steering may not name a well: it is no PKT well, or a TXWELL register names it (R340, R341). -/
def State.badSteer (s : State) (w : Nat) : Bool := !s.isPktWell w || s.isTxWell w

/-- A steering rule: an enabled rule's well that steering may not name is a reserved encoding, and the well field keeps its value. -/
def State.netSteer (s : State) (r : Nat) (v : Word) : State :=
  let bad := v.getLsbD 31 && s.badSteer (bits v 27 20)
  let new := if bad then (v &&& 0x800FFFFF#32) ||| (s.net.steer.get r &&& 0x0FF00000#32) else v &&& 0x8FFFFFFF#32
  (s.modNet (fun n => { n with steer := n.steer.put r new })).rejectIf bad (0x340B00 + 4 * r)

/-- NET_DEFWELL, under the same rule. -/
def State.netDefWell (s : State) (v : Word) : State :=
  let bad := v.getLsbD 8 && s.badSteer (bits v 7 0)
  let well := if bad then bits s.net.defWell 7 0 else bits v 7 0
  (s.modNet (fun n => { n with defWell := BitVec.ofNat 9 (well + flag (v.getLsbD 8) 8) })).rejectIf bad 0x340B40

/-- NET_TXWELLp_i: the well of an enabled register may not be one that packet steering names (R341). -/
def State.netTxWell (s : State) (i : Nat) (v : Word) : State :=
  let bad := v.getLsbD 8 && s.isSteered (bits v 7 0)
  let well := if bad then bits (s.net.txWell.get i) 7 0 else bits v 7 0
  (s.modNet (fun n => { n with txWell := n.txWell.put i (BitVec.ofNat 9 (well + flag (v.getLsbD 8) 8)) })).rejectIf bad (0x340C00 + 4 * i)

/-- The CRF registers. -/
def State.writeCrf (s : State) (ofs : Nat) (v : Word) : State :=
  match ofs with
  | 0x340D00 => s.modNet (fun n => { n with crfCtl := v.setWidth 3, crfLocked := n.crfLocked && n.crfCtl.getLsbD 1 })
  | 0x340D04 => s.modNet (fun n => { n with crfTsid := putHalf n.crfTsid false v })
  | 0x340D08 => s.modNet (fun n => { n with crfTsid := putHalf n.crfTsid true v })
  | 0x340D0C => s.modNet (fun n => { n with crfLsid := putHalf n.crfLsid false v })
  | 0x340D10 => s.modNet (fun n => { n with crfLsid := putHalf n.crfLsid true v })
  | 0x340D14 => s.modNet (fun n => { n with crfDmac := putMac n.crfDmac false v })
  | 0x340D18 => s.modNet (fun n => { n with crfDmac := putMac n.crfDmac true v })
  | 0x340D1C => s.modNet (fun n => { n with crfOfs := v })
  | 0x340D20 => (s.modNet (fun n => { n with crfStat := w1c n.crfStat v })).settle 920
  | _ => s

/-- NET (R346). What a PHY answers to an MDIO read through this path is free. -/
def State.writeNet (s : State) (ofs : Nat) (v : Word) : State :=
  if ofs < 0x340200 then s.writeTalker (inst ofs 0x340000 0x20).1 (inst ofs 0x340000 0x20).2 v
  else if 0x340400 ≤ ofs ∧ ofs < 0x340600 then s.writeListener (inst ofs 0x340400 0x20).1 (inst ofs 0x340400 0x20).2 v
  else if 0x340800 ≤ ofs ∧ ofs < 0x340A00 then s.writePort (inst ofs 0x340800 0x100).1 (inst ofs 0x340800 0x100).2 v
  else if ofs = 0x340A00 then (s.modFree (· + 1)).mdioCmd v ((Config.freeWord s.free).setWidth 16)
  else if ofs = 0x340A08 ∨ ofs = 0x340A0C then s.modNet (fun n => { n with epoch := putHalf n.epoch (ofs == 0x340A0C) v })
  else if 0x340B00 ≤ ofs ∧ ofs < 0x340B40 then s.netSteer ((ofs - 0x340B00) / 4) v
  else if ofs = 0x340B40 then s.netDefWell v
  else if 0x340C00 ≤ ofs ∧ ofs < 0x340C40 then s.netTxWell ((ofs - 0x340C00) / 4) v
  else s.writeCrf ofs v

/-- USB (R347). -/
def State.writeUsb (s : State) (ofs : Nat) (v : Word) : State :=
  if 0x360100 ≤ ofs ∧ ofs < 0x360180 then
    let n := (inst ofs 0x360100 0x10).1
    match (inst ofs 0x360100 0x10).2 with
    | 0 => s.usbTxData n v
    | 4 => (s.modUsb (fun u => { u with tx := u.tx.upd n (fun x => { x with stat := w1c x.stat v }) })).settle (928 + n)
    | _ => s
  else match ofs with
    | 0x360000 => s.usbCtrl v
    | 0x360008 => (s.modUsb (fun u => { u with evt := w1c u.evt v })).settle 928
    | _ => s

/-! ### Peripherals -/

/-- TIMER (R375). -/
def State.writeTimer (s : State) (ofs : Nat) (v : Word) : State :=
  let u := (inst ofs 0x370000 0x100).1
  let k := (inst ofs 0x370000 0x100).2 / 0x40
  match ofs % 0x40 with
  | 0x00 => s.tuCfg u k v
  | 0x04 => s.tuCtrl u k v
  | 0x10 => s.tuCmp u k v
  | 0x14 => s.tuAdd u k v
  | 0x24 => s.updTimer u k (fun x => { x with stat := w1c x.stat v })
  | 0x28 => s.updTimer u k (fun x => { x with evmsg := v.setWidth 24 })
  | _ => s

/-- KEYBED (R376). -/
def State.writeKeybed (s : State) (ofs : Nat) (v : Word) : State :=
  match ofs with
  | 0x38000C => s.kbCtrl v
  | 0x380010 => (s.modKeybed (fun b => { b with status := w1c b.status v })).settle 1016
  | _ => s

/-- UART (R377). -/
def State.writeUart (s : State) (ofs : Nat) (v : Word) : State :=
  let n := (inst ofs 0x390000 0x100).1
  match (inst ofs 0x390000 0x100).2 with
  | 0x08 => s.uartFmt n v
  | 0x0C => s.uartCtrl n v
  | 0x14 => s.uartWrite n v
  | 0x18 => s.updUart n (fun u => { u with stat := w1c u.stat v })
  | 0x1C => s.uartCard n v
  | _ => s

/-- I2C (R378). What a bus clear finds through this path is free. -/
def State.writeI2c (s : State) (ofs : Nat) (v : Word) : State :=
  let c := (inst ofs 0x398000 0x100).1
  match (inst ofs 0x398000 0x100).2 with
  | 0x04 => (s.modFree (· + 1)).i2cCtrl c v (freeBus s.free)
  | 0x08 => s.i2cCmd c v
  | 0x0C => s.i2cPut c v
  | 0x10 => s.updI2c c (fun x => { x with stat := w1c x.stat v })
  | _ => s

/-- The boot-flash controller (R379). -/
def State.writeFlash (s : State) (ofs : Nat) (v : Word) : State :=
  match ofs with
  | 0x39C004 => s.flCtrl v
  | 0x39C008 => s.flRaddr v
  | _ => s

/-! ### Clocks, power, the pair and observation -/

/-- CLOCK (R83). -/
def State.writeClock (s : State) (t ofs : Nat) (v : Word) : State :=
  if 0x3A0040 ≤ ofs ∧ ofs < 0x3A0050 then s.trfDiv t ((ofs - 0x3A0040) / 4) v
  else match ofs with
    | 0x3A0010 => s.modDev (fun d => { d with rcause := w1c d.rcause v })
    | 0x3A0014 => s.clockReset v
    | 0x3A0030 => s.clockDormant v
    | 0x3A0034 => s.modDev (fun d => { d with wakeEn := v.setWidth 14 })
    | 0x3A0038 => s.modDev (fun d => { d with wakeSrc := w1c d.wakeSrc v })
    | 0x3A003C => s.modDev (fun d => { d with wakeSen := v &&& 0xFFF1001F#32 })
    | 0x3A0050 => s.modDev (fun d => { d with rtcCmp := v })
    | _ => s

/-- WINDLASS (R396). -/
def State.writeWindlass (s : State) (ofs : Nat) (v : Word) : State :=
  match ofs with
  | 0x3B0014 => (s.modWindlass (fun w => { w with status := w1c w.status v })).settleAll ((List.range 6).map (968 + ·))
  | 0x3B001C => (s.modWindlass (fun w => { w with monStat := w1c w.monStat v })).settleAll ((List.range 32).map (936 + ·))
  | _ => s

/-- SUPPLY (R397): a window of 0 and a hold-off of 0 or above 60,000 ms are reserved encodings. -/
def State.writeSupply (s : State) (ofs : Nat) (v : Word) : State :=
  if 0x3C0040 ≤ ofs ∧ ofs < 0x3C00C0 then
    let c := (inst ofs 0x3C0040 0x20).1
    if (inst ofs 0x3C0040 0x20).2 ≠ 0 then s
    else if bits v 7 0 = 0 then s.regRejected ofs
    else s.modSupply (fun p => { p with chans := p.chans.upd c (fun x => { x with win := v.setWidth 8 }) })
  else match ofs with
    | 0x3C0004 => s.supCtrl v
    | 0x3C0008 => (s.modSupply (fun p => { p with status := w1c p.status v })).settleAll ((List.range 10).map (974 + ·))
    | 0x3C000C =>
      if bits v 15 0 = 0 ∨ 60000 < bits v 15 0 then s.regRejected ofs else s.modSupply (fun p => { p with pfHold := v.setWidth 16 })
    | _ => s

/-- PAIR (R412). -/
def State.writePair (s : State) (ofs : Nat) (v : Word) : State :=
  match ofs with
  | 0x3D0008 => (s.modPair (fun p => { p with status := w1c p.status v })).settleAll ((List.range 16).map (984 + ·))
  | 0x3D000C => s.modPair (fun p => { p with noRevert := v.getLsbD 0 })
  | _ => s

/-- The owner of the instance that a count event code names (Table 2 of chapter 18); codes 0x0D to 0x0F have instance 0 alone. -/
def State.countOwner (s : State) (n code i : Nat) : Option Nat :=
  if code = 1 ∨ code = 2 then s.gillOwner i
  else if code = 3 ∨ code = 4 then s.poolOwner i
  else if code = 5 ∨ code = 6 ∨ code = 7 then s.pumpOwner i
  else if code = 8 ∨ code = 9 ∨ code = 10 then s.engineOwner i
  else if code = 11 then s.cisOwner i
  else if code = 12 then s.wellOwner i
  else if i = 0 then some n else none

/-- PC_SELi: an event code that is not listed, or an instance that the tenancy does not own, keeps its field (R420). -/
def State.pcSel (s : State) (i : Nat) (v : Word) : State :=
  let n := i / 64
  let old := ((s.obs.perf.get n).get (i % 64)).sel
  let badCode := decide (bits v 7 0 = 0) || decide (15 < bits v 7 0)
  let code := if badCode then bits old 7 0 else bits v 7 0
  let badInst := s.countOwner n code (bits v 15 8) != some n
  let sel := w32 (code + fld (if badInst then bits old 15 8 else bits v 15 8) 8 + flag (v.getLsbD 31) 31)
  (s.modObs (fun o => { o with perf := o.perf.upd n (fun b => b.upd (i % 64) (fun c => { c with sel := sel })) })).rejectIf
    (badCode || badInst) (0x3E0000 + 0x10 * i)

/-- OBSERVE (R431, R432). -/
def State.writeObserve (s : State) (ofs : Nat) (v : Word) : State :=
  if ofs < 0x3E2000 then
    if (inst ofs 0x3E0000 0x10).2 = 0 then s.pcSel (inst ofs 0x3E0000 0x10).1 v else s
  else if ofs < 0x3E2100 then
    let n := (inst ofs 0x3E2000 0x20).1
    match (inst ofs 0x3E2000 0x20).2 with
    | 0x00 => s.pcCtrl n v
    | 0x14 => s.modObs (fun o => { o with allow := o.allow.put n (v.getLsbD 0) })
    | _ => s
  else s

/-! ### Any register -/

/-- The effect of a write to a register that the tenancy sees. -/
def State.writeBlock (s : State) (b : Block) (t ofs : Nat) (v : Word) : State :=
  match b with
  | .ident | .pba => s
  | .qport => s.writeQport t ofs v
  | .wellctl => s.writeWell ofs v
  | .evsrc => s.writeEvsrc t ofs v
  | .msix => s.writeMsix t ofs v
  | .spawn => s.writeSpawn ofs v
  | .tenancy => s.writeTenancy t ofs v
  | .gill => s.writeGill ofs v
  | .forager => s.writeForager ofs v
  | .mycelium => s.writeMycelium t ofs v
  | .truffle => s.writeTruffle ofs v
  | .cistern => s.writeCistern t ofs v
  | .pump => s.writePump ofs v
  | .aquifer => s.writeAquifer ofs v
  | .filter => s.writeFilter ofs v
  | .spout => s.writeSpout ofs v
  | .sap => s.writeSap ofs v
  | .net => s.writeNet ofs v
  | .usb => s.writeUsb ofs v
  | .timer => s.writeTimer ofs v
  | .keybed => s.writeKeybed ofs v
  | .uart => s.writeUart ofs v
  | .i2c => s.writeI2c ofs v
  | .flash => s.writeFlash ofs v
  | .clock => s.writeClock t ofs v
  | .windlass => s.writeWindlass ofs v
  | .supply => s.writeSupply ofs v
  | .pair => s.writePair ofs v
  | .observe => s.writeObserve ofs v

/-- A write of the register at a BAR0 offset by tenancy t (R6 to R8, R64, R91 to R93). TENANCY_LC_REQ is open in UNSPAWNED too (R98). -/
def State.writeReg (s : State) (t ofs : Nat) (v : Word) : State :=
  if ofs = 0x2020C then s.lcWrite t v
  else match blockOf ofs with
    | none => s.access t ofs true false id
    | some b => s.access t ofs true (s.sees b t ofs) (fun s => s.writeBlock b t ofs v)

/-- REGISTER_WRITE. -/
def execRegisterWrite (t : Fin 8) (ofs : Nat) (v : Word) (s : State) : Res := .next (s.writeReg t (ofs / 4 * 4) v)

end Sys2Proof.Machine
end

