-- ==== Sys2Proof/Machine/Links.lean ====
section
/-! DEFINITION. The host links: PCIe configuration and memory requests, MSI-X, the link itself (R64, R76, R104 to R107, R127), and the two
xSPI chip selects (R109 to R111). -/

namespace Sys2Proof.Machine

/-! ### PCIe configuration space (R104, R107; the layout beyond what the manual names is PCI's, PRESUMED, log entry 8) -/

/-- Whether the PCIe core serves requests: its link is up and the device is neither off, starting nor dormant. -/
def State.pcieServed (s : State) : Bool := s.host.linkUp && s.hostServed

/-- A function of the endpoint changed. -/
def State.updFn (s : State) (fn : Nat) (f : PcieFn → PcieFn) : State := s.modHost (fun h => { h with fns := h.fns.upd fn f })

/-- What a configuration register of function fn reads. The words of Table 2's capabilities: the MSI-X table at 0x8000 and PBA at 0x9000 of
BAR0; D0 and D3hot alone; 256 B of payload and function level reset; link width x2 at up to 8 GT/s, with ASPM L1 and no L0s, at 2.5, 5 and
8 GT/s. -/
def State.cfgRead (s : State) (fn : Nat) (r : CfgReg) : Word :=
  let f := s.host.fns.get fn
  match r with
  | .vendorDevice | .subsystem => 0x08481E9C#32
  | .command => w32 f.command.toNat
  | .classRevision => 0x048000B0#32
  | .header => if fn = 0 then 0x00800000#32 else 0#32
  | .bar0 => f.bar0
  | .bar2lo => f.bar2lo ||| 0xC#32
  | .bar2hi => f.bar2hi
  | .msixControl => w32 (63 + flag f.msixMaskAll 14 + flag f.msixEnable 15)
  | .msixTable => 0x8000#32
  | .msixPba => 0x9000#32
  | .power => w32 f.power.toNat
  | .powerCap => 0x00030001#32
  | .aerStatus => w32 (flag f.aerLink 5 + flag f.aerPoisoned 12)
  | .flr => 0#32
  | .deviceCap => w32 (1 + flag true 15 + flag true 28)
  | .linkCap => w32 (3 + fld 2 4 + fld 2 10)
  | .linkCap2 => w32 (fld 7 1)

/-- A write of a configuration register: BAR0 keeps 16 MiB and BAR2 64 MiB of address bits, the power state is D0 or D3hot, and the error
bits clear on a 1. -/
def PcieFn.write (f : PcieFn) (r : CfgReg) (v : Word) : PcieFn :=
  match r with
  | .command => { f with command := (v &&& 0x546#32).setWidth 16 }
  | .bar0 => { f with bar0 := v &&& 0xFF000000#32 }
  | .bar2lo => { f with bar2lo := v &&& 0xFC000000#32 }
  | .bar2hi => { f with bar2hi := v }
  | .msixControl => { f with msixMaskAll := v.getLsbD 14, msixEnable := v.getLsbD 15 }
  | .power => if bits v 1 0 = 0 ∨ bits v 1 0 = 3 then { f with power := v.setWidth 2 } else f
  | .aerStatus => { f with aerLink := f.aerLink && !v.getLsbD 5, aerPoisoned := f.aerPoisoned && !v.getLsbD 12 }
  | .vendorDevice | .classRevision | .header | .subsystem | .flr | .msixTable | .msixPba | .powerCap | .deviceCap | .linkCap
  | .linkCap2 => f

/-- A function level reset (R76): configuration space, MSI-X table and PBA of the function, and its unissued buffered stores. -/
def State.flr (s : State) (fn : Nat) : State :=
  (s.updFn fn (fun _ => PcieFn.reset)).modHost (fun h => { h with wcb := h.wcb.filter (fun e => e.fn != fn) })

/-- FUNCTION_LEVEL_RESET. -/
def execFunctionLevelReset (fn : Fin 8) (s : State) : Res := .next (if s.pcieServed then s.flr fn else s)

/-- A configuration request: a read is answered, a write takes effect, and a write of Initiate FLR resets the function. -/
def State.cfgRequest (s : State) (fn : Nat) (r : CfgReg) (w : Option Word) : State :=
  match w with
  | none => s.emit (.pcieData fn [s.cfgRead fn r] false)
  | some v => if r == .flr then (if v.getLsbD 15 then s.flr fn else s) else s.updFn fn (fun f => f.write r v)

/-- PCIE_CONFIG_REQUEST. -/
def execPcieConfigRequest (fn : Fin 8) (reg : CfgReg) (write : Option Word) (s : State) : Res :=
  .next (if s.pcieServed then s.cfgRequest fn reg write else s)

/-! ### Memory requests (R92, R105, R106) -/

/-- The sizes of the two windows. -/
def bar0Size : Nat := 0x1000000
def bar2Size : Nat := 0x4000000

/-- The 32-bit register that an offset names. -/
def regAt (ofs : Nat) : Nat := ofs / 4 * 4

/-- Consecutive registers read, in rising order. -/
def State.readRegs (s : State) (t : Nat) (ofs : List Nat) : State × List Word :=
  ofs.foldl (fun (x : State × List Word) o =>
    let r := x.1.readReg t (regAt o)
    (r.1, x.2 ++ [r.2])) (s, [])

/-- Consecutive registers written, in rising order. -/
def State.writeRegs (s : State) (t ofs : Nat) (data : List Word) : State :=
  data.zipIdx.foldl (fun s x => s.writeReg t (regAt (ofs + 4 * x.2)) x.1) s

/-- A request to BAR0 of function fn. -/
def State.bar0Request (s : State) (fn ofs : Nat) (r : MemReq) : State :=
  match r with
  | .read n =>
    let x := s.readRegs fn ((List.range n).map (fun i => ofs + 4 * i))
    x.1.emit (.pcieData fn x.2 false)
  | .write data => s.writeRegs fn ofs data

/-- A request to BAR2 of function fn; a read of a cistern in handover is answered once that ends (R259). -/
def State.bar2Request (s : State) (fn ofs : Nat) (r : MemReq) : State :=
  match r with
  | .read n =>
    let x := s.bar2Load fn ofs n
    match x.2 with
    | .data ws e => x.1.bar2Answer fn ws e
    | .held => x.1
  | .write data => s.bar2Store fn ofs (wordsBytes data)

/-- The bytes of a request. -/
def reqBytes : MemReq → Nat
  | .read n => 4 * n
  | .write d => 4 * d.length

/-- A memory request where it falls: outside both windows it is an Unsupported Request (R105). -/
def State.memRequest (s : State) (fn : Nat) (bar : Bar) (ofs : Nat) (r : MemReq) : State :=
  match bar with
  | .outside => s.emit (.pcieUnsupported fn)
  | .bar0 => if ofs + reqBytes r ≤ bar0Size then s.bar0Request fn ofs r else s.emit (.pcieUnsupported fn)
  | .bar2 => if ofs + reqBytes r ≤ bar2Size then s.bar2Request fn ofs r else s.emit (.pcieUnsupported fn)

/-- PCIE_MEMORY_REQUEST. -/
def execPcieMemoryRequest (fn : Fin 8) (bar : Bar) (ofs : Nat) (req : MemReq) (s : State) : Res :=
  .next (if s.pcieServed then s.memRequest fn bar ofs req else s)

/-- POISONED_WRITE. -/
def execPoisonedWrite (fn : Fin 8) (ofs : Nat) (s : State) : Res :=
  .next (if s.pcieServed then (s.updFn fn (fun f => { f with aerPoisoned := true })).pulse 1003 (w32 ofs) else s)

/-- BAR2_WRITE. -/
def execBar2Write (fn : Fin 8) (ofs : Nat) (data : List Byte) (s : State) : Res :=
  .next (if s.pcieServed then
    (if ofs + data.length ≤ bar2Size then s.bar2Store fn ofs data else s.emit (.pcieUnsupported fn))
  else s)

/-! ### The link and MSI-X (R107, R127) -/

/-- PCIE_LINK_DOWN: AER of every function records the error; frames and wells go on. -/
def execPcieLinkDown (s : State) : Res :=
  .next (if s.host.linkUp then
    s.modHost (fun h => { h with linkUp := false, fns := h.fns.mapi (fun _ f => { f with aerLink := true }) })
  else s)

/-- A pending vector of function fn sends its message once it may (R107). -/
def State.pendingSend (s : State) (fn v : Nat) : State :=
  if (s.host.fns.get fn).pba.getLsbD v && s.msixOpen fn v then
    (s.msixSend fn v).updFn fn (fun f => { f with pba := f.pba &&& ~~~(BitVec.ofNat 64 (2 ^ v)) })
  else s

/-- MSIX_PENDING_SEND. -/
def execMsixPendingSend (fn : Fin 8) (vector : Fin 64) (s : State) : Res := .next (s.pendingSend fn vector)

/-- The link retrained: every pending vector that may be sent is sent. -/
def State.linkRetrained (s : State) : State :=
  (List.range 512).foldl (fun s i => s.pendingSend (i / 64) (i % 64)) (s.modHost (fun h => { h with linkUp := true }))

/-- PCIE_LINK_UP: boot mode 0b100 has no PCIe (R64). -/
def execPcieLinkUp (s : State) : Res :=
  .next (if s.host.linkUp || s.dev.phase == .off || s.dev.phase == .aon || s.dev.boot == 4#3 then s else s.linkRetrained)

/-! ### xSPI (R109 to R111) -/

/-- The tenancy of a chip select: T0, or the one that XSPI_CS1 names, and none while that record is disabled. -/
def State.csTen (s : State) (cs : Fin 2) : Option Nat := if cs = 0 then some 0 else s.cfg.dev.cs1

/-- A chip select changed. -/
def State.updXspi (s : State) (cs : Nat) (f : Xspi → Xspi) : State := s.modHost (fun h => { h with xspi := h.xspi.upd cs f })

/-- The opcodes of Table 4 of chapter 05. -/
def xspiOpcodes : List Byte := [0xE1#8, 0xE2#8, 0xE5#8, 0xE8#8, 0xEF#8]

/-- What a chip-select assertion does: the command with this opcode runs for the tenancy of the chip select; an unknown opcode, or an inverse
byte that does not match in octal mode, sets BAD_CMD and nothing else (R110). The header of another command belongs to that command's row. -/
def State.xspiRun (s : State) (f : XspiFrame) (op : Byte) (k : Nat → State) : State :=
  match s.csTen f.cs with
  | none => s
  | some t =>
    if !xspiOpcodes.contains f.op || ((s.host.xspi.get f.cs).octal && f.inv != ~~~f.op) then
      s.updXspi f.cs (fun x => { x with badCmd := true })
    else if f.op = op then k t
    else s

/-- The xSPI target answers from AON on (Table 5 of chapter 05), and serves words while the host is served. -/
def State.xspiUp (s : State) : Bool := s.dev.phase == .aon || s.hostServed

/-- The answer for a word that is late or cannot be read. -/
def xspiLate : Word := 0xFFFFFFFF#32

/-- One word of a READ: a late word, a word of a cistern in handover, and a word with an uncorrectable error read 0xFFFF_FFFF with LATE
(R111, R259, R279). -/
def State.xspiWord (s : State) (t : Nat) (cs : Nat) (addr : Nat) (late : Bool) : State × Word :=
  let lateIf (b : Bool) (x : State × Word) : State × Word :=
    if b then (x.1.updXspi cs (fun y => { y with late := true }), xspiLate) else x
  let ofs := addr % 2147483648
  if addr < 2147483648 then lateIf late (s.readReg t ofs)
  else if s.ownsRange t ofs 4 && s.cisHolds (ofs / cisBytes) then lateIf true (s, 0#32)
  else
    let x := s.bar2Load t ofs 1
    match x.2 with
    | .data ws e => lateIf (late || e == .uncorrectable) (x.1, ws.headD 0#32)
    | .held => lateIf true (x.1, 0#32)

/-- The words of a READ, one for each entry of late; the address advances by 4. -/
def State.xspiWords (s : State) (t cs : Nat) (addr : Word) (late : List Bool) : State × List Word :=
  late.zipIdx.foldl (fun (x : State × List Word) l =>
    let r := x.1.xspiWord t cs (regAt ((addr.toNat + 4 * l.2) % 4294967296)) l.1
    (r.1, x.2 ++ [r.2])) (s, [])

/-- XSPI_READ. -/
def execXspiRead (f : XspiFrame) (addr : Word) (late : List Bool) (s : State) : Res :=
  .next (if s.hostServed then
    s.xspiRun f 0xE1#8 (fun t =>
      let r := s.xspiWords t f.cs addr late
      r.1.emit (.xspi f.cs (wordsBytes r.2)))
  else s)

/-- One word of a WRITE. -/
def State.xspiPut (s : State) (t : Nat) (addr : Nat) (v : Word) : State :=
  let ofs := addr % 2147483648
  if addr < 2147483648 then s.writeReg t ofs v else s.bar2Store t ofs (wordBytes v)

/-- The whole words of a WRITE; an incomplete last word is discarded (R110). -/
def State.xspiPuts (s : State) (t : Nat) (addr : Word) (data : List Byte) : State :=
  (wordsOf (data.take (data.length / 4 * 4))).zipIdx.foldl (fun s x =>
    s.xspiPut t (regAt ((addr.toNat + 4 * x.2) % 4294967296)) x.1) s

/-- XSPI_WRITE. -/
def execXspiWrite (f : XspiFrame) (addr : Word) (data : List Byte) (s : State) : Res :=
  .next (if s.hostServed then s.xspiRun f 0xE2#8 (fun t => s.xspiPuts t addr data) else s)

/-- The STATE code of Table 5 of chapter 05; while the device wakes from dormancy the table has no code, and the value is free. -/
def State.xspiState (s : State) : Nat :=
  match s.dev.phase with
  | .aon | .off => 0
  | .loading => 1
  | .unspawned => 2
  | .running => 3
  | .parked => 4
  | .safe => 5
  | .dormantK | .dormantL => bits (Config.freeWord s.free) 3 0

/-- Whether tenancy t owns a source that is pending and unmasked. -/
def State.evtPend (s : State) (t : Nat) : Bool :=
  s.evs.src.toList.zipIdx.any (fun x => x.1.pend && !x.1.mask && s.sourceOwner x.2 == some t)

/-- The status word of a chip select. -/
def State.xspiStatusWord (s : State) (t cs : Nat) : Word :=
  let x := s.host.xspi.get cs
  w32 (flag (s.dev.phase != .aon) 0 + flag x.octal 1 + flag x.badCmd 2 + flag x.late 3 + fld s.xspiState 8 + flag (s.evtPend t) 12)

/-- XSPI_STATUS: the word, with BAD_CMD and LATE cleared by it. -/
def execXspiStatus (f : XspiFrame) (s : State) : Res :=
  .next (if s.xspiUp then
    s.xspiRun f 0xE5#8 (fun t =>
      (((s.emit (.xspi f.cs (wordBytes (s.xspiStatusWord t f.cs)))).modFree (· + 1)).updXspi f.cs
        (fun x => { x with badCmd := false, late := false })))
  else s)

/-- SET_CONFIG: the mode, and the latency where it is 8 to 31. -/
def execSetConfig (f : XspiFrame) (v : Word) (s : State) : Res :=
  .next (if s.xspiUp then
    s.xspiRun f 0xE8#8 (fun _ => s.updXspi f.cs (fun x =>
      { x with octal := v.getLsbD 0, lat := if bits v 5 1 < 8 then x.lat else BitVec.ofNat 5 (bits v 5 1) }))
  else s)

/-- INTERFACE_RESET. -/
def execInterfaceReset (f : XspiFrame) (s : State) : Res :=
  .next (if s.xspiUp then
    s.xspiRun f 0xEF#8 (fun _ => s.updXspi f.cs (fun x => { x with octal := false, lat := 8#5 }))
  else s)

end Sys2Proof.Machine
end

