-- ==== Sys2Proof/Machine/Scalar.lean ====
section
/-! DEFINITION. The sequencer instructions of a Truffle engine (Table 7 of chapter 09): integer operations, branches, memory, calls
with their windows and spills (R219 to R222), traps, and the ends of jobs and positions. -/

namespace Sys2Proof.Machine

/-- Trap ILLEGAL. -/
def Issued.illegal : Issued := .trap 3 0#32

/-- An instruction without flags done, one word on. -/
def Ctx.next (c : Ctx) : Issued := .done (c.skip 1) 0#6

/-! ### Integer operations -/

/-- A register form: rd takes a function of rs1 and rs2; the field marked 0 has to be 0 (R210). -/
def State.regOp (s : State) (e : Nat) (f : RegF) (g : Word → Word → Word) : State :=
  s.issueCtx e 1 (fun c =>
    if f.zero = 0#9 then (c.setReg f.rd.toNat (g (c.reg f.rs1.toNat) (c.reg f.rs2.toNat))).next else .illegal)

/-- An immediate form: rd takes a function of rs1. -/
def State.immOp (s : State) (e : Nat) (f : ImmF) (g : Word → Word) : State :=
  s.issueCtx e 1 (fun c => (c.setReg f.rd.toNat (g (c.reg f.rs1.toNat))).next)

/-- imm14 sign-extended. -/
def sext14 (f : ImmF) : Word := f.imm.signExtend 32

/-- imm14 zero-extended. -/
def zext14 (f : ImmF) : Word := f.imm.setWidth 32

/-- 1 for true, 0 for false. -/
def boolWord (b : Bool) : Word := if b then 1#32 else 0#32

/-- ADD. -/
def execAdd (e : Fin 4) (f : RegF) (s : State) : Res := .next (s.regOp e f (fun a b => a + b))

/-- SUB. -/
def execSub (e : Fin 4) (f : RegF) (s : State) : Res := .next (s.regOp e f (fun a b => a - b))

/-- AND. -/
def execAnd (e : Fin 4) (f : RegF) (s : State) : Res := .next (s.regOp e f (fun a b => a &&& b))

/-- OR. -/
def execOr (e : Fin 4) (f : RegF) (s : State) : Res := .next (s.regOp e f (fun a b => a ||| b))

/-- XOR. -/
def execXor (e : Fin 4) (f : RegF) (s : State) : Res := .next (s.regOp e f (fun a b => a ^^^ b))

/-- SLL. -/
def execSll (e : Fin 4) (f : RegF) (s : State) : Res := .next (s.regOp e f (fun a b => a <<< (bits b 4 0)))

/-- SRL. -/
def execSrl (e : Fin 4) (f : RegF) (s : State) : Res := .next (s.regOp e f (fun a b => a >>> (bits b 4 0)))

/-- SRA. -/
def execSra (e : Fin 4) (f : RegF) (s : State) : Res := .next (s.regOp e f (fun a b => a.sshiftRight (bits b 4 0)))

/-- MUL. -/
def execMul (e : Fin 4) (f : RegF) (s : State) : Res := .next (s.regOp e f (fun a b => a * b))

/-- MULHU. -/
def execMulhu (e : Fin 4) (f : RegF) (s : State) : Res := .next (s.regOp e f (fun a b => w32 (a.toNat * b.toNat / 4294967296)))

/-- SLT. -/
def execSlt (e : Fin 4) (f : RegF) (s : State) : Res := .next (s.regOp e f (fun a b => boolWord (a.slt b)))

/-- SLTU. -/
def execSltu (e : Fin 4) (f : RegF) (s : State) : Res := .next (s.regOp e f (fun a b => boolWord (a.ult b)))

/-- ADDI. -/
def execAddi (e : Fin 4) (f : ImmF) (s : State) : Res := .next (s.immOp e f (fun a => a + sext14 f))

/-- ANDI. -/
def execAndi (e : Fin 4) (f : ImmF) (s : State) : Res := .next (s.immOp e f (fun a => a &&& zext14 f))

/-- ORI. -/
def execOri (e : Fin 4) (f : ImmF) (s : State) : Res := .next (s.immOp e f (fun a => a ||| zext14 f))

/-- XORI. -/
def execXori (e : Fin 4) (f : ImmF) (s : State) : Res := .next (s.immOp e f (fun a => a ^^^ zext14 f))

/-- SLLI. -/
def execSlli (e : Fin 4) (f : ImmF) (s : State) : Res := .next (s.immOp e f (fun a => a <<< (bits f.imm 4 0)))

/-- SRLI. -/
def execSrli (e : Fin 4) (f : ImmF) (s : State) : Res := .next (s.immOp e f (fun a => a >>> (bits f.imm 4 0)))

/-- SRAI. -/
def execSrai (e : Fin 4) (f : ImmF) (s : State) : Res := .next (s.immOp e f (fun a => a.sshiftRight (bits f.imm 4 0)))

/-- SLTI. -/
def execSlti (e : Fin 4) (f : ImmF) (s : State) : Res := .next (s.immOp e f (fun a => boolWord (a.slt (sext14 f))))

/-- LUI: rd takes imm19 shifted left by 13. -/
def execLui (e : Fin 4) (f : LongF) (s : State) : Res :=
  .next (s.issueCtx e 1 (fun c => (c.setReg f.rd.toNat ((f.imm.setWidth 32) <<< 13)).next))

/-- NOP. -/
def execNop (e : Fin 4) (_f : ImmF) (s : State) : Res := .next (s.issueCtx e 1 (fun c => c.next))

/-! ### Special registers (R218) -/

/-- Special register n as MOVRS reads it; a reserved number gives no stated value, so it reads a free one (DEDUCED, log entry 28). -/
def Ctx.special (c : Ctx) (n : Nat) (free : Word) : Word :=
  match n with
  | 0 => w32 c.ctrl.toNat
  | 1 => w32 c.sticky.toNat
  | 2 => w32 c.fte.toNat
  | 3 => w32 c.tba.toNat
  | 4 => w32 c.aqw.toNat
  | 5 => w32 c.width
  | 6 => w32 (c.wins.length + fld c.spilled 4)
  | 7 => w32 c.tcause
  | _ => free

/-- Special register n written; none is a read-only or reserved one. -/
def Ctx.setSpecial (c : Ctx) (n : Nat) (v : Word) : Option Ctx :=
  match n with
  | 0 => some { c with ctrl := v.setWidth 2 }
  | 1 => some { c with sticky := v.setWidth 6 }
  | 2 => some { c with fte := v.setWidth 6 }
  | 3 => some { c with tba := v.setWidth 12 }
  | 4 => some { c with aqw := v.setWidth 3 }
  | _ => none

/-- MOVSR: special register rs2 takes rs1. -/
def execMovsr (e : Fin 4) (f : RegF) (s : State) : Res :=
  .next (s.issueCtx e 1 (fun c =>
    if f.zero ≠ 0#9 then .illegal
    else match c.setSpecial f.rs2.toNat (c.reg f.rs1.toNat) with
      | some c1 => c1.next
      | none => .illegal))

/-- MOVRS: rd takes special register rs2. -/
def execMovrs (e : Fin 4) (f : RegF) (s : State) : Res :=
  .next (s.issue e 1 (fun s c =>
    if f.zero ≠ 0#9 then (s, .illegal)
    else (if 8 ≤ f.rs2.toNat then s.modFree (· + 1) else s,
      (c.setReg f.rd.toNat (c.special f.rs2.toNat (Config.freeWord s.free))).next)))

/-! ### Jumps and branches -/

/-- The code address at a signed distance from the context's. -/
def Ctx.target (c : Ctx) (d : Int) : Nat := (((c.pc : Int) + d) % 4294967296).toNat

/-- A branch to PC + imm14, taken when rs1 passes a test. -/
def State.branch (s : State) (e : Nat) (f : ImmF) (test : Word → Bool) : State :=
  let taken := test ((s.engine e).ctx.reg f.rs1.toNat)
  s.issueCtx e (if taken then 2 else 1) (fun c => if taken then .done (c.goto (c.target f.imm.toInt)) 0#6 else c.next)

/-- BEQZ. -/
def execBeqz (e : Fin 4) (f : ImmF) (s : State) : Res := .next (s.branch e f (fun a => a == 0#32))

/-- BNEZ. -/
def execBnez (e : Fin 4) (f : ImmF) (s : State) : Res := .next (s.branch e f (fun a => a != 0#32))

/-- BLTZ. -/
def execBltz (e : Fin 4) (f : ImmF) (s : State) : Res := .next (s.branch e f (fun a => a.getLsbD 31))

/-- BGEZ. -/
def execBgez (e : Fin 4) (f : ImmF) (s : State) : Res := .next (s.branch e f (fun a => !a.getLsbD 31))

/-- J: jump to PC + imm19. -/
def execJ (e : Fin 4) (f : LongF) (s : State) : Res :=
  .next (s.issueCtx e 2 (fun c => .done (c.goto (c.target f.imm.toInt)) 0#6))

/-- JR: jump to rs1. -/
def execJr (e : Fin 4) (f : RegF) (s : State) : Res :=
  .next (s.issueCtx e 2 (fun c => if f.zero = 0#9 then .done (c.goto (c.reg f.rs1.toNat).toNat) 0#6 else .illegal))

/-! ### Memory (R221) -/

/-- The address rs1 + 4 × imm14. -/
def Ctx.wordAddr (c : Ctx) (f : ImmF) : Nat := (c.reg f.rs1.toNat + ((sext14 f) <<< 2)).toNat

/-- LDW. -/
def execLdw (e : Fin 4) (f : ImmF) (s : State) : Res :=
  .next (s.issue e 1 (fun s c =>
    let a := c.wordAddr f
    match s.enginePlaces e c.aqw.toNat [a] with
    | .fault x => (s, .trap 4 (w32 x))
    | .wait => (s, .wait)
    | .all l =>
      let r := s.engineLoads e l
      if r.2.2 then (r.1, (c.setReg f.rd.toNat (r.2.1.headD 0#32)).next) else (r.1, .trap 5 (w32 a))))

/-- STW. -/
def execStw (e : Fin 4) (f : ImmF) (s : State) : Res :=
  .next (s.issue e 1 (fun s c =>
    match s.enginePlaces e c.aqw.toNat [c.wordAddr f] with
    | .fault x => (s, .trap 4 (w32 x))
    | .wait => (s, .wait)
    | .all l => (s.engineStores e (l.map (fun p => (p, c.reg f.rd.toNat))), c.next)))

/-! ### Calls, windows and spills (R219, R220, R222) -/

/-- The spill area of the running context of engine e: a BAR2 address; none without a SPILL record. -/
def State.spillArea (s : State) (e : Nat) : Option Nat :=
  match s.engineOwner e with
  | none => none
  | some n => ((s.tcfg n).spore.spills.find? (fun r => r.engine == e)).map (fun r =>
      r.cistern * cisBytes + r.offset + (if (s.engine e).run == .job then 4096 else 0))

/-- The 16 words of a window in spill order: Q0 to Q6, LK, P0 to P7. -/
def Win.spillWords (w : Win) : List Word := w.q.toList ++ [w.lk] ++ w.p.toList

/-- The window of 16 spilled words. -/
def Win.ofSpill (l : List Word) : Win :=
  { q := Bank.make 7 (fun i => l.getD i 0#32), lk := l.getD 7 0#32, p := Bank.make 8 (fun i => l.getD (8 + i) 0#32) }

/-- The addresses of the k-th spilled window. -/
def spillAddrs (area k : Nat) : List Nat := (List.range 16).map (fun i => area + 64 * k + 4 * i)

/-- The built-in handler uses the trap window and leaves it again (R222, R224). -/
def Ctx.builtIn (c : Ctx) (cause : Nat) : Ctx := { c.enterTrap cause 0#32 c.pc with inTrap := false, pc := c.pc }

/-- A fresh window of a call from context c: P0 to P7 are the caller's exchange registers, LK the return address, and the rest holds no
defined value (R219), so free values. -/
def Ctx.rotate (c : Ctx) (free target : Nat) : Ctx :=
  let w : Win := { p := c.x, q := Bank.make 7 (fun i => Config.freeWord (free + i)), lk := w32 (c.pc + 1) }
  { c with wins := w :: c.wins, x := Bank.make 8 (fun i => Config.freeWord (free + 7 + i)), pc := target }

/-- The peak of the spilled windows of the running context. -/
def Engine.spillPeak (x : Engine) (k : Nat) : Engine :=
  if x.run == .job then { x with spillPkJ := max x.spillPkJ k } else { x with spillPkF := max x.spillPkF k }

/-- A call to an address (R219, R220, R222). -/
def State.callTo (s : State) (e : Nat) (c : Ctx) (target : Nat) : State × Issued :=
  if c.inTrap then (s, .illegal)
  else if c.wins.length < 8 then (s.modFree (· + 15), .done (c.rotate s.free target) 0#6)
  else if 64 ≤ c.spilled then (s, .trap 7 0#32)
  else
    let area := (s.spillArea e).getD 1
    match s.enginePlaces e 0 (spillAddrs area c.spilled) with
    | .fault x => (s, .spillFault 1 4 (w32 x))
    | .wait => (s, .wait)
    | .all l =>
      let old := c.wins.getLastD Win.zero
      let s1 := (s.engineStores e (l.zip old.spillWords)).updEngine e (fun x => x.spillPeak (c.spilled + 1))
      let c1 := { c.builtIn 1 with wins := c.wins.dropLast, spilled := c.spilled + 1 }
      (s1.modFree (· + 15), .done (c1.rotate s.free target) 0#6)

/-- The return from the current window to the caller's, which finds the callee's P0 to P7 in its exchange registers (R219). -/
def Ctx.unrotate (c : Ctx) : Ctx :=
  let top := c.wins.headD Win.zero
  { c with wins := c.wins.drop 1, x := top.p, pc := top.lk.toNat }

/-- RET. -/
def State.returns (s : State) (e : Nat) (c : Ctx) : State × Issued :=
  if c.inTrap then (s, .illegal)
  else if 1 < c.wins.length then (s, .done c.unrotate 0#6)
  else if c.spilled = 0 then (s, .illegal)
  else
    let area := (s.spillArea e).getD 1
    match s.enginePlaces e 0 (spillAddrs area (c.spilled - 1)) with
    | .fault x => (s, .spillFault 2 4 (w32 x))
    | .wait => (s, .wait)
    | .all l =>
      let r := s.engineLoads e l
      if r.2.2 then
        let c1 := { c.builtIn 2 with wins := c.wins ++ [Win.ofSpill r.2.1], spilled := c.spilled - 1 }
        (r.1, .done c1.unrotate 0#6)
      else (r.1, .spillFault 2 5 (w32 (area + 64 * (c.spilled - 1) + 4 * r.2.1.length)))

/-- CALL: call PC + imm19. -/
def execCall (e : Fin 4) (f : LongF) (s : State) : Res :=
  .next (s.issue e 2 (fun s c => s.callTo e c (c.target f.imm.toInt)))

/-- CALLR: call rs1. -/
def execCallr (e : Fin 4) (f : RegF) (s : State) : Res :=
  .next (s.issue e 2 (fun s c =>
    if f.zero = 0#9 then s.callTo e c (c.reg f.rs1.toNat).toNat else (s, .illegal)))

/-- RET. -/
def execRet (e : Fin 4) (_f : ImmF) (s : State) : Res := .next (s.issue e 2 (fun s c => s.returns e c))

/-! ### Traps, and the ends of jobs and positions -/

/-- TRAPI: trap SOFT with imm14. -/
def execTrapi (e : Fin 4) (f : ImmF) (s : State) : Res := .next (s.issueCtx e 1 (fun _ => .trap 8 (zext14 f)))

/-- The words of the instruction at a code address: two for the vector immediate class (R210). -/
def Engine.sizeAt (x : Engine) (a : Nat) : Nat := if a < 4096 ∧ bits (x.code.get a) 31 29 = 3 then 2 else 1

/-- TRET: out of the trap window to LK, or to the instruction after it (R224). -/
def execTret (e : Fin 4) (f : ImmF) (s : State) : Res :=
  .next (s.issue e 2 (fun s c =>
    if c.inTrap then
      let lk := c.trapWin.lk.toNat
      let pc := if f.imm.getLsbD 0 then lk + (s.engine e).sizeAt lk else lk
      (s, .done { c with inTrap := false, pc := pc } 0#6)
    else (s, .illegal)))

/-- Whether engine e can issue an instruction of a context (R209). -/
def Engine.issues (x : Engine) (r : Running) : Bool := x.run == r && !x.halted && decide (x.ctx.pc < 4096)

/-- HALT: the job ends DONE with P0 of the current window and STICKY; in the frame context it is ILLEGAL (R220, R232). -/
def execHalt (e : Fin 4) (_f : ImmF) (s : State) : Res :=
  .next (if (s.engine e).issues .job then
    let c := (s.engine e).ctx
    (s.countCycles e 1).jobEnd e csDone [c.reg 8, w32 c.sticky.toNat]
  else s.issueCtx e 1 (fun _ => .illegal))

/-- FRET: the position ends; in the job context it is ILLEGAL (R220, R229). -/
def execFret (e : Fin 4) (_f : ImmF) (s : State) : Res :=
  .next (if (s.engine e).issues .frame then (s.countCycles e 1).positionEnd e else s.issueCtx e 1 (fun _ => .illegal))

/-- SIGNAL: the engine's SIGNAL source. -/
def execSignal (e : Fin 4) (_f : ImmF) (s : State) : Res :=
  .next (if (s.engine e).issues (s.engine e).run && (s.engine e).run != .idle then (s.issueCtx e 1 (fun c => c.next)).engineFlag e 3
  else s.issueCtx e 1 (fun c => c.next))

end Sys2Proof.Machine
end

