-- ==== Sys2Proof/Machine/Vector.lean ====
section
/-! DEFINITION. The vector, vector memory, tile, reduction, mask, summary and spore instructions of a Truffle engine (Tables 3, 5, 6a
and 9 of chapter 09) with the arithmetic of chapter 10. -/

namespace Sys2Proof.Machine

/-! ### Vector operations (R212) -/

/-- Lane i of vector register v. -/
def Ctx.lane (c : Ctx) (v : BitVec 5) (i : Nat) : F32 := (c.v.get v.toNat).get i

/-- Whether the form of a vector word is allowed: an immediate only where the operation has one, and then vb is 0 (R210, R212). -/
def vecFormOk (f : VecF) (immOk : Bool) : Bool := match f.imm with
  | none => true
  | some _ => immOk && f.vb == 0#5

/-- Operand b of a lane: the immediate, or register vb. -/
def Ctx.operandB (c : Ctx) (f : VecF) (i : Nat) : F32 := match f.imm with
  | some w => w
  | none => c.lane f.vb i

/-- Words of a vector instruction. -/
def vecSize (f : VecF) : Nat := if f.imm.isSome then 2 else 1

/-- The flags of each lane recorded for KFLAG (R216). -/
def Ctx.noteLanes (c : Ctx) (f : Nat → FFlags) : Ctx := { c with laneFlags := Bank.make 32 f }

/-- The active lanes of vector register vd replaced. -/
def Ctx.putLanes (c : Ctx) (vd : BitVec 5) (km : BitVec 3) (f : Nat → F32) : Ctx :=
  { c with v := c.v.upd vd.toNat (fun b => b.mapi (fun i x => if c.active km i then f i else x)) }

/-- A vector instruction that gives each active lane a result with its flags (R211, R217). -/
def State.vec (s : State) (e k : Nat) (f : VecF) (immOk : Bool) (g : Ctx → Nat → FRes) : State :=
  s.issueCtx e k (fun c =>
    if vecFormOk f immOk then
      let r : Bank FRes 32 := Bank.make 32 (g c)
      let lf (i : Nat) : FFlags := if c.active f.km i then (r.get i).2 else 0#6
      .done ((c.putLanes f.vd f.km (fun i => (r.get i).1)).noteLanes lf |>.skip (vecSize f)) (orFlags (fun _ => true) lf)
    else .illegal)

/-- A vector arithmetic operation on operands a, b and c under the context's modes. -/
def State.vecArith (s : State) (e k : Nat) (f : VecF) (immOk : Bool) (g : FMode → F32 → F32 → F32 → FRes) : State :=
  s.vec e k f immOk (fun c i => g c.mode (c.lane f.va i) (c.operandB f i) (c.lane f.vc i))

/-- A quiet vector operation (R239). -/
def State.vecQuiet (s : State) (e : Nat) (f : VecF) (immOk : Bool) (g : Ctx → Nat → F32) : State :=
  s.vec e 1 f immOk (fun c i => (g c i, 0#6))

/-- VADD. -/
def execVadd (e : Fin 4) (f : VecF) (s : State) : Res := .next (s.vecArith e 1 f true (fun m a b _ => fAdd m a b))

/-- VSUB. -/
def execVsub (e : Fin 4) (f : VecF) (s : State) : Res := .next (s.vecArith e 1 f true (fun m a b _ => fSub m a b))

/-- VMUL. -/
def execVmul (e : Fin 4) (f : VecF) (s : State) : Res := .next (s.vecArith e 1 f true (fun m a b _ => fMul m a b))

/-- VDIV. -/
def execVdiv (e : Fin 4) (f : VecF) (s : State) : Res := .next (s.vecArith e 8 f true (fun m a b _ => fDiv m a b))

/-- VFMA. -/
def execVfma (e : Fin 4) (f : VecF) (s : State) : Res := .next (s.vecArith e 1 f true (fun m a b c => fFma m a b c))

/-- VFMS. -/
def execVfms (e : Fin 4) (f : VecF) (s : State) : Res := .next (s.vecArith e 1 f true (fun m a b c => fFma m a b (fNeg c)))

/-- VFNMA. -/
def execVfnma (e : Fin 4) (f : VecF) (s : State) : Res := .next (s.vecArith e 1 f true (fun m a b c => fFma m (fNeg a) b c))

/-- VMIN. -/
def execVmin (e : Fin 4) (f : VecF) (s : State) : Res := .next (s.vecArith e 1 f true (fun m a b _ => fMin m a b))

/-- VMAX. -/
def execVmax (e : Fin 4) (f : VecF) (s : State) : Res := .next (s.vecArith e 1 f true (fun m a b _ => fMax m a b))

/-- VSQRT. -/
def execVsqrt (e : Fin 4) (f : VecF) (s : State) : Res := .next (s.vecArith e 8 f false (fun m a _ _ => fSqrt m a))

/-- VRINT. -/
def execVrint (e : Fin 4) (f : VecF) (s : State) : Res := .next (s.vecArith e 1 f false (fun m a _ _ => fRint (fIntModeOf m) m a))

/-- VCVTI. -/
def execVcvti (e : Fin 4) (f : VecF) (s : State) : Res := .next (s.vecArith e 1 f false (fun m a _ _ => fCvtI m a))

/-- VCVTF. -/
def execVcvtf (e : Fin 4) (f : VecF) (s : State) : Res := .next (s.vecArith e 1 f false (fun m a _ _ => fCvtF m a))

/-- VABS. -/
def execVabs (e : Fin 4) (f : VecF) (s : State) : Res :=
  .next (s.vecQuiet e f false (fun c i => fAbs (c.lane f.va i)))

/-- VNEG. -/
def execVneg (e : Fin 4) (f : VecF) (s : State) : Res :=
  .next (s.vecQuiet e f false (fun c i => fNeg (c.lane f.va i)))

/-- VCPSGN. -/
def execVcpsgn (e : Fin 4) (f : VecF) (s : State) : Res :=
  .next (s.vecQuiet e f true (fun c i => fCopySign (c.lane f.va i) (c.operandB f i)))

/-- VMOV. -/
def execVmov (e : Fin 4) (f : VecF) (s : State) : Res :=
  .next (s.vecQuiet e f true (fun c i => f.imm.getD (c.lane f.va i)))

/-- VSEL. -/
def execVsel (e : Fin 4) (f : VecF) (s : State) : Res :=
  .next (s.vecQuiet e f false (fun c i => if (c.k.get (bits f.vc 2 0)).getLsbD i then c.lane f.va i else c.lane f.vb i))

/-- VAND. -/
def execVand (e : Fin 4) (f : VecF) (s : State) : Res :=
  .next (s.vecQuiet e f false (fun c i => c.lane f.va i &&& c.lane f.vb i))

/-- VOR. -/
def execVor (e : Fin 4) (f : VecF) (s : State) : Res :=
  .next (s.vecQuiet e f false (fun c i => c.lane f.va i ||| c.lane f.vb i))

/-- VXOR. -/
def execVxor (e : Fin 4) (f : VecF) (s : State) : Res :=
  .next (s.vecQuiet e f false (fun c i => c.lane f.va i ^^^ c.lane f.vb i))

/-- VSLIDEUP. -/
def execVslideup (e : Fin 4) (f : VecF) (s : State) : Res :=
  .next (s.vecQuiet e f false (fun c i =>
    let n := f.vc.toNat
    if n ≤ i then c.lane f.va (i - n) else c.lane f.vb (32 - n + i)))

/-- VSLIDEDN. -/
def execVslidedn (e : Fin 4) (f : VecF) (s : State) : Res :=
  .next (s.vecQuiet e f false (fun c i =>
    let n := f.vc.toNat
    if i + n < 32 then c.lane f.va (i + n) else c.lane f.vb (i + n - 32)))

/-- VLANEID. -/
def execVlaneid (e : Fin 4) (f : VecF) (s : State) : Res :=
  .next (s.vecQuiet e f false (fun _ i => (fOfInt gMode i).1))

/-- A compare (R212, R248): a bit of mask kd for each lane, 0 for an inactive one; vd[4:3] has to be 0. -/
def State.vecCompare (s : State) (e : Nat) (f : VecF) (cmp : FCmp) : State :=
  s.issueCtx e 1 (fun c =>
    if vecFormOk f true && bits f.vd 4 3 == 0 then
      let r : Bank (Bool × FFlags) 32 := Bank.make 32 (fun i => fCompare cmp c.mode (c.lane f.va i) (c.operandB f i))
      let lf (i : Nat) : FFlags := if c.active f.km i then (r.get i).2 else 0#6
      let m := maskOf (fun i => c.active f.km i && (r.get i).1)
      .done (({ c with k := c.k.put f.vd.toNat m }).noteLanes lf |>.skip (vecSize f)) (orFlags (fun _ => true) lf)
    else .illegal)

/-- VCMPEQ. -/
def execVcmpeq (e : Fin 4) (f : VecF) (s : State) : Res := .next (s.vecCompare e f .eq)

/-- VCMPLT. -/
def execVcmplt (e : Fin 4) (f : VecF) (s : State) : Res := .next (s.vecCompare e f .lt)

/-- VCMPLE. -/
def execVcmple (e : Fin 4) (f : VecF) (s : State) : Res := .next (s.vecCompare e f .le)

/-- VCMPUN. -/
def execVcmpun (e : Fin 4) (f : VecF) (s : State) : Res := .next (s.vecCompare e f .un)

/-- VCOMPRESS: the active lanes of va packed into vd, the rest +0.0 (R214). -/
def execVcompress (e : Fin 4) (f : VecF) (s : State) : Res :=
  .next (s.issueCtx e 1 (fun c =>
    if vecFormOk f false then
      let l := (c.lanesOf f.km).map (c.lane f.va)
      .done (({ c with v := c.v.put f.vd.toNat (Bank.make 32 (fun i => l.getD i 0#32)) }).noteLanes (fun _ => 0#6) |>.skip 1) 0#6
    else .illegal))

/-- VEXPAND: each active lane takes the next lane of va (R214). -/
def execVexpand (e : Fin 4) (f : VecF) (s : State) : Res :=
  .next (s.vecQuiet e f false (fun c i => c.lane f.va ((c.lanesOf f.km).filter (fun j => decide (j < i))).length))

/-! ### Vector memory (R221) -/

/-- The address of lane i: base + 128 × offset + 4 i, or base + i × stride. -/
def Ctx.laneAddr (c : Ctx) (f : VMemF) (strided : Bool) (i : Nat) : Nat :=
  let base := c.reg f.base.toNat
  if strided then (base + w32 i * c.reg (bits f.field 12 8)).toNat
  else (base + ((f.field.signExtend 32) <<< 7) + w32 (4 * i)).toNat

/-- A vector load: every active lane, or nothing. -/
def State.vecLoad (s : State) (e : Nat) (f : VMemF) (strided : Bool) : State :=
  s.issue e 2 (fun s c =>
    let lanes := c.lanesOf f.km
    let addrs := lanes.map (c.laneAddr f strided)
    match s.enginePlaces e c.aqw.toNat addrs with
    | .fault x => (s, .trap 4 (w32 x))
    | .wait => (s, .wait)
    | .all l =>
      let r := s.engineLoads e l
      if r.2.2 then (r.1, (c.putLanes f.v f.km (fun i => r.2.1.getD (lanes.findIdx (· == i)) 0#32)).next)
      else (r.1, .trap 5 (w32 (addrs.getD r.2.1.length 0))))

/-- A vector store: every active lane, or nothing. -/
def State.vecStore (s : State) (e : Nat) (f : VMemF) (strided : Bool) : State :=
  s.issue e 2 (fun s c =>
    let lanes := c.lanesOf f.km
    match s.enginePlaces e c.aqw.toNat (lanes.map (c.laneAddr f strided)) with
    | .fault x => (s, .trap 4 (w32 x))
    | .wait => (s, .wait)
    | .all l => (s.engineStores e (l.zip (lanes.map (c.lane f.v))), c.next))

/-- VLD. -/
def execVld (e : Fin 4) (f : VMemF) (s : State) : Res := .next (s.vecLoad e f false)

/-- VST. -/
def execVst (e : Fin 4) (f : VMemF) (s : State) : Res := .next (s.vecStore e f false)

/-- VLDS. -/
def execVlds (e : Fin 4) (f : VMemF) (s : State) : Res := .next (s.vecLoad e f true)

/-- VSTS. -/
def execVsts (e : Fin 4) (f : VMemF) (s : State) : Res := .next (s.vecStore e f true)

/-! ### Tiles (R215, Table 5) -/

/-- Element (i, j) of tile m. -/
def Ctx.tile (c : Ctx) (m : BitVec 2) (i j : Nat) : F32 := ((c.m.get m.toNat).get i).get j

/-- The elements of tile m changed by f, row and column. -/
def Ctx.mapTile (c : Ctx) (m : BitVec 2) (f : Nat → Nat → F32 → F32) : Ctx :=
  { c with m := c.m.upd m.toNat (fun t => t.mapi (fun i row => row.mapi (fun j x => f i j x))) }

/-- TROWLD: row r takes va. -/
def execTrowld (e : Fin 4) (f : TileF) (s : State) : Res :=
  .next (s.issueCtx e 1 (fun c =>
    (c.mapTile f.mt (fun i j x => if i = f.r.toNat && c.active f.km j then c.lane f.va j else x)).next))

/-- TROWST: vd takes row r. -/
def execTrowst (e : Fin 4) (f : TileF) (s : State) : Res :=
  .next (s.issueCtx e 1 (fun c => (c.putLanes f.vd f.km (fun j => c.tile f.mt f.r.toNat j)).next))

/-- TCOLLD: column r takes va. -/
def execTcolld (e : Fin 4) (f : TileF) (s : State) : Res :=
  .next (s.issueCtx e 1 (fun c =>
    (c.mapTile f.mt (fun i j x => if j = f.r.toNat && c.active f.km i then c.lane f.va i else x)).next))

/-- TCOLST: vd takes column r. -/
def execTcolst (e : Fin 4) (f : TileF) (s : State) : Res :=
  .next (s.issueCtx e 1 (fun c => (c.putLanes f.vd f.km (fun i => c.tile f.mt i f.r.toNat)).next))

/-- TZERO: every element +0.0. -/
def execTzero (e : Fin 4) (f : TileF) (s : State) : Res :=
  .next (s.issueCtx e 1 (fun c => (c.mapTile f.mt (fun _ _ _ => 0#32)).next))

/-- TOUTER: Mt[i][j] takes va[i] × vb[j] + Mt[i][j] for active i and j; the flags of row i belong to lane i (R251). -/
def execTouter (e : Fin 4) (f : TileF) (s : State) : Res :=
  .next (s.issueCtx e 32 (fun c =>
    let r (i j : Nat) (x : F32) : FRes := fFma c.mode (c.lane f.va i) (c.lane f.vb j) x
    let on (i j : Nat) : Bool := c.active f.km i && c.active f.km j
    let lf (i : Nat) : FFlags := orFlags (on i) (fun j => (r i j (c.tile f.mt i j)).2)
    .done ((c.mapTile f.mt (fun i j x => if on i j then (r i j x).1 else x)).skip 1) (orFlags (fun _ => true) lf)))

/-! ### Reductions (R215) -/

/-- Which combination a reduction makes. -/
inductive Reduction where
  | sum | max | min
deriving DecidableEq, Repr

/-- An element of a reduction tree: none is an inactive one in a maximum or minimum. -/
abbrev RedElem := Option F32 × FFlags

/-- The operation of a reduction. -/
def Reduction.op (r : Reduction) (m : FMode) (x y : F32) : FRes :=
  match r with
  | .sum => fAdd m x y
  | .max => fMax m x y
  | .min => fMin m x y

/-- Two elements combined; an inactive one takes part as the other of its pair (R215). -/
def Reduction.pair (r : Reduction) (m : FMode) (a b : RedElem) : RedElem :=
  let both (x y : F32) : RedElem := (some (r.op m x y).1, (r.op m x y).2 ||| a.2 ||| b.2)
  match a.1, b.1 with
  | some x, some y => both x y
  | some x, none => both x x
  | none, some y => both y y
  | none, none => (none, a.2 ||| b.2)

/-- One level of the tree: elements 2m and 2m + 1 combined. -/
def Reduction.level (r : Reduction) (m : FMode) : List RedElem → List RedElem
  | a :: b :: rest => r.pair m a b :: Reduction.level r m rest
  | l => l

/-- An element as it enters the tree: an inactive one is +0.0 in a sum and absent otherwise (R215, R251). -/
def Reduction.leaf (r : Reduction) (active : Bool) (x : F32) : RedElem :=
  if active then (some x, 0#6)
  else match r with
    | .sum => (some 0#32, 0#6)
    | _ => (none, 0#6)

/-- The five levels of the tree over 32 elements. -/
def Reduction.tree (r : Reduction) (m : FMode) (active : Nat → Bool) (x : Nat → F32) : RedElem :=
  let l := (List.range 32).map (fun i => r.leaf (active i) (x i))
  let l5 := r.level m (r.level m (r.level m (r.level m (r.level m l))))
  l5.headD (none, 0#6)

/-- A tile reduction along rows or columns: active lane i of vd takes that of row i, or column i. -/
def State.tileReduce (s : State) (e : Nat) (f : TileF) (r : Reduction) (columns : Bool) : State :=
  s.issueCtx e 32 (fun c =>
    let res : Bank RedElem 32 := Bank.make 32 (fun i =>
      r.tree c.mode (fun j => c.active f.km j) (fun j => if columns then c.tile f.mt j i else c.tile f.mt i j))
    let lf (i : Nat) : FFlags := if c.active f.km i then (res.get i).2 else 0#6
    .done ((c.putLanes f.vd f.km (fun i => (res.get i).1.getD 0#32)).skip 1) (orFlags (fun _ => true) lf))

/-- A vector reduction into sequencer register vd; its flags belong to lane 0 (R251), and an inactive lane raises none (R211). The maximum of no lane at all is a free value
(DEDUCED, log entry 28). -/
def State.vecReduce (s : State) (e : Nat) (f : TileF) (r : Reduction) : State :=
  s.issue e 1 (fun s c =>
    let x := r.tree c.mode (fun i => c.active f.km i) (c.lane f.va)
    (if x.1.isNone then s.modFree (· + 1) else s,
      .done ((c.setReg f.vd.toNat (x.1.getD (Config.freeWord s.free))).skip 1) (if c.active f.km 0 then x.2 else 0#6)))

/-- RSUM rows. -/
def execRsumRows (e : Fin 4) (f : TileF) (s : State) : Res := .next (s.tileReduce e f .sum false)

/-- RSUM columns. -/
def execRsumColumns (e : Fin 4) (f : TileF) (s : State) : Res := .next (s.tileReduce e f .sum true)

/-- RMAX rows. -/
def execRmaxRows (e : Fin 4) (f : TileF) (s : State) : Res := .next (s.tileReduce e f .max false)

/-- RMAX columns. -/
def execRmaxColumns (e : Fin 4) (f : TileF) (s : State) : Res := .next (s.tileReduce e f .max true)

/-- RMIN rows. -/
def execRminRows (e : Fin 4) (f : TileF) (s : State) : Res := .next (s.tileReduce e f .min false)

/-- RMIN columns. -/
def execRminColumns (e : Fin 4) (f : TileF) (s : State) : Res := .next (s.tileReduce e f .min true)

/-- RSUMV. -/
def execRsumv (e : Fin 4) (f : TileF) (s : State) : Res := .next (s.vecReduce e f .sum)

/-- RMAXV. -/
def execRmaxv (e : Fin 4) (f : TileF) (s : State) : Res := .next (s.vecReduce e f .max)

/-! ### Masks and summaries (R216) -/

/-- A mask instruction that writes mask kd, bits [2:0] of rd. -/
def State.maskOp (s : State) (e : Nat) (f : MaskF) (g : Ctx → Word) : State :=
  s.issueCtx e 1 (fun c => ({ c with k := c.k.put (bits f.rd 2 0) (g c) }).next)

/-- A summary that writes sequencer register rd. -/
def State.summary (s : State) (e : Nat) (f : MaskF) (g : Ctx → Word) : State :=
  s.issueCtx e 1 (fun c => (c.setReg f.rd.toNat (g c)).next)

/-- Mask ka. -/
def Ctx.maskA (c : Ctx) (f : MaskF) : Word := c.k.get f.ka.toNat

/-- The active lanes that are set in ka. -/
def Ctx.setLanes (c : Ctx) (f : MaskF) : List Nat := (c.lanesOf f.km).filter (fun i => (c.maskA f).getLsbD i)

/-- KAND. -/
def execKand (e : Fin 4) (f : MaskF) (s : State) : Res := .next (s.maskOp e f (fun c => c.maskA f &&& c.k.get f.kb.toNat))

/-- KOR. -/
def execKor (e : Fin 4) (f : MaskF) (s : State) : Res := .next (s.maskOp e f (fun c => c.maskA f ||| c.k.get f.kb.toNat))

/-- KXOR. -/
def execKxor (e : Fin 4) (f : MaskF) (s : State) : Res := .next (s.maskOp e f (fun c => c.maskA f ^^^ c.k.get f.kb.toNat))

/-- KNOT. -/
def execKnot (e : Fin 4) (f : MaskF) (s : State) : Res := .next (s.maskOp e f (fun c => ~~~(c.maskA f)))

/-- KFROMY. -/
def execKfromy (e : Fin 4) (f : MaskF) (s : State) : Res := .next (s.maskOp e f (fun c => c.reg f.ra.toNat))

/-- KFLAG. -/
def execKflag (e : Fin 4) (f : MaskF) (s : State) : Res := .next (s.maskOp e f (fun c => maskOf (fun i => (c.laneFlags.get i).getLsbD f.ka.toNat)))

/-- YFROMK. -/
def execYfromk (e : Fin 4) (f : MaskF) (s : State) : Res := .next (s.summary e f (fun c => c.maskA f))

/-- SCNT. -/
def execScnt (e : Fin 4) (f : MaskF) (s : State) : Res := .next (s.summary e f (fun c => w32 (c.setLanes f).length))

/-- SANY. -/
def execSany (e : Fin 4) (f : MaskF) (s : State) : Res := .next (s.summary e f (fun c => boolWord (!(c.setLanes f).isEmpty)))

/-- SALL. -/
def execSall (e : Fin 4) (f : MaskF) (s : State) : Res := .next (s.summary e f (fun c => boolWord ((c.lanesOf f.km).all (fun i => (c.maskA f).getLsbD i))))

/-- SFIRST. -/
def execSfirst (e : Fin 4) (f : MaskF) (s : State) : Res := .next (s.summary e f (fun c => w32 ((c.setLanes f).headD 32)))

/-- VXTR. -/
def execVxtr (e : Fin 4) (f : MaskF) (s : State) : Res := .next (s.summary e f (fun c => c.lane f.va ((c.reg f.ra.toNat).toNat % 32)))

/-- VINS: lane (ra mod 32) of va takes register rd, while that lane is active. -/
def execVins (e : Fin 4) (f : MaskF) (s : State) : Res :=
  .next (s.issueCtx e 1 (fun c =>
    let i := (c.reg f.ra.toNat).toNat % 32
    (c.putLanes f.va f.km (fun j => if j = i then c.reg f.rd.toNat else c.lane f.va j)).next))

/-! ### Spore programs (R226, R227) -/

/-- The E registers of a lane with the flags raised so far. -/
structure SporeLane where
  regs : Bank F32 8
  flags : FFlags
deriving Repr, Inhabited

/-- SEL: a where d, flushed, is not 0.0, else b; a NaN d selects a; no flag but DI (R248). A NaN selected is delivered as dN (R245). -/
def fSel (m : FMode) (a b d : F32) : FRes :=
  let fa := fIn m a
  let fb := fIn m b
  let fd := fIn m d
  let r := if fIsZero fd.1 then fb.1 else fa.1
  (if fIsNaN r then fDefaultNaN else r, fa.2 ||| fb.2 ||| fd.2)

/-- The result of a micro-op (Table 9). -/
def microResult (m : FMode) (op : Nat) (a b d : F32) : FRes :=
  match op with
  | 0x01 => fAdd m a b
  | 0x02 => fSub m a b
  | 0x03 => fMul m a b
  | 0x04 => fFma m a b d
  | 0x05 => fMin m a b
  | 0x06 => fMax m a b
  | 0x07 => (fAbs a, 0#6)
  | 0x08 => (fNeg a, 0#6)
  | 0x09 => fSqrt m a
  | 0x0A => fDiv m a b
  | 0x0B => fRint .floor m a
  | 0x0C => let r := fCompare .lt m a b; (if r.1 then fOne else 0#32, r.2)
  | 0x0D => fSel m a b d
  | _ => (a, 0#6)

/-- One micro-op in one lane. -/
def SporeLane.run (l : SporeLane) (m : FMode) (o : MicroOp) : SporeLane :=
  let operand (k : Nat) : F32 := if k = 8 then o.imm else l.regs.get k
  let r := microResult m o.op (operand o.a) (operand o.b) (l.regs.get o.dest)
  { regs := l.regs.put o.dest r.1, flags := l.flags ||| r.2 }

/-- The micro-ops of a program of an engine: its place in the spore store and its length. -/
def Engine.program (x : Engine) (id : Nat) : Option (List MicroOp) :=
  (x.programs.find? (fun p => p.1 == id)).map (fun p => (List.range p.2.2).map (fun i => x.spore.get (p.2.1 + i)))

/-- The spore apply instruction. -/
def execSporeApply (e : Fin 4) (f : SporeF) (s : State) : Res :=
  let ops := (s.engine e).program f.pid.toNat
  .next (s.issueCtx e (match ops with | some l => l.length | none => 1) (fun c =>
    match ops with
    | none => .illegal
    | some l =>
      if f.zero ≠ 0#1 then .illegal
      else
        let start (i : Nat) : SporeLane :=
          { regs := Bank.make 8 (fun k => if k = 0 then c.lane f.va i else if k = 1 then c.lane f.vb i
              else if k = 2 then c.lane f.vc i else 0#32), flags := 0#6 }
        let r : Bank SporeLane 32 := Bank.make 32 (fun i => l.foldl (fun x o => x.run c.mode o) (start i))
        let lf (i : Nat) : FFlags := if c.active f.km i then (r.get i).flags else 0#6
        .done ((c.putLanes f.vd f.km (fun i => (r.get i).regs.get 0)).noteLanes lf |>.skip 1) (orFlags (fun _ => true) lf)))

end Sys2Proof.Machine
end

