-- ==== Sys2Proof/Machine/Dispatch.lean ====
section
/-! DEFINITION. The meaning of each command: one arm for each constructor of Instr. -/

namespace Sys2Proof.Machine

/-- What a command does to everything but the queue of commands. -/
def exec (i : Instr) (s : State) : Host.Outcome State Fault Refusal :=
  match i with
  | .porstNAssert => Sys2Proof.Machine.execPorstNAssert s
  | .startup boot xa xb aquiferMiB => Sys2Proof.Machine.execStartup boot xa xb aquiferMiB s
  | .xaTimeoutRestart => Sys2Proof.Machine.execXaTimeoutRestart s
  | .audioPllLock => Sys2Proof.Machine.execAudioPllLock s
  | .firstFrame x => Sys2Proof.Machine.execFirstFrame x s
  | .resetNAssert boot => Sys2Proof.Machine.execResetNAssert boot s
  | .stewardReset t v => Sys2Proof.Machine.execStewardReset t v s
  | .functionLevelReset fn => Sys2Proof.Machine.execFunctionLevelReset fn s
  | .pcieConfigRequest fn reg write => Sys2Proof.Machine.execPcieConfigRequest fn reg write s
  | .pcieMemoryRequest fn bar ofs req => Sys2Proof.Machine.execPcieMemoryRequest fn bar ofs req s
  | .poisonedWrite fn ofs => Sys2Proof.Machine.execPoisonedWrite fn ofs s
  | .bar2Write fn ofs data => Sys2Proof.Machine.execBar2Write fn ofs data s
  | .pcieLinkDown => Sys2Proof.Machine.execPcieLinkDown s
  | .pcieLinkUp => Sys2Proof.Machine.execPcieLinkUp s
  | .msixPendingSend fn vector => Sys2Proof.Machine.execMsixPendingSend fn vector s
  | .frameBoundary x => Sys2Proof.Machine.execFrameBoundary x s
  | .spoutNomajSafe => Sys2Proof.Machine.execSpoutNomajSafe s
  | .talkerPacketTx stream => Sys2Proof.Machine.execTalkerPacketTx stream s
  | .spawnCtrlStart t v => Sys2Proof.Machine.execSpawnCtrlStart t v s
  | .spawnDataWrite t v => Sys2Proof.Machine.execSpawnDataWrite t v s
  | .fullSpawnLoad src => Sys2Proof.Machine.execFullSpawnLoad src s
  | .spawnApplied => Sys2Proof.Machine.execSpawnApplied s
  | .spawnTenancy t => Sys2Proof.Machine.execSpawnTenancy t s
  | .respawnValidate n => Sys2Proof.Machine.execRespawnValidate n s
  | .respawnQuiesce n => Sys2Proof.Machine.execRespawnQuiesce n s
  | .respawnFadeEnd n => Sys2Proof.Machine.execRespawnFadeEnd n s
  | .respawnWrite n => Sys2Proof.Machine.execRespawnWrite n s
  | .respawnCommit n => Sys2Proof.Machine.execRespawnCommit n s
  | .clockTimeRead t => Sys2Proof.Machine.execClockTimeRead t s
  | .clockFrameRead t => Sys2Proof.Machine.execClockFrameRead t s
  | .trfdivWrite t n v => Sys2Proof.Machine.execTrfdivWrite t n v s
  | .trfdivApply n => Sys2Proof.Machine.execTrfdivApply n s
  | .mediaClockClamp => Sys2Proof.Machine.execMediaClockClamp s
  | .mediaClockLost => Sys2Proof.Machine.execMediaClockLost s
  | .mediaClockReturn => Sys2Proof.Machine.execMediaClockReturn s
  | .crystalLost x => Sys2Proof.Machine.execCrystalLost x s
  | .pllLockLoss p => Sys2Proof.Machine.execPllLockLoss p s
  | .crystalReturn x => Sys2Proof.Machine.execCrystalReturn x s
  | .dormantRequest t v => Sys2Proof.Machine.execDormantRequest t v s
  | .dormantEntryComplete => Sys2Proof.Machine.execDormantEntryComplete s
  | .wakeUartMatch n c => Sys2Proof.Machine.execWakeUartMatch n c s
  | .wakeAnyKey first second => Sys2Proof.Machine.execWakeAnyKey first second s
  | .wakeRtc => Sys2Proof.Machine.execWakeRtc s
  | .wakeUsbResume => Sys2Proof.Machine.execWakeUsbResume s
  | .wakeSensor code => Sys2Proof.Machine.execWakeSensor code s
  | .wakeNLow => Sys2Proof.Machine.execWakeNLow s
  | .wakePcie => Sys2Proof.Machine.execWakePcie s
  | .wakeComplete ecc x => Sys2Proof.Machine.execWakeComplete ecc x s
  | .tenancyHalt t n v => Sys2Proof.Machine.execTenancyHalt t n v s
  | .haltEnd n => Sys2Proof.Machine.execHaltEnd n s
  | .lifecycleTransition t v => Sys2Proof.Machine.execLifecycleTransition t v s
  | .keyHashFuse t v => Sys2Proof.Machine.execKeyHashFuse t v s
  | .fuseProgramDone verified => Sys2Proof.Machine.execFuseProgramDone verified s
  | .xspiRead f addr late => Sys2Proof.Machine.execXspiRead f addr late s
  | .xspiWrite f addr data => Sys2Proof.Machine.execXspiWrite f addr data s
  | .xspiStatus f => Sys2Proof.Machine.execXspiStatus f s
  | .setConfig f v => Sys2Proof.Machine.execSetConfig f v s
  | .interfaceReset f => Sys2Proof.Machine.execInterfaceReset f s
  | .eventAccept g => Sys2Proof.Machine.execEventAccept g s
  | .scheduledEventRelease n => Sys2Proof.Machine.execScheduledEventRelease n s
  | .foragerCommit p vote => Sys2Proof.Machine.execForagerCommit p vote s
  | .noteOn p => Sys2Proof.Machine.execNoteOn p s
  | .noteOff p => Sys2Proof.Machine.execNoteOff p s
  | .sustainChange p => Sys2Proof.Machine.execSustainChange p s
  | .channelController p => Sys2Proof.Machine.execChannelController p s
  | .perNoteManagement p => Sys2Proof.Machine.execPerNoteManagement p s
  | .allNotesOff p => Sys2Proof.Machine.execAllNotesOff p s
  | .allSoundOff p => Sys2Proof.Machine.execAllSoundOff p s
  | .resetAllControllers p => Sys2Proof.Machine.execResetAllControllers p s
  | .forPanicAllNotesOff t p => Sys2Proof.Machine.execForPanicAllNotesOff t p s
  | .forPanicAllSoundOff t p => Sys2Proof.Machine.execForPanicAllSoundOff t p s
  | .voiceEnd g slot => Sys2Proof.Machine.execVoiceEnd g slot s
  | .silenceEnd g slot => Sys2Proof.Machine.execSilenceEnd g slot s
  | .shadowFadeEnd g h => Sys2Proof.Machine.execShadowFadeEnd g h s
  | .cutEnd g => Sys2Proof.Machine.execCutEnd g s
  | .tickBoundary t structure_ => Sys2Proof.Machine.execTickBoundary t structure_ s
  | .mycArm t structure_ v => Sys2Proof.Machine.execMycArm t structure_ v s
  | .mycMacroWrite t m v => Sys2Proof.Machine.execMycMacroWrite t m v s
  | .mycGlfoRateWrite t g v => Sys2Proof.Machine.execMycGlfoRateWrite t g v s
  | .setMacro o => Sys2Proof.Machine.execSetMacro o s
  | .setBusGain o => Sys2Proof.Machine.execSetBusGain o s
  | .setRouteDepth o => Sys2Proof.Machine.execSetRouteDepth o s
  | .setBypass o => Sys2Proof.Machine.execSetBypass o s
  | .emitEvent o => Sys2Proof.Machine.execEmitEvent o s
  | .postHost o => Sys2Proof.Machine.execPostHost o s
  | .event w => Sys2Proof.Machine.execEvent w s
  | .wellPidxWrite t w v => Sys2Proof.Machine.execWellPidxWrite t w v s
  | .wellCidxWrite t w v => Sys2Proof.Machine.execWellCidxWrite t w v s
  | .completionPost handle => Sys2Proof.Machine.execCompletionPost handle s
  | .completionDrain t => Sys2Proof.Machine.execCompletionDrain t s
  | .qpCplPop t v => Sys2Proof.Machine.execQpCplPop t v s
  | .qpAbort t v => Sys2Proof.Machine.execQpAbort t v s
  | .cisternHandover t => Sys2Proof.Machine.execCisternHandover t s
  | .handoverCommit c => Sys2Proof.Machine.execHandoverCommit c s
  | .handoverWipeDone c => Sys2Proof.Machine.execHandoverWipeDone c s
  | .cisternWipe t => Sys2Proof.Machine.execCisternWipe t s
  | .cisternWipeDone handle => Sys2Proof.Machine.execCisternWipeDone handle s
  | .pumpBulk t => Sys2Proof.Machine.execPumpBulk t s
  | .sampleLoad t => Sys2Proof.Machine.execSampleLoad t s
  | .bulkDone handle => Sys2Proof.Machine.execBulkDone handle s
  | .calibrate t => Sys2Proof.Machine.execCalibrate t s
  | .ainCalMeasureEnd c mean => Sys2Proof.Machine.execAinCalMeasureEnd c mean s
  | .senCalMeasureEnd c => Sys2Proof.Machine.execSenCalMeasureEnd c s
  | .outputCalMeasureEnd handle o => Sys2Proof.Machine.execOutputCalMeasureEnd handle o s
  | .aquiferTrain t => Sys2Proof.Machine.execAquiferTrain t s
  | .truffleJob t => Sys2Proof.Machine.execTruffleJob t s
  | .sealKeyInstall t => Sys2Proof.Machine.execSealKeyInstall t s
  | .checkpoint t => Sys2Proof.Machine.execCheckpoint t s
  | .pairSync t => Sys2Proof.Machine.execPairSync t s
  | .pairSyncCommit => Sys2Proof.Machine.execPairSyncCommit s
  | .powerPark t => Sys2Proof.Machine.execPowerPark t s
  | .permitGrant => Sys2Proof.Machine.execPermitGrant s
  | .permitDeadline handle => Sys2Proof.Machine.execPermitDeadline handle s
  | .permitPoolUpdate => Sys2Proof.Machine.execPermitPoolUpdate s
  | .frameWindowOpen n => Sys2Proof.Machine.execFrameWindowOpen n s
  | .frameWindowClose n => Sys2Proof.Machine.execFrameWindowClose n s
  | .trfRestart t n v => Sys2Proof.Machine.execTrfRestart t n v s
  | .trfBypWrite t n hi v => Sys2Proof.Machine.execTrfBypWrite t n hi v s
  | .add e f => Sys2Proof.Machine.execAdd e f s
  | .sub e f => Sys2Proof.Machine.execSub e f s
  | .and e f => Sys2Proof.Machine.execAnd e f s
  | .or e f => Sys2Proof.Machine.execOr e f s
  | .xor e f => Sys2Proof.Machine.execXor e f s
  | .sll e f => Sys2Proof.Machine.execSll e f s
  | .srl e f => Sys2Proof.Machine.execSrl e f s
  | .sra e f => Sys2Proof.Machine.execSra e f s
  | .mul e f => Sys2Proof.Machine.execMul e f s
  | .mulhu e f => Sys2Proof.Machine.execMulhu e f s
  | .slt e f => Sys2Proof.Machine.execSlt e f s
  | .sltu e f => Sys2Proof.Machine.execSltu e f s
  | .movsr e f => Sys2Proof.Machine.execMovsr e f s
  | .movrs e f => Sys2Proof.Machine.execMovrs e f s
  | .jr e f => Sys2Proof.Machine.execJr e f s
  | .callr e f => Sys2Proof.Machine.execCallr e f s
  | .addi e f => Sys2Proof.Machine.execAddi e f s
  | .andi e f => Sys2Proof.Machine.execAndi e f s
  | .ori e f => Sys2Proof.Machine.execOri e f s
  | .xori e f => Sys2Proof.Machine.execXori e f s
  | .slli e f => Sys2Proof.Machine.execSlli e f s
  | .srli e f => Sys2Proof.Machine.execSrli e f s
  | .srai e f => Sys2Proof.Machine.execSrai e f s
  | .slti e f => Sys2Proof.Machine.execSlti e f s
  | .lui e f => Sys2Proof.Machine.execLui e f s
  | .ldw e f => Sys2Proof.Machine.execLdw e f s
  | .stw e f => Sys2Proof.Machine.execStw e f s
  | .beqz e f => Sys2Proof.Machine.execBeqz e f s
  | .bnez e f => Sys2Proof.Machine.execBnez e f s
  | .bltz e f => Sys2Proof.Machine.execBltz e f s
  | .bgez e f => Sys2Proof.Machine.execBgez e f s
  | .j e f => Sys2Proof.Machine.execJ e f s
  | .call e f => Sys2Proof.Machine.execCall e f s
  | .ret e f => Sys2Proof.Machine.execRet e f s
  | .trapi e f => Sys2Proof.Machine.execTrapi e f s
  | .tret e f => Sys2Proof.Machine.execTret e f s
  | .halt e f => Sys2Proof.Machine.execHalt e f s
  | .fret e f => Sys2Proof.Machine.execFret e f s
  | .signal e f => Sys2Proof.Machine.execSignal e f s
  | .nop e f => Sys2Proof.Machine.execNop e f s
  | .vadd e f => Sys2Proof.Machine.execVadd e f s
  | .vsub e f => Sys2Proof.Machine.execVsub e f s
  | .vmul e f => Sys2Proof.Machine.execVmul e f s
  | .vdiv e f => Sys2Proof.Machine.execVdiv e f s
  | .vfma e f => Sys2Proof.Machine.execVfma e f s
  | .vfms e f => Sys2Proof.Machine.execVfms e f s
  | .vfnma e f => Sys2Proof.Machine.execVfnma e f s
  | .vmin e f => Sys2Proof.Machine.execVmin e f s
  | .vmax e f => Sys2Proof.Machine.execVmax e f s
  | .vsqrt e f => Sys2Proof.Machine.execVsqrt e f s
  | .vabs e f => Sys2Proof.Machine.execVabs e f s
  | .vneg e f => Sys2Proof.Machine.execVneg e f s
  | .vcpsgn e f => Sys2Proof.Machine.execVcpsgn e f s
  | .vrint e f => Sys2Proof.Machine.execVrint e f s
  | .vcvti e f => Sys2Proof.Machine.execVcvti e f s
  | .vcvtf e f => Sys2Proof.Machine.execVcvtf e f s
  | .vmov e f => Sys2Proof.Machine.execVmov e f s
  | .vsel e f => Sys2Proof.Machine.execVsel e f s
  | .vand e f => Sys2Proof.Machine.execVand e f s
  | .vor e f => Sys2Proof.Machine.execVor e f s
  | .vxor e f => Sys2Proof.Machine.execVxor e f s
  | .vcmpeq e f => Sys2Proof.Machine.execVcmpeq e f s
  | .vcmplt e f => Sys2Proof.Machine.execVcmplt e f s
  | .vcmple e f => Sys2Proof.Machine.execVcmple e f s
  | .vcmpun e f => Sys2Proof.Machine.execVcmpun e f s
  | .vcompress e f => Sys2Proof.Machine.execVcompress e f s
  | .vexpand e f => Sys2Proof.Machine.execVexpand e f s
  | .vslideup e f => Sys2Proof.Machine.execVslideup e f s
  | .vslidedn e f => Sys2Proof.Machine.execVslidedn e f s
  | .vlaneid e f => Sys2Proof.Machine.execVlaneid e f s
  | .vld e f => Sys2Proof.Machine.execVld e f s
  | .vst e f => Sys2Proof.Machine.execVst e f s
  | .vlds e f => Sys2Proof.Machine.execVlds e f s
  | .vsts e f => Sys2Proof.Machine.execVsts e f s
  | .trowld e f => Sys2Proof.Machine.execTrowld e f s
  | .trowst e f => Sys2Proof.Machine.execTrowst e f s
  | .tcolld e f => Sys2Proof.Machine.execTcolld e f s
  | .tcolst e f => Sys2Proof.Machine.execTcolst e f s
  | .tzero e f => Sys2Proof.Machine.execTzero e f s
  | .touter e f => Sys2Proof.Machine.execTouter e f s
  | .rsumRows e f => Sys2Proof.Machine.execRsumRows e f s
  | .rsumColumns e f => Sys2Proof.Machine.execRsumColumns e f s
  | .rmaxRows e f => Sys2Proof.Machine.execRmaxRows e f s
  | .rmaxColumns e f => Sys2Proof.Machine.execRmaxColumns e f s
  | .rminRows e f => Sys2Proof.Machine.execRminRows e f s
  | .rminColumns e f => Sys2Proof.Machine.execRminColumns e f s
  | .rsumv e f => Sys2Proof.Machine.execRsumv e f s
  | .rmaxv e f => Sys2Proof.Machine.execRmaxv e f s
  | .kand e f => Sys2Proof.Machine.execKand e f s
  | .kor e f => Sys2Proof.Machine.execKor e f s
  | .kxor e f => Sys2Proof.Machine.execKxor e f s
  | .knot e f => Sys2Proof.Machine.execKnot e f s
  | .kfromy e f => Sys2Proof.Machine.execKfromy e f s
  | .yfromk e f => Sys2Proof.Machine.execYfromk e f s
  | .kflag e f => Sys2Proof.Machine.execKflag e f s
  | .scnt e f => Sys2Proof.Machine.execScnt e f s
  | .sany e f => Sys2Proof.Machine.execSany e f s
  | .sall e f => Sys2Proof.Machine.execSall e f s
  | .sfirst e f => Sys2Proof.Machine.execSfirst e f s
  | .vxtr e f => Sys2Proof.Machine.execVxtr e f s
  | .vins e f => Sys2Proof.Machine.execVins e f s
  | .sporeApply e f => Sys2Proof.Machine.execSporeApply e f s
  | .directoryGets e addr => Sys2Proof.Machine.execDirectoryGets e addr s
  | .directoryGetm e addr => Sys2Proof.Machine.execDirectoryGetm e addr s
  | .directoryPutm e addr => Sys2Proof.Machine.execDirectoryPutm e addr s
  | .pumpCoherentRead p addr => Sys2Proof.Machine.execPumpCoherentRead p addr s
  | .pumpCoherentWrite p addr data => Sys2Proof.Machine.execPumpCoherentWrite p addr data s
  | .scrubCycle => Sys2Proof.Machine.execScrubCycle s
  | .cisReleaseWrite t c v => Sys2Proof.Machine.execCisReleaseWrite t c v s
  | .tamper => Sys2Proof.Machine.execTamper s
  | .sealedWipeDone => Sys2Proof.Machine.execSealedWipeDone s
  | .aquiferRefresh patrol trainOk => Sys2Proof.Machine.execAquiferRefresh patrol trainOk s
  | .zqCalibration => Sys2Proof.Machine.execZqCalibration s
  | .dqsDriftCheck => Sys2Proof.Machine.execDqsDriftCheck s
  | .aqCtrlWrite t v => Sys2Proof.Machine.execAqCtrlWrite t v s
  | .pumpStreamFill p => Sys2Proof.Machine.execPumpStreamFill p s
  | .streamContextWaitEnd p => Sys2Proof.Machine.execStreamContextWaitEnd p s
  | .puFlush t p v => Sys2Proof.Machine.execPuFlush t p v s
  | .ainSample c raw => Sys2Proof.Machine.execAinSample c raw s
  | .senConversion c code => Sys2Proof.Machine.execSenConversion c code s
  | .supConversion c code => Sys2Proof.Machine.execSupConversion c code s
  | .modReset c => Sys2Proof.Machine.execModReset c s
  | .dcFreezeExpire c => Sys2Proof.Machine.execDcFreezeExpire c s
  | .fcPhaseWrite t c v => Sys2Proof.Machine.execFcPhaseWrite t c v s
  | .fcTrigWrite t c v => Sys2Proof.Machine.execFcTrigWrite t c v s
  | .swtrig t c v => Sys2Proof.Machine.execSwtrig t c v s
  | .fcFreezeWrite t c v => Sys2Proof.Machine.execFcFreezeWrite t c v s
  | .driftStep spareOffset => Sys2Proof.Machine.execDriftStep spareOffset s
  | .spBgainWrite t b v => Sys2Proof.Machine.execSpBgainWrite t b v s
  | .cvDataWrite t h k v => Sys2Proof.Machine.execCvDataWrite t h k v s
  | .cvStrobeLatch h => Sys2Proof.Machine.execCvStrobeLatch h s
  | .ldacNFall => Sys2Proof.Machine.execLdacNFall s
  | .cvStrobeWrite t h v => Sys2Proof.Machine.execCvStrobeWrite t h v s
  | .cvSeqStep t h v => Sys2Proof.Machine.execCvSeqStep t h v s
  | .aoutPrechargeDone g => Sys2Proof.Machine.execAoutPrechargeDone g s
  | .sapCtrlWrite t p v => Sys2Proof.Machine.execSapCtrlWrite t p v s
  | .sapCfgWrite t p v => Sys2Proof.Machine.execSapCfgWrite t p v s
  | .sapSlip p late => Sys2Proof.Machine.execSapSlip p late s
  | .sapNoclk p => Sys2Proof.Machine.execSapNoclk p s
  | .phyPoll p reg1 clockGood gigabit => Sys2Proof.Machine.execPhyPoll p reg1 clockGood gigabit s
  | .netMdioCmd t v answer => Sys2Proof.Machine.execNetMdioCmd t v answer s
  | .rxFrame p fr => Sys2Proof.Machine.execRxFrame p fr s
  | .gptpSync p m => Sys2Proof.Machine.execGptpSync p m s
  | .gptpFollowUp p m => Sys2Proof.Machine.execGptpFollowUp p m s
  | .gptpAnnounce p m => Sys2Proof.Machine.execGptpAnnounce p m s
  | .gptpPdelay p m => Sys2Proof.Machine.execGptpPdelay p m s
  | .gptpSyncTx p => Sys2Proof.Machine.execGptpSyncTx p s
  | .gptpAnnounceTx p => Sys2Proof.Machine.execGptpAnnounceTx p s
  | .gptpSyncTimeout p => Sys2Proof.Machine.execGptpSyncTimeout p s
  | .listenerPacket x m => Sys2Proof.Machine.execListenerPacket x m s
  | .crfPduRx m => Sys2Proof.Machine.execCrfPduRx m s
  | .crfTimeout => Sys2Proof.Machine.execCrfTimeout s
  | .crfPduTx => Sys2Proof.Machine.execCrfPduTx s
  | .pktWellTx w => Sys2Proof.Machine.execPktWellTx w s
  | .usbVbusChange level => Sys2Proof.Machine.execUsbVbusChange level s
  | .usbBusReset highSpeed => Sys2Proof.Machine.execUsbBusReset highSpeed s
  | .usbSuspend => Sys2Proof.Machine.execUsbSuspend s
  | .usbResume => Sys2Proof.Machine.execUsbResume s
  | .getDescriptor r => Sys2Proof.Machine.execGetDescriptor r s
  | .setAddress r => Sys2Proof.Machine.execSetAddress r s
  | .setConfiguration r => Sys2Proof.Machine.execSetConfiguration r s
  | .getConfiguration r => Sys2Proof.Machine.execGetConfiguration r s
  | .setInterface r => Sys2Proof.Machine.execSetInterface r s
  | .getInterface r => Sys2Proof.Machine.execGetInterface r s
  | .getStatus r => Sys2Proof.Machine.execGetStatus r s
  | .setFeature r => Sys2Proof.Machine.execSetFeature r s
  | .clearFeature r => Sys2Proof.Machine.execClearFeature r s
  | .usbUnsupportedRequest r => Sys2Proof.Machine.execUsbUnsupportedRequest r s
  | .usbOutData data => Sys2Proof.Machine.execUsbOutData data s
  | .usbTxdataWrite t n v => Sys2Proof.Machine.execUsbTxdataWrite t n v s
  | .usbInSend => Sys2Proof.Machine.execUsbInSend s
  | .usbCtrlWrite t v => Sys2Proof.Machine.execUsbCtrlWrite t v s
  | .timerTick u k => Sys2Proof.Machine.execTimerTick u k s
  | .captureEdge u k level => Sys2Proof.Machine.execCaptureEdge u k level s
  | .tuCmpWrite t u k v => Sys2Proof.Machine.execTuCmpWrite t u k v s
  | .tuCtrlWrite t u k v => Sys2Proof.Machine.execTuCtrlWrite t u k v s
  | .timerStart => Sys2Proof.Machine.execTimerStart s
  | .keybedSlotSample slot sense => Sys2Proof.Machine.execKeybedSlotSample slot sense s
  | .uartRxChar n c => Sys2Proof.Machine.execUartRxChar n c s
  | .uartRxIdle n => Sys2Proof.Machine.execUartRxIdle n s
  | .uartRxRead t n => Sys2Proof.Machine.execUartRxRead t n s
  | .uartTxWrite t n v => Sys2Proof.Machine.execUartTxWrite t n v s
  | .uartTxChar n error => Sys2Proof.Machine.execUartTxChar n error s
  | .uCtrlWrite t n v => Sys2Proof.Machine.execUCtrlWrite t n v s
  | .uFmtWrite t n card v => Sys2Proof.Machine.execUFmtWrite t n card v s
  | .i2cCmdWrite t c v => Sys2Proof.Machine.execI2cCmdWrite t c v s
  | .i2cDataWrite t c v => Sys2Proof.Machine.execI2cDataWrite t c v s
  | .i2cDataRead t c => Sys2Proof.Machine.execI2cDataRead t c s
  | .i2cEnable t c v bus => Sys2Proof.Machine.execI2cEnable t c v bus s
  | .i2cEntryDone c r => Sys2Proof.Machine.execI2cEntryDone c r s
  | .i2cTimeout c bus => Sys2Proof.Machine.execI2cTimeout c bus s
  | .flCtrlWrite t v => Sys2Proof.Machine.execFlCtrlWrite t v s
  | .flRaddrWrite t v => Sys2Proof.Machine.execFlRaddrWrite t v s
  | .flReadDone data => Sys2Proof.Machine.execFlReadDone data s
  | .tmonSample r => Sys2Proof.Machine.execTmonSample r s
  | .capStep => Sys2Proof.Machine.execCapStep s
  | .vmonSample v => Sys2Proof.Machine.execVmonSample v s
  | .railCauseClear => Sys2Proof.Machine.execRailCauseClear s
  | .pmonSample v => Sys2Proof.Machine.execPmonSample v s
  | .supWindowEnd c => Sys2Proof.Machine.execSupWindowEnd c s
  | .supDetectorHoldoffEnd c d => Sys2Proof.Machine.execSupDetectorHoldoffEnd c d s
  | .pfailAssert => Sys2Proof.Machine.execPfailAssert s
  | .pfailRelease => Sys2Proof.Machine.execPfailRelease s
  | .parkStart => Sys2Proof.Machine.execParkStart s
  | .parkFadeEnd => Sys2Proof.Machine.execParkFadeEnd s
  | .parkComplete => Sys2Proof.Machine.execParkComplete s
  | .supCtrlUnpark t v => Sys2Proof.Machine.execSupCtrlUnpark t v s
  | .unpark => Sys2Proof.Machine.execUnpark s
  | .adederLinkUp digest => Sys2Proof.Machine.execAdederLinkUp digest s
  | .adederLinkDown => Sys2Proof.Machine.execAdederLinkDown s
  | .framePacket m => Sys2Proof.Machine.execFramePacket m s
  | .samplePacket m => Sys2Proof.Machine.execSamplePacket m s
  | .eventPacket m => Sys2Proof.Machine.execEventPacket m s
  | .revertPacket m => Sys2Proof.Machine.execRevertPacket m s
  | .syncPacket m => Sys2Proof.Machine.execSyncPacket m s
  | .mirrorPacket m => Sys2Proof.Machine.execMirrorPacket m s
  | .idlePacket => Sys2Proof.Machine.execIdlePacket s
  | .spFramePulse => Sys2Proof.Machine.execSpFramePulse s
  | .spOwnInRise => Sys2Proof.Machine.execSpOwnInRise s
  | .oeSet => Sys2Proof.Machine.execOeSet s
  | .refereeEvaluate x => Sys2Proof.Machine.execRefereeEvaluate x s
  | .evsCfgWrite t x v => Sys2Proof.Machine.execEvsCfgWrite t x v s
  | .evsPendWrite t k v => Sys2Proof.Machine.execEvsPendWrite t k v s
  | .evtOutPulseEnd p => Sys2Proof.Machine.execEvtOutPulseEnd p s
  | .pcSnap t n v => Sys2Proof.Machine.execPcSnap t n v s
  | .pcClear t n v => Sys2Proof.Machine.execPcClear t n v s
  | .tracePacketEmit => Sys2Proof.Machine.execTracePacketEmit s
  | .tapIdcode => Sys2Proof.Machine.execTapIdcode s
  | .tapSample levels => Sys2Proof.Machine.execTapSample levels s
  | .tapBypass => Sys2Proof.Machine.execTapBypass s
  | .rcRead t ofs => Sys2Proof.Machine.execRcRead t ofs s
  | .registerWrite t ofs v => Sys2Proof.Machine.execRegisterWrite t ofs v s
  | .ainCoarseSample c code => Sys2Proof.Machine.execAinCoarseSample c code s
  | .spFrameMissing => Sys2Proof.Machine.execSpFrameMissing s
  | .sapFsReturn p => Sys2Proof.Machine.execSapFsReturn p s
  | .tamperRelease => Sys2Proof.Machine.execTamperRelease s

end Sys2Proof.Machine
end

