-- ==== Sys2Proof/Machine/TruffleWords.lean ====
section
/-! DEFINITION. The words of a Truffle program (R210, Tables 2, 3, 5, 6a and 7 of chapter 09): which instruction a word of an engine's code
store is. A reserved opcode is none. The opcodes of the vector memory class are not stated; this model takes the order in which R221 names
the four (PRESUMED, log entry 34). -/

namespace Sys2Proof.Machine

/-- Bits [hi:lo] of a word as a field of n bits. -/
def field (n : Nat) (w : Word) (lo : Nat) : BitVec n := w.extractLsb' lo n

/-- The fields of the sequencer register form. -/
def regFields (w : Word) : RegF := { rd := field 5 w 19, rs1 := field 5 w 14, rs2 := field 5 w 9, zero := field 9 w 0 }

/-- The fields of the sequencer immediate form. -/
def immFields (w : Word) : ImmF := { rd := field 5 w 19, rs1 := field 5 w 14, imm := field 14 w 0 }

/-- The fields of LUI, J and CALL. -/
def longFields (w : Word) : LongF := { rd := field 5 w 19, imm := field 19 w 0 }

/-- The fields of the vector forms, with the immediate word of the immediate form. -/
def vecFields (w : Word) (imm : Option Word) : VecF :=
  { imm := imm, vd := field 5 w 18, va := field 5 w 13, vb := field 5 w 8, vc := field 5 w 3, km := field 3 w 0 }

/-- The fields of the vector memory form. -/
def vmemFields (w : Word) : VMemF := { v := field 5 w 21, base := field 5 w 16, field := field 13 w 3, km := field 3 w 0 }

/-- The fields of the tile and reduction form. -/
def tileFields (w : Word) : TileF :=
  { mt := field 2 w 23, vd := field 5 w 18, va := field 5 w 13, vb := field 5 w 8, r := field 5 w 3, km := field 3 w 0 }

/-- The fields of the mask and summary form. -/
def maskFields (w : Word) : MaskF :=
  { rd := field 5 w 19, ra := field 5 w 14, ka := field 3 w 11, kb := field 3 w 8, va := field 5 w 3, km := field 3 w 0 }

/-- The fields of the spore apply form. -/
def sporeFields (w : Word) : SporeF :=
  { pid := field 5 w 24, vd := field 5 w 19, va := field 5 w 14, vb := field 5 w 9, vc := field 5 w 4, zero := field 1 w 3, km := field 3 w 0 }

/-- Sequencer operations, register form. -/
def regOf (e : Fin 4) (op : Nat) (f : RegF) : Option Instr :=
  match op with
  | 0x00 => some (.add e f) | 0x01 => some (.sub e f) | 0x02 => some (.and e f) | 0x03 => some (.or e f)
  | 0x04 => some (.xor e f) | 0x05 => some (.sll e f) | 0x06 => some (.srl e f) | 0x07 => some (.sra e f)
  | 0x08 => some (.mul e f) | 0x09 => some (.mulhu e f) | 0x0A => some (.slt e f) | 0x0B => some (.sltu e f)
  | 0x10 => some (.movsr e f) | 0x11 => some (.movrs e f) | 0x18 => some (.jr e f) | 0x19 => some (.callr e f)
  | _ => none

/-- Sequencer operations, immediate form. -/
def immOf (e : Fin 4) (op : Nat) (f : ImmF) (g : LongF) : Option Instr :=
  match op with
  | 0x00 => some (.addi e f) | 0x02 => some (.andi e f) | 0x03 => some (.ori e f) | 0x04 => some (.xori e f)
  | 0x05 => some (.slli e f) | 0x06 => some (.srli e f) | 0x07 => some (.srai e f) | 0x0A => some (.slti e f)
  | 0x0C => some (.lui e g) | 0x0D => some (.ldw e f) | 0x0E => some (.stw e f)
  | 0x10 => some (.beqz e f) | 0x11 => some (.bnez e f) | 0x12 => some (.bltz e f) | 0x13 => some (.bgez e f)
  | 0x14 => some (.j e g) | 0x15 => some (.call e g) | 0x16 => some (.ret e f) | 0x17 => some (.trapi e f)
  | 0x18 => some (.tret e f) | 0x19 => some (.halt e f) | 0x1A => some (.fret e f) | 0x1B => some (.signal e f)
  | 0x1C => some (.nop e f)
  | _ => none

/-- Vector operations; the meanings refuse an immediate form that Table 3 does not mark. -/
def vecOf (e : Fin 4) (op : Nat) (f : VecF) : Option Instr :=
  match op with
  | 0x00 => some (.vadd e f) | 0x01 => some (.vsub e f) | 0x02 => some (.vmul e f) | 0x03 => some (.vdiv e f)
  | 0x04 => some (.vfma e f) | 0x05 => some (.vfms e f) | 0x06 => some (.vfnma e f) | 0x07 => some (.vmin e f)
  | 0x08 => some (.vmax e f) | 0x09 => some (.vsqrt e f) | 0x0A => some (.vabs e f) | 0x0B => some (.vneg e f)
  | 0x0C => some (.vcpsgn e f) | 0x0D => some (.vrint e f) | 0x0E => some (.vcvti e f) | 0x0F => some (.vcvtf e f)
  | 0x10 => some (.vmov e f) | 0x11 => some (.vsel e f) | 0x12 => some (.vand e f) | 0x13 => some (.vor e f)
  | 0x14 => some (.vxor e f) | 0x18 => some (.vcmpeq e f) | 0x19 => some (.vcmplt e f) | 0x1A => some (.vcmple e f)
  | 0x1B => some (.vcmpun e f) | 0x20 => some (.vcompress e f) | 0x21 => some (.vexpand e f)
  | 0x22 => some (.vslideup e f) | 0x23 => some (.vslidedn e f) | 0x24 => some (.vlaneid e f)
  | _ => none

/-- Vector memory operations (PRESUMED, log entry 34). -/
def vmemOf (e : Fin 4) (op : Nat) (f : VMemF) : Option Instr :=
  match op with
  | 0 => some (.vld e f) | 1 => some (.vst e f) | 2 => some (.vlds e f) | 3 => some (.vsts e f)
  | _ => none

/-- Tile and reduction operations. -/
def tileOf (e : Fin 4) (op : Nat) (f : TileF) : Option Instr :=
  match op with
  | 0x0 => some (.trowld e f) | 0x1 => some (.trowst e f) | 0x2 => some (.tcolld e f) | 0x3 => some (.tcolst e f)
  | 0x4 => some (.tzero e f) | 0x5 => some (.touter e f) | 0x8 => some (.rsumRows e f) | 0x9 => some (.rsumColumns e f)
  | 0xA => some (.rmaxRows e f) | 0xB => some (.rmaxColumns e f) | 0xC => some (.rminRows e f)
  | 0xD => some (.rminColumns e f) | 0xE => some (.rsumv e f) | 0xF => some (.rmaxv e f)
  | _ => none

/-- Mask and summary operations. -/
def maskOpOf (e : Fin 4) (op : Nat) (f : MaskF) : Option Instr :=
  match op with
  | 0x00 => some (.kand e f) | 0x01 => some (.kor e f) | 0x02 => some (.kxor e f) | 0x03 => some (.knot e f)
  | 0x04 => some (.kfromy e f) | 0x05 => some (.yfromk e f) | 0x06 => some (.kflag e f) | 0x08 => some (.scnt e f)
  | 0x09 => some (.sany e f) | 0x0A => some (.sall e f) | 0x0B => some (.sfirst e f) | 0x0C => some (.vxtr e f)
  | 0x0D => some (.vins e f)
  | _ => none

/-- The instruction of engine e that a word of its code store is; imm is the word after it, which only the vector immediate form takes, and
a fetch of it outside the code store is none. -/
def engineWord (e : Fin 4) (w : Word) (imm : Option Word) : Option Instr :=
  match bits w 31 29 with
  | 0 => regOf e (bits w 28 24) (regFields w)
  | 1 => immOf e (bits w 28 24) (immFields w) (longFields w)
  | 2 => vecOf e (bits w 28 23) (vecFields w none)
  | 3 => imm.bind (fun v => vecOf e (bits w 28 23) (vecFields w (some v)))
  | 4 => vmemOf e (bits w 28 26) (vmemFields w)
  | 5 => tileOf e (bits w 28 25) (tileFields w)
  | 6 => maskOpOf e (bits w 28 24) (maskFields w)
  | _ => some (.sporeApply e (sporeFields w))

end Sys2Proof.Machine
end

