-- ==== Sys2Proof/Machine/Tick.lean ====
section
/-! DEFINITION. What the block does by itself while no command waits (DESIGN CHOICE, log entry 3): its time counts, the trace port and the mirror queue send,
and each running Truffle engine issues the next instruction of its program (R72, R78, R209, R213, R278, R424). -/

namespace Sys2Proof.Machine

/-- Time by one tick: device time, or the AON counter while dormant. -/
def State.tickTime (s : State) : State :=
  match s.dev.phase with
  | .off | .aon => s
  | .dormantK | .dormantL => s.modTime (fun t => { t with aonCount := t.aonCount + 1#64 })
  | _ => s.modTime (fun t => { t with devTime := t.devTime + 1#64 })

/-- The instruction that engine e fetches at the PC of its running context. -/
def State.fetch (s : State) (e : Fin 4) : Option Instr :=
  let x := s.engine e
  let pc := x.ctx.pc
  if 4096 ≤ pc then none
  else engineWord e (x.code.get pc) (if pc + 1 < 4096 then some (x.code.get (pc + 1)) else none)

/-- One instruction of engine e: a word that is none traps ILLEGAL (R210). -/
def State.engineStep (s : State) (e : Fin 4) : State :=
  match s.fetch e with
  | none => s.issueCtx e 1 (fun _ => .trap 3 0#32)
  | some i => match exec i s with
    | .next s1 => s1
    | _ => s

/-- The mirror queue sent while this device forwards over a link (R278). -/
def State.mirrorStep (s : State) : State := if s.pair.link && s.pair.forwarder then s.mirrorFlush else s

/-- The engines, each by one instruction, while the device runs. What they ask of one line in this cycle is ordered by the directory's
pointer: the engine that it names goes first, then the following ones modulo 4 (R272). -/
def State.enginesStep (s : State) : State :=
  if s.dev.phase == .running then
    [0, 1, 2, 3].foldl (fun s k => s.engineStep (Fin.ofNat 4 (s.mem.pointer + k))) s
  else s

/-- One cycle of the block's own. -/
def State.idle (s : State) : State := s.tickTime.traceSend.mirrorStep.enginesStep

end Sys2Proof.Machine
end

