-- ==== Sys2Proof/Safety.lean ====
section
/-! DEFINITION. What counts as a safe step, and the parts of State by which a frame is stated. -/

namespace Sys2Proof.Machine

/-- The parts of State, one for each of its fields but the queue. -/
inductive Part where
  | dev | time | fuses | spawn | ten | deny | host | wells | qports | ops | front | pools | gills | myc | engines | mem | aq
  | pumps | filter | spout | sap | net | usb | timers | keybed | uarts | i2c | flash | windlass | supply | pair | evs | obs
  | outs | free
deriving DecidableEq, Repr

/-- Whether a part is the same in two states. -/
def Part.same (p : Part) (s t : State) : Prop :=
  match p with
  | .dev => t.dev = s.dev
  | .time => t.time = s.time
  | .fuses => t.fuses = s.fuses
  | .spawn => t.spawn = s.spawn
  | .ten => t.ten = s.ten
  | .deny => t.deny = s.deny
  | .host => t.host = s.host
  | .wells => t.wells = s.wells
  | .qports => t.qports = s.qports
  | .ops => t.ops = s.ops
  | .front => t.front = s.front
  | .pools => t.pools = s.pools
  | .gills => t.gills = s.gills
  | .myc => t.myc = s.myc
  | .engines => t.engines = s.engines
  | .mem => t.mem = s.mem
  | .aq => t.aq = s.aq
  | .pumps => t.pumps = s.pumps
  | .filter => t.filter = s.filter
  | .spout => t.spout = s.spout
  | .sap => t.sap = s.sap
  | .net => t.net = s.net
  | .usb => t.usb = s.usb
  | .timers => t.timers = s.timers
  | .keybed => t.keybed = s.keybed
  | .uarts => t.uarts = s.uarts
  | .i2c => t.i2c = s.i2c
  | .flash => t.flash = s.flash
  | .windlass => t.windlass = s.windlass
  | .supply => t.supply = s.supply
  | .pair => t.pair = s.pair
  | .evs => t.evs = s.evs
  | .obs => t.obs = s.obs
  | .outs => t.outs = s.outs
  | .free => t.free = s.free

/-- Two states differ at most in the parts listed, and the queue of commands is the same. -/
def keptBut (l : List Part) (s t : State) : Prop := t.pending = s.pending ∧ ∀ p : Part, p ∉ l → p.same s t

/-- Whether a step ended safely: in a next state. No command of this block stops it (DESIGN CHOICE, log entry 2). -/
def safeOutcome : Host.Outcome State Fault Refusal → Bool
  | .next _ => true
  | .fault _ => false
  | .refused _ => false

end Sys2Proof.Machine
end

