-- ==== Sys2Proof/WellFormed.lean ====
section
/-! DEFINITION. Which commands are well formed: the operands that an outside agent can hand over. A command whose operands no agent can form
(a request outside its window, a packet of another length, an engine word with a field marked 0 that is not) is ill formed. The meanings
stay total: an ill-formed engine word traps ILLEGAL as R210 states. -/

namespace Sys2Proof

/-- The bytes of a host window: 16 MiB of registers, 64 MiB of cisterns (R105). -/
def barBytes : Bar → Nat
  | .bar0 => 0x1000000
  | .bar2 => 0x4000000
  | .outside => 0

/-- Whether an offset falls in its window; a request outside both has none. -/
def barRange (b : Bar) (ofs : Nat) : Bool := b == .outside || decide (ofs < barBytes b)

/-- Whether a memory request carries 1 to 1,024 words, the most a PCIe request has. -/
def memReqOk : MemReq → Bool
  | .read n => decide (1 ≤ n) && decide (n ≤ 1024)
  | .write l => decide (1 ≤ l.length) && decide (l.length ≤ 1024)

/-- A boot-flash directory is 32 bytes (R55), and an image at most 16 MiB (R33). -/
def imageSourceOk : ImageSource → Bool
  | .host => true
  | .flash d a b =>
    (d.map (fun l => l.length == 8)).getD true && (a.map (fun l => decide (l.length ≤ 4194304))).getD true &&
      (b.map (fun l => decide (l.length ≤ 4194304))).getD true

/-- The bytes of 8 GiB of aquifer (R266). -/
def aquiferTop : Nat := 0x200000000

/-- The signal balls that the boundary scan sees (R428, chapter 19). -/
def signalBallCount : Nat := 411

/-- Whether a control request is the standard request of that code and direction (R343). -/
def usbIs (r : UsbSetup) (toHost : Bool) (code : Nat) : Bool :=
  r.requestType.getLsbD 7 == toHost && r.requestType.extractLsb' 5 2 == 0#2 && r.request.toNat == code

/-- Whether a control request is none of those the device answers (R343). -/
def usbUnsupported (r : UsbSetup) : Bool :=
  !([0, 6, 8, 10].any (usbIs r true) || [1, 3, 5, 9, 11].any (usbIs r false))

/-- Whether an I2C entry ended with at most 255 bytes (R369). -/
def i2cResultOk : I2cResult → Bool
  | .done l => decide (l.length ≤ 255)
  | .nack n => decide (n ≤ 255)
  | .arbLost => true

/-- A vector word: the immediate form only where Table 3 of chapter 09 marks one, with vb 0 (R210, R212). -/
def vecOk (f : VecF) (immOk : Bool) : Bool := f.imm.isNone || (immOk && f.vb == 0#5)

/-- Whether a command is well formed. -/
def Instr.wellFormed (c : Instr) : Bool :=
  match c with
  | .startup _ _ _ m => decide (m ≤ 8192)
  | .pcieMemoryRequest _ b ofs r => barRange b ofs && memReqOk r
  | .poisonedWrite _ ofs => barRange .bar0 ofs
  | .bar2Write _ ofs d => barRange .bar2 ofs && decide (0 < d.length) && decide (d.length ≤ 4096)
  | .fullSpawnLoad src => imageSourceOk src
  | .xspiRead f a l => (f.op == 0xE1#8) && (a.toNat % 4 == 0) && decide (0 < l.length)
  | .xspiWrite f a d => (f.op == 0xE2#8) && (a.toNat % 4 == 0) && decide (0 < d.length)
  | .xspiStatus f => f.op == 0xE5#8
  | .setConfig f _ => f.op == 0xE8#8
  | .interfaceReset f => f.op == 0xEF#8
  | .add _ f => f.zero == 0#9
  | .sub _ f => f.zero == 0#9
  | .and _ f => f.zero == 0#9
  | .or _ f => f.zero == 0#9
  | .xor _ f => f.zero == 0#9
  | .sll _ f => f.zero == 0#9
  | .srl _ f => f.zero == 0#9
  | .sra _ f => f.zero == 0#9
  | .mul _ f => f.zero == 0#9
  | .mulhu _ f => f.zero == 0#9
  | .slt _ f => f.zero == 0#9
  | .sltu _ f => f.zero == 0#9
  | .movsr _ f => f.zero == 0#9
  | .movrs _ f => f.zero == 0#9
  | .jr _ f => f.zero == 0#9
  | .callr _ f => f.zero == 0#9
  | .vadd _ f => vecOk f true
  | .vsub _ f => vecOk f true
  | .vmul _ f => vecOk f true
  | .vdiv _ f => vecOk f true
  | .vfma _ f => vecOk f true
  | .vfms _ f => vecOk f true
  | .vfnma _ f => vecOk f true
  | .vmin _ f => vecOk f true
  | .vmax _ f => vecOk f true
  | .vsqrt _ f => vecOk f false
  | .vabs _ f => vecOk f false
  | .vneg _ f => vecOk f false
  | .vcpsgn _ f => vecOk f true
  | .vrint _ f => vecOk f false
  | .vcvti _ f => vecOk f false
  | .vcvtf _ f => vecOk f false
  | .vmov _ f => vecOk f true
  | .vsel _ f => vecOk f false
  | .vand _ f => vecOk f false
  | .vor _ f => vecOk f false
  | .vxor _ f => vecOk f false
  | .vcmpeq _ f => vecOk f true
  | .vcmplt _ f => vecOk f true
  | .vcmple _ f => vecOk f true
  | .vcmpun _ f => vecOk f true
  | .vcompress _ f => vecOk f false
  | .vexpand _ f => vecOk f false
  | .vslideup _ f => vecOk f false
  | .vslidedn _ f => vecOk f false
  | .vlaneid _ f => vecOk f false
  | .sporeApply _ f => f.zero == 0#1
  | .directoryGets _ a => decide (a < aquiferTop)
  | .directoryGetm _ a => decide (a < aquiferTop)
  | .directoryPutm _ a => decide (a < aquiferTop)
  | .pumpCoherentRead _ a => decide (a < aquiferTop)
  | .pumpCoherentWrite _ a d => decide (a < aquiferTop) && decide (a % 64 + d.length ≤ 64)
  | .rxFrame _ fr => decide (14 ≤ fr.bytes.length)
  | .listenerPacket _ m => decide (m.channels ≤ 8)
  | .crfPduRx m => decide (0 < m.stamps.length)
  | .getDescriptor r => usbIs r true 6
  | .setAddress r => usbIs r false 5
  | .setConfiguration r => usbIs r false 9
  | .getConfiguration r => usbIs r true 8
  | .setInterface r => usbIs r false 11
  | .getInterface r => usbIs r true 10
  | .getStatus r => usbIs r true 0
  | .setFeature r => usbIs r false 3
  | .clearFeature r => usbIs r false 1
  | .usbUnsupportedRequest r => usbUnsupported r
  | .usbOutData l => decide (0 < l.length) && decide (l.length ≤ 128)
  | .uartRxChar _ _ => true
  | .i2cEntryDone _ r => i2cResultOk r
  | .tmonSample r => r.length == 12
  | .vmonSample v => v.length == 16
  | .pmonSample v => v.length == 8
  | .samplePacket m => m.words.length == 32
  | .eventPacket m => m.event.length == 4
  | .mirrorPacket m => (m.data.length == 64) && decide (m.ofs + 64 ≤ 2097152)
  | .tapSample l => l.length == signalBallCount
  | .rcRead _ ofs => barRange .bar0 ofs
  | .registerWrite _ ofs _ => barRange .bar0 ofs
  | .porstNAssert .. | .xaTimeoutRestart .. | .audioPllLock .. | .firstFrame .. | .resetNAssert .. | .stewardReset ..
  | .functionLevelReset .. | .pcieConfigRequest .. | .pcieLinkDown .. | .pcieLinkUp .. | .msixPendingSend .. | .frameBoundary ..
  | .spoutNomajSafe .. | .talkerPacketTx .. | .spawnCtrlStart .. | .spawnDataWrite .. | .spawnApplied .. | .spawnTenancy ..
  | .respawnValidate .. | .respawnQuiesce .. | .respawnFadeEnd .. | .respawnWrite .. | .respawnCommit .. | .clockTimeRead ..
  | .clockFrameRead .. | .trfdivWrite .. | .trfdivApply .. | .mediaClockClamp .. | .mediaClockLost .. | .mediaClockReturn ..
  | .crystalLost .. | .pllLockLoss .. | .crystalReturn .. | .dormantRequest .. | .dormantEntryComplete .. | .wakeUartMatch ..
  | .wakeAnyKey .. | .wakeRtc .. | .wakeUsbResume .. | .wakeSensor .. | .wakeNLow .. | .wakePcie ..
  | .wakeComplete .. | .tenancyHalt .. | .haltEnd .. | .lifecycleTransition .. | .keyHashFuse .. | .fuseProgramDone ..
  | .eventAccept .. | .scheduledEventRelease .. | .foragerCommit .. | .noteOn .. | .noteOff .. | .sustainChange ..
  | .channelController .. | .perNoteManagement .. | .allNotesOff .. | .allSoundOff .. | .resetAllControllers .. | .forPanicAllNotesOff ..
  | .forPanicAllSoundOff .. | .voiceEnd .. | .silenceEnd .. | .shadowFadeEnd .. | .cutEnd .. | .tickBoundary ..
  | .mycArm .. | .mycMacroWrite .. | .mycGlfoRateWrite .. | .setMacro .. | .setBusGain .. | .setRouteDepth ..
  | .setBypass .. | .emitEvent .. | .postHost .. | .event .. | .wellPidxWrite .. | .wellCidxWrite ..
  | .completionPost .. | .completionDrain .. | .qpCplPop .. | .qpAbort .. | .cisternHandover .. | .handoverCommit ..
  | .handoverWipeDone .. | .cisternWipe .. | .cisternWipeDone .. | .pumpBulk .. | .sampleLoad .. | .bulkDone ..
  | .calibrate .. | .ainCalMeasureEnd .. | .senCalMeasureEnd .. | .outputCalMeasureEnd .. | .aquiferTrain .. | .truffleJob ..
  | .sealKeyInstall .. | .checkpoint .. | .pairSync .. | .pairSyncCommit .. | .powerPark .. | .permitGrant ..
  | .permitDeadline .. | .permitPoolUpdate .. | .frameWindowOpen .. | .frameWindowClose .. | .trfRestart .. | .trfBypWrite ..
  | .addi .. | .andi .. | .ori .. | .xori .. | .slli .. | .srli ..
  | .srai .. | .slti .. | .lui .. | .ldw .. | .stw .. | .beqz ..
  | .bnez .. | .bltz .. | .bgez .. | .j .. | .call .. | .ret ..
  | .trapi .. | .tret .. | .halt .. | .fret .. | .signal .. | .nop ..
  | .vld .. | .vst .. | .vlds .. | .vsts .. | .trowld .. | .trowst ..
  | .tcolld .. | .tcolst .. | .tzero .. | .touter .. | .rsumRows .. | .rsumColumns ..
  | .rmaxRows .. | .rmaxColumns .. | .rminRows .. | .rminColumns .. | .rsumv .. | .rmaxv ..
  | .kand .. | .kor .. | .kxor .. | .knot .. | .kfromy .. | .yfromk ..
  | .kflag .. | .scnt .. | .sany .. | .sall .. | .sfirst .. | .vxtr ..
  | .vins .. | .scrubCycle .. | .cisReleaseWrite .. | .tamper .. | .sealedWipeDone .. | .aquiferRefresh ..
  | .zqCalibration .. | .dqsDriftCheck .. | .aqCtrlWrite .. | .pumpStreamFill .. | .streamContextWaitEnd .. | .puFlush ..
  | .ainSample .. | .senConversion .. | .supConversion .. | .modReset .. | .dcFreezeExpire .. | .fcPhaseWrite ..
  | .fcTrigWrite .. | .swtrig .. | .fcFreezeWrite .. | .driftStep .. | .spBgainWrite .. | .cvDataWrite ..
  | .cvStrobeLatch .. | .ldacNFall .. | .cvStrobeWrite .. | .cvSeqStep .. | .aoutPrechargeDone .. | .sapCtrlWrite ..
  | .sapCfgWrite .. | .sapSlip .. | .sapNoclk .. | .phyPoll .. | .netMdioCmd .. | .gptpSync ..
  | .gptpFollowUp .. | .gptpAnnounce .. | .gptpPdelay .. | .gptpSyncTx .. | .gptpAnnounceTx .. | .gptpSyncTimeout ..
  | .crfTimeout .. | .crfPduTx .. | .pktWellTx .. | .usbVbusChange .. | .usbBusReset .. | .usbSuspend ..
  | .usbResume .. | .usbTxdataWrite .. | .usbInSend .. | .usbCtrlWrite .. | .timerTick .. | .captureEdge ..
  | .tuCmpWrite .. | .tuCtrlWrite .. | .timerStart .. | .keybedSlotSample .. | .uartRxIdle .. | .uartRxRead ..
  | .uartTxWrite .. | .uartTxChar .. | .uCtrlWrite .. | .uFmtWrite .. | .i2cCmdWrite .. | .i2cDataWrite ..
  | .i2cDataRead .. | .i2cEnable .. | .i2cTimeout .. | .flCtrlWrite .. | .flRaddrWrite .. | .flReadDone ..
  | .capStep .. | .railCauseClear .. | .supWindowEnd .. | .supDetectorHoldoffEnd .. | .pfailAssert .. | .pfailRelease ..
  | .parkStart .. | .parkFadeEnd .. | .parkComplete .. | .supCtrlUnpark .. | .unpark .. | .adederLinkUp ..
  | .adederLinkDown .. | .framePacket .. | .revertPacket .. | .syncPacket .. | .idlePacket .. | .spFramePulse ..
  | .spOwnInRise .. | .oeSet .. | .refereeEvaluate .. | .evsCfgWrite .. | .evsPendWrite .. | .evtOutPulseEnd ..
  | .pcSnap .. | .pcClear .. | .tracePacketEmit .. | .tapIdcode .. | .tapBypass .. | .ainCoarseSample ..
  | .spFrameMissing .. | .sapFsReturn .. | .tamperRelease .. => true

end Sys2Proof
end

