-- ==== Sys2Proof/Certificates/Slice0/Obligations.lean ====
section
/-! DEFINITION. The statements for the provers, family by family. -/

open Sys2Proof Sys2Proof.Machine

namespace Sys2Proof.Machine.Claim

/-- Command c completes in s: exec answers a next state, and it is as P says. -/
def Does (c : Instr) (s : State) (P : State → Prop) : Prop := ∃ t, exec c s = .next t ∧ P t

/-- The parts that raising an event source may touch: the source and the wells, messages and pins it is routed to (R415 to R419), the
trace port (R424), and the pair's synchronisation, which a record in a MIRROR region costs where the mirror queue is full (R278). -/
def reporting : List Part := [.evs, .obs, .outs, .host, .wells, .mem, .pair]

/-- The parts that a register access may touch beside its own target: the write-combining buffer that it retires into the cisterns (R106), and
what a denied access counts and raises (R92). -/
def accessing : List Part := reporting ++ [.ten, .deny]

/-- Source i has its pending bit. -/
def pendingSource (s : State) (i : Nat) : Prop := (s.evs.src.get i).pend = true

/-- The three memories are in their canonical form. -/
def memoriesWf (s : State) : Prop := s.mem.cis.wf = true ∧ s.mem.aq.wf = true ∧ s.mem.sealedData.wf = true

/-- The transitions of Table 7 of chapter 01 that a command's trigger gives; STARTUP passes through AON, and a register write, however it
arrives, can be the steward's reset or START. -/
def triggers (c : Instr) : List (DevPhase × DevPhase) :=
  let all : List DevPhase := [.off, .aon, .loading, .unspawned, .running, .dormantK, .dormantL, .parked, .safe]
  let reset : List (DevPhase × DevPhase) := all.map (fun p => (p, .loading))
  match c with
  | .porstNAssert => all.map (fun p => (p, .off))
  | .startup .. => [(.off, .aon), (.off, .loading), (.aon, .loading)]
  | .resetNAssert _ | .stewardReset .. | .spawnCtrlStart .. | .registerWrite .. | .pcieMemoryRequest .. | .xspiWrite .. |
    .fuseProgramDone _ => reset
  | .fullSpawnLoad _ | .spawnApplied | .audioPllLock => [(.loading, .unspawned)]
  | .firstFrame _ => [(.loading, .running)]
  | .dormantEntryComplete => [(.running, .dormantK), (.running, .dormantL)]
  | .wakeComplete .. => [(.dormantK, .running), (.dormantL, .running), (.dormantK, .loading), (.dormantL, .loading)]
  | .parkComplete => [(.running, .parked)]
  | .unpark => [(.parked, .running)]
  | .frameBoundary _ | .spoutNomajSafe | .foragerCommit .. => [(.running, .safe), (.parked, .safe)]
  | _ => []

/-- What RESET_N and a steward reset leave alike (Table 6 of chapter 03): kind is the bit of CLOCK_RCAUSE. -/
def afterReset (s t : State) (kind : Nat) : Prop :=
  t.dev.phase = .loading ∧ t.dev.rcause = BitVec.ofNat 4 (if s.dev.phase = .safe then kind + 8 else kind) ∧
  (s.dev.phase.dormant = false → t.time.devTime = s.time.devTime) ∧ t.time.aonCount = s.time.aonCount ∧
  t.time.frameIdx = 0#64 ∧ t.dev.wakeEn = s.dev.wakeEn ∧ t.fuses.lc = s.fuses.lc ∧ t.fuses.keyHash = s.fuses.keyHash ∧
  t.spawn.active = AppliedCfg.empty ∧ t.spawn.pend = none ∧ t.mem.cis = [] ∧ t.mem.aq = [] ∧ t.mem.sealedData = [] ∧
  t.wells = State.reset.wells ∧ t.qports = State.reset.qports ∧ t.ops = [] ∧ t.pumps = State.reset.pumps ∧ t.host.wcb = [] ∧
  t.mem.mirrorQ = [] ∧ (s.aq.present = false → t.evs = EvsState.reset) ∧
  (∀ i < 1024, i ≠ 889 → t.evs.src.get i = EvsState.reset.src.get i) ∧ t.obs.perf = ObsState.reset.perf ∧ t.obs.fifo = [] ∧ t.spout = SpoutState.reset ∧
  t.pair.synced = false ∧ t.ten = State.reset.ten

/-- The host is served, and tenancy t does not see the register at ofs: no block lies there, or one that the state opens and that shows t
nothing at ofs (R91). TENANCY_LC_REQ, whose writes UNSPAWNED takes too (R98), is not meant. -/
def unseen (s : State) (t ofs : Nat) : Prop :=
  s.hostServed = true ∧ ofs % 4 = 0 ∧ ofs ≠ 0x2020C ∧ (blockOf ofs = none ∨
    ∃ b, blockOf ofs = some b ∧ s.opens b = true ∧ s.seen t = true ∧ s.sees b t ofs = false)

/-- What R92 says a denied access of tenancy t does to the state. -/
def deniedTo (s u : State) (t ofs : Nat) (write bar2 : Bool) : Prop :=
  (u.ten.get t).denied = errCount (s.ten.get t).denied 1 ∧ pendingSource u 1003 ∧
  u.deny = (if s.deny.valid then s.deny else
    { valid := true, ten := BitVec.ofNat 3 t, write := write, bar2 := bar2, ofs := w32 ofs }) ∧
  keptBut accessing s u

/-- The parts that the source of a full ingress may touch when it presents what it holds (R130). -/
def presenting : List Part := reporting ++ [.front, .keybed, .timers, .uarts]

/-- Nothing withholds an event of an ingress: the front is served, no park drops it, and the device renders for itself (R130, R401). -/
def accepts (s : State) : Prop := s.dev.phase.hosted = true ∧ s.parkDrops = false ∧ s.inPair = false

/-- What one routed copy does in t (R133, R136, R138): the route's hit and the event word at the end of the pool's lane. -/
def copied (s t : State) (x : NormEvent) (n : Nat) (r : RouteRec) (src : Byte) (time : DWord) (sched mirror : Bool) : Prop :=
  t.front.hits.get r.route = errCount (s.front.hits.get r.route) 1 ∧
  (∀ p < 32, p ≠ r.pool → t.pools.get p = s.pools.get p) ∧
  t.pools.get r.pool = { (s.pools.get r.pool) with lane := (s.pools.get r.pool).lane ++ [
    { time := time, sched := sched, src := src, ten := n, pool := r.pool, fold := r.fold && x.voice && x.channel != r.master,
      mirror := mirror, tapOnly := false, w0 := x.w0, w1 := x.w1, render := none }] } ∧
  keptBut (.pools :: .free :: presenting) s t

/-- A route whose copies go to its pool alone: no reflex rule and no tap of its tenancy. -/
def plainRoute (s : State) (n : Nat) (r : RouteRec) : Prop :=
  s.muted n = false ∧ r.pool < 32 ∧ r.route < 64 ∧ (s.tcfg n).reflex = [] ∧ (s.front.tap.get n).getLsbD 8 = false

/-- The oldest copy in pool p's lane is e, of kind k and due, and the pool is r of tenancy n. -/
def onTop (s : State) (p : Nat) (k : LaneKind) (n : Nat) (r : PoolRec) (e : EventWord) : Prop :=
  s.dev.phase = .running ∧ (s.pools.get p).lane.head? = some e ∧ s.poolRec p = some (n, r) ∧ e.kind = k ∧
    ∀ d, e.render = some d → d.toNat ≤ s.time.frameIdx.toNat + 1

/-- The lane of pool p without its oldest copy. -/
def offLane (s : State) (p : Nat) : State := s.modPools fun b => b.upd p fun x => { x with lane := x.lane.drop 1 }

/-- Every sounding or releasing voice of pool r for which q holds is changed by f in its slot, and every other slot of the block is as it was,
where nothing waits in the slot and the commit pipeline is empty. -/
def slotsChanged (s t : State) (p : Nat) (r : PoolRec) (q : Voice → Bool) (f : Voice → Voice) : Prop :=
  (s.pools.get p).claims = [] → (∀ g < 48, ∀ k < 16, (s.slot g k).next = none) → ∀ g < 48, ∀ k < 16,
    (t.slot g k).cur = (if (g, k) ∈ s.slotsOf r ∧ ((s.slot g k).cur.state = .sounding ∨ (s.slot g k).cur.state = .releasing) ∧
      q (s.slot g k).cur = true then f (s.slot g k).cur else (s.slot g k).cur)

/-- The host and the owner of pool p reach FOR_PANICp. -/
def panicOpen (s : State) (t p : Nat) : Prop := s.dev.phase = .running ∧ s.seen t = true ∧ s.poolOwner p = some t

/-- Every event source is masked, so that a rise only sets its pending bit. -/
def quiet (s : State) : Prop := ∀ i < 1024, (s.evs.src.get i).mask = true

/-- Tenancy t reaches its own registers in RUNNING. -/
def inRun (s : State) (t : Nat) : Prop := s.dev.phase = .running ∧ s.seen t = true

/-- A short command of opcode op waits at the origin, for tenancy n, and n runs it: what it leaves of the commands. -/
def taking : List Part := .qports :: reporting

/-- A short command that is ignored counts as dropped (reflex) or as an error of its CMD well (R115). -/
def ignored (s t : State) (o : ShortOrigin) (n : Nat) : Prop :=
  match o with
  | .reflex _ => (t.qports.get n).reflexDrop = errCount (s.qports.get n).reflexDrop 1
  | .well w => (t.wells.get w.val).cmdErr = errCount (s.wells.get w.val).cmdErr 1

/-- The operation h is in flight and is as P says. -/
def inFlight (s : State) (h : Word) (P : LongOp → Prop) : Prop := ∃ o, s.findOp h = some o ∧ P o

/-- An operation that has ended with a status. -/
def ended (o : LongOp) (status : BitVec 16) : Prop := ∃ c, o.done = some c ∧ c.status = status ∧ c.handle = o.handle

/-- Table 12 of chapter 05: the permit cost of an operation with its arguments; 0 needs none. -/
def costOf (s : State) (c : LongCode) (args : Bank Word 8) : Nat :=
  match c with
  | .spawnTenancy => 40 | .cisternHandover => if s.handoverWipes args then 20 else 0 | .cisternWipe => 20 | .pumpBulk => 8
  | .sampleLoad => 8 | .calibrate => 5 | .aquiferTrain => 15 | .truffleJob => 30 * 2 ^ bits (args.get 0) 9 8 | .pairSync => 8
  | .sealKeyInstall | .checkpoint | .powerPark => 0

/-- What an operation with a permit needs of its arguments and of the device to ask for it (Table 12 of chapter 05, R52, R232, R259, R260,
R265, R302, R410). -/
def wellPosed (s : State) (t : Nat) (c : LongCode) (args : Bank Word 8) : Prop :=
  match c with
  | .cisternWipe => (args.get 0).toNat % 64 = 0 ∧ (args.get 1).toNat % 64 = 0 ∧ s.ownsRange t (args.get 0).toNat (args.get 1).toNat = true
  | .pumpBulk | .sampleLoad => let a := bulkArgs c args
    a.pump < 32 ∧ a.src % 64 = 0 ∧ a.dst % 64 = 0 ∧ a.len % 64 = 0 ∧ s.pumpOwner a.pump = some t ∧
      ∀ k, a.slot = some k → k < 64 ∧ s.keyOwner k = some t
  | .aquiferTrain => True
  | .truffleJob => bits (args.get 0) 9 8 ≤ 2 ∧ (args.get 1).toNat < 4096 ∧ s.engineOwner (jobEngine args) = some t ∧
      s.jobHead (jobEngine args) = none
  | .calibrate => let a := calArgs args
    s.calOk a.1 a.2.1 a.2.2 = true ∧ s.calOwner a.1 a.2.1 = some t ∧ (a.1 = 0 → s.filter.spareFault = false) ∧
      (a.1 = 0 → ∀ c < 8, ∀ k, (s.chan c).cal = some k → k.handle = none) ∧
      ∀ o ∈ s.ops, o.code = .calibrate → o.done = none → calClash (calArgs o.args) a = false
  | .pairSync => s.pair.forwarder = true ∧ s.pair.link = true ∧ s.digestsAgree = true
  | .spawnTenancy => (args.get 0).toNat < 8 ∧ s.present (args.get 0).toNat = true ∧ (t = 0 ∨ t = (args.get 0).toNat) ∧
      s.ownsRange t (args.get 1).toNat (args.get 2).toNat = true
  | .cisternHandover => (args.get 0).toNat < 24 ∧ s.handoverBlocked (args.get 0).toNat = false ∧
      (∀ n, newOwner args = some n → s.present n = true) ∧ s.cisHolds (args.get 0).toNat = false ∧ (s.cisOwner (args.get 0).toNat = none ∨ s.cisOwner (args.get 0).toNat = some 0 ∨
        (s.mem.banks.get (args.get 0).toNat).release = true)
  | .sealKeyInstall | .checkpoint | .powerPark => False

/-- The rows that submit the long operations, by tenancy t. -/
def longRows (t : Fin 8) : List (Instr × LongCode) :=
  [(.spawnTenancy t, .spawnTenancy), (.cisternHandover t, .cisternHandover), (.cisternWipe t, .cisternWipe), (.pumpBulk t, .pumpBulk),
    (.sampleLoad t, .sampleLoad), (.calibrate t, .calibrate), (.aquiferTrain t, .aquiferTrain), (.truffleJob t, .truffleJob),
    (.sealKeyInstall t, .sealKeyInstall), (.checkpoint t, .checkpoint), (.pairSync t, .pairSync), (.powerPark t, .powerPark)]

/-- BUSY (R57, R96): the submitting tenancy respawns and has left WAIT_PERMIT, or opcode 1 names, in argument x, a tenancy that respawns or
is being halted. -/
def portBusy (s : State) (t op : Nat) (x : Word) : Prop :=
  (s.ten.get t).respawn.any (fun r => r.phase != .waitPermit) = true ∨
  (op = 1 ∧ x.toNat < 8 ∧ ((s.ten.get x.toNat).respawn.isSome = true ∨ (s.ten.get x.toNat).halt.isSome = true))

/-- No cause of Table 11 of chapter 05 stands against opcode op of tenancy t with argument x. -/
def noCause (s : State) (t op : Nat) (x : Word) : Prop :=
  1 ≤ op ∧ op ≤ 12 ∧ (s.spawned t = true ∨ op = 1) ∧ (op ∈ [2, 7, 11, 12] → t = 0) ∧ ¬ portBusy s t op x ∧
  (s.opsOf t).length < 4096 ∧ (s.opsOf t).length + (s.qports.get t).store.length < s.cplFree t + 64

/-- Tenancy t, in RUNNING, submits an operation of code c against which, once the buffered host stores have retired, no cause stands, under
a handle that no operation in flight has. -/
def accepted (s : State) (t : Nat) (c : LongCode) : Prop :=
  inRun s t ∧ noCause s.retireAll t c.opcode ((s.qports.get t).args.get 0) ∧ s.findOp (s.nextHandle t) = none

/-- The page of address va stands in pump p's translation cache, and va lies at byte x of the cisterns of tenancy t, writable if write. -/
def cachedAt (s : State) (p t va x : Nat) (write : Bool) : Prop :=
  va < 2 ^ 40 ∧ ∃ page phys w, (s.pumps.get p).cache.find? (fun c => c.1 == va / 65536) = some (page, phys, w) ∧
    (write = true → w = true) ∧ s.physOf t (phys + va % 65536) = .cis x ∧ s.cisHolds (x / cisBytes) = false

/-- Every line that an L1 holds has its 64 bytes. -/
def wholeLines (s : State) : Prop := ∀ x ∈ s.mem.l1, x.2.length = 64

/-- The directory entry and the data of a line. -/
def lineIs (s : State) (line : Nat) (e : Option DirState) (data : List Byte) : Prop :=
  s.mem.dirOf line = e ∧ s.mem.lineData line = data

/-- The aquifer leaves its refresh windows to the controller. -/
def aqAwake (s : State) : Prop := s.aq.selfRefresh = false ∧ s.aq.deepDown = false

/-- Engine e issues an instruction: it is not halted, a context runs, and its PC lies in the code store (R209, R210). -/
def ready (s : State) (e : Fin 4) : Prop :=
  (s.engine e).halted = false ∧ (s.engine e).run ≠ .idle ∧ (s.engine e).ctx.pc < 4096

/-- An instruction of engine e leaves c in its running context and changes nothing else but the cycles that count (R213). -/
def issued (s t : State) (e : Fin 4) (c : Ctx) : Prop :=
  t.engine e = { ((s.engine e).setCtx c) with cycles := (t.engine e).cycles } ∧ (∀ k < 4, k ≠ e.val → t.engine k = s.engine k) ∧
  keptBut [.engines, .obs] s t

/-- An instruction of engine e raises a trap of a cause and detail outside the trap window: the entry of R224. -/
def trapped (s t : State) (e : Fin 4) (cause : Nat) (detail : Word) : Prop :=
  issued s t e ((s.engine e).ctx.enterTrap cause detail (s.engine e).ctx.pc)

/-- An instruction of engine e ends with context c, which does not count its flags yet: they are ORed into STICKY, and a flag enabled in FTE takes
the trap FLAG after the instruction (R217, R254). -/
def finished (s t : State) (e : Fin 4) (c : Ctx) (fl : FFlags) : Prop :=
  let d := { c with sticky := c.sticky ||| fl }
  issued s t e (if fl &&& c.fte = 0#6 then d else d.enterTrap 6 (fl.setWidth 32) (s.engine e).ctx.pc)

/-- Vector registers w after those of c, of which the active lanes of register vd take g. -/
def lanesTake (c : Ctx) (w : Bank (Bank F32 32) 32) (vd : BitVec 5) (km : BitVec 3) (g : Nat → F32) : Prop :=
  (∀ i < 32, (w.get vd.toNat).get i = if c.active km i = true then g i else (c.v.get vd.toNat).get i) ∧
  ∀ k < 32, k ≠ vd.toNat → w.get k = c.v.get k

/-- Tile registers w after those of c, of which the elements of tile k for which on holds take g. -/
def tileTakes (c : Ctx) (w : Bank Tile 4) (k : BitVec 2) (on : Nat → Nat → Bool) (g : Nat → Nat → F32) : Prop :=
  (∀ i < 32, ∀ j < 32, ((w.get k.toNat).get i).get j = if on i j = true then g i j else ((c.m.get k.toNat).get i).get j) ∧
  ∀ n < 4, n ≠ k.toNat → w.get n = c.m.get n

/-- A vector word whose form Table 3 allows: an immediate only where the operation has one, with vb 0. -/
def formed (f : VecF) (imm : Bool) : Prop := f.imm = none ∨ (imm = true ∧ f.vb = 0#5)

/-- A traps handler may be entered: the context is outside its trap window, or no flag traps. -/
def mayFlag (c : Ctx) : Prop := c.inTrap = false ∨ c.fte = 0#6

/-- Words of a vector word with its immediate. -/
def vecLen (f : VecF) : Nat := match f.imm with | some _ => 2 | none => 1

/-- The words at these addresses stand in cisterns of engine e's owner that no handover holds. -/
def inCisterns (s : State) (e : Fin 4) (l : List Nat) : Prop :=
  ∀ a ∈ l, a % 4 = 0 ∧ a < cisSpace ∧ s.cisHolds (a / cisBytes) = false ∧ ∃ n, s.engineOwner e = some n ∧ s.cisOwner (a / cisBytes) = some n

/-- The numbers of the active lanes, ascending. -/
def activeLanes (c : Ctx) (km : BitVec 3) : List Nat := (List.range 32).filter fun i => c.active km i

/-- Lane i's address: base + 128 × offset + 4 i, or base + i × stride (R221). -/
def laneAt (c : Ctx) (f : VMemF) (strided : Bool) (i : Nat) : Nat :=
  ((c.reg f.base.toNat).toNat + (if strided = true then i * (c.reg (f.field.toNat / 2 ^ 8)).toNat
    else (128 * f.field.toInt % 2 ^ 32).toNat + 4 * i)) % 2 ^ 32

/-- The fixed pairwise tree over 32 elements (R215). -/
def pairTree {α : Type} (f : α → α → α) (x : Nat → α) : α :=
  let up := fun (y : Nat → α) i => f (y (2 * i)) (y (2 * i + 1))
  up (up (up (up (up x)))) 0

/-- A step of a reduction, on results with the flags raised so far; an absent element takes part as the other of its pair. -/
def joined (f : F32 → F32 → FRes) (p q : Option FRes) : Option FRes :=
  let both := fun (a b : FRes) => some ((f a.1 b.1).1, (f a.1 b.1).2 ||| a.2 ||| b.2)
  match p, q with
  | some a, some b => both a b
  | some a, none => both a a
  | none, some b => both b b
  | none, none => none

/-- The value of a finite binary32 in units of 2^−149. -/
def units (x : F32) : Int := if fSign x = true then -((fMant x * 2 ^ (fScale x + 149).toNat : Nat) : Int) else (fMant x * 2 ^ (fScale x + 149).toNat : Nat)

/-- r is num / den units rounded once: to the nearest value, a tie to the even one and 2^128 − 2^103 or more to infinity, or toward zero; its
sign is that of the exact value. -/
def roundedTo (rz : Bool) (r : F32) (num : Int) (den : Nat) : Prop :=
  (num < 0 → fSign r = true) ∧ (0 < num → fSign r = false) ∧ (num = 0 → fIsZero r = true) ∧ fIsNaN r = false ∧
  (rz = true → fIsFinite r = true ∧ (units r * den).natAbs ≤ num.natAbs ∧
    ∀ y, fIsFinite y = true → (units y * den).natAbs ≤ num.natAbs → (units y).natAbs ≤ (units r).natAbs) ∧
  (rz = false → (fIsFinite r = true ↔ num.natAbs < (2 ^ 277 - 2 ^ 252) * den) ∧
    (fIsFinite r = true → ∀ y, fIsFinite y = true → (units r * den - num).natAbs ≤ (units y * den - num).natAbs ∧
      ((units r * den - num).natAbs = (units y * den - num).natAbs → units y ≠ units r → r.getLsbD 0 = false)))

/-- The words of the eight classes of Table 2 of chapter 09. -/
def regWord (op : Nat) (f : RegF) : Word := 0#3 ++ BitVec.ofNat 5 op ++ f.rd ++ f.rs1 ++ f.rs2 ++ f.zero
/-- Sequencer, immediate form. -/
def immWord (op : Nat) (f : ImmF) : Word := 1#3 ++ BitVec.ofNat 5 op ++ f.rd ++ f.rs1 ++ f.imm
/-- LUI, J and CALL. -/
def longWord (op : Nat) (f : LongF) : Word := 1#3 ++ BitVec.ofNat 5 op ++ f.rd ++ f.imm
/-- Vector and vector immediate. -/
def vecWord (op : Nat) (f : VecF) : Word :=
  (if f.imm = none then 2#3 else 3#3) ++ BitVec.ofNat 6 op ++ f.vd ++ f.va ++ f.vb ++ f.vc ++ f.km
/-- Vector memory. -/
def vmemWord (op : Nat) (f : VMemF) : Word := 4#3 ++ BitVec.ofNat 3 op ++ f.v ++ f.base ++ f.field ++ f.km
/-- Tile and reduction. -/
def tileWord (op : Nat) (f : TileF) : Word := 5#3 ++ BitVec.ofNat 4 op ++ f.mt ++ f.vd ++ f.va ++ f.vb ++ f.r ++ f.km
/-- Mask and summary. -/
def maskWord (op : Nat) (f : MaskF) : Word := 6#3 ++ BitVec.ofNat 5 op ++ f.rd ++ f.ra ++ f.ka ++ f.kb ++ f.va ++ f.km
/-- Spore apply. -/
def sporeWord (f : SporeF) : Word := 7#3 ++ f.pid ++ f.vd ++ f.va ++ f.vb ++ f.vc ++ f.zero ++ f.km

/-- The engine of a Truffle instruction, its word, and the immediate that follows it, from Tables 2, 3, 5, 6a and 7 of chapter 09; the four
vector memory opcodes are the model's (log entry 34). -/
def engineEncode : Instr → Option (Fin 4 × Word × Option Word)
  | .add e f => some (e, regWord 0 f, none)
  | .sub e f => some (e, regWord 1 f, none)
  | .and e f => some (e, regWord 2 f, none)
  | .or e f => some (e, regWord 3 f, none)
  | .xor e f => some (e, regWord 4 f, none)
  | .sll e f => some (e, regWord 5 f, none)
  | .srl e f => some (e, regWord 6 f, none)
  | .sra e f => some (e, regWord 7 f, none)
  | .mul e f => some (e, regWord 8 f, none)
  | .mulhu e f => some (e, regWord 9 f, none)
  | .slt e f => some (e, regWord 10 f, none)
  | .sltu e f => some (e, regWord 11 f, none)
  | .movsr e f => some (e, regWord 16 f, none)
  | .movrs e f => some (e, regWord 17 f, none)
  | .jr e f => some (e, regWord 24 f, none)
  | .callr e f => some (e, regWord 25 f, none)
  | .addi e f => some (e, immWord 0 f, none)
  | .andi e f => some (e, immWord 2 f, none)
  | .ori e f => some (e, immWord 3 f, none)
  | .xori e f => some (e, immWord 4 f, none)
  | .slli e f => some (e, immWord 5 f, none)
  | .srli e f => some (e, immWord 6 f, none)
  | .srai e f => some (e, immWord 7 f, none)
  | .slti e f => some (e, immWord 10 f, none)
  | .lui e f => some (e, longWord 12 f, none)
  | .ldw e f => some (e, immWord 13 f, none)
  | .stw e f => some (e, immWord 14 f, none)
  | .beqz e f => some (e, immWord 16 f, none)
  | .bnez e f => some (e, immWord 17 f, none)
  | .bltz e f => some (e, immWord 18 f, none)
  | .bgez e f => some (e, immWord 19 f, none)
  | .j e f => some (e, longWord 20 f, none)
  | .call e f => some (e, longWord 21 f, none)
  | .ret e f => some (e, immWord 22 f, none)
  | .trapi e f => some (e, immWord 23 f, none)
  | .tret e f => some (e, immWord 24 f, none)
  | .halt e f => some (e, immWord 25 f, none)
  | .fret e f => some (e, immWord 26 f, none)
  | .signal e f => some (e, immWord 27 f, none)
  | .nop e f => some (e, immWord 28 f, none)
  | .vadd e f => some (e, vecWord 0 f, f.imm)
  | .vsub e f => some (e, vecWord 1 f, f.imm)
  | .vmul e f => some (e, vecWord 2 f, f.imm)
  | .vdiv e f => some (e, vecWord 3 f, f.imm)
  | .vfma e f => some (e, vecWord 4 f, f.imm)
  | .vfms e f => some (e, vecWord 5 f, f.imm)
  | .vfnma e f => some (e, vecWord 6 f, f.imm)
  | .vmin e f => some (e, vecWord 7 f, f.imm)
  | .vmax e f => some (e, vecWord 8 f, f.imm)
  | .vsqrt e f => some (e, vecWord 9 f, f.imm)
  | .vabs e f => some (e, vecWord 10 f, f.imm)
  | .vneg e f => some (e, vecWord 11 f, f.imm)
  | .vcpsgn e f => some (e, vecWord 12 f, f.imm)
  | .vrint e f => some (e, vecWord 13 f, f.imm)
  | .vcvti e f => some (e, vecWord 14 f, f.imm)
  | .vcvtf e f => some (e, vecWord 15 f, f.imm)
  | .vmov e f => some (e, vecWord 16 f, f.imm)
  | .vsel e f => some (e, vecWord 17 f, f.imm)
  | .vand e f => some (e, vecWord 18 f, f.imm)
  | .vor e f => some (e, vecWord 19 f, f.imm)
  | .vxor e f => some (e, vecWord 20 f, f.imm)
  | .vcmpeq e f => some (e, vecWord 24 f, f.imm)
  | .vcmplt e f => some (e, vecWord 25 f, f.imm)
  | .vcmple e f => some (e, vecWord 26 f, f.imm)
  | .vcmpun e f => some (e, vecWord 27 f, f.imm)
  | .vcompress e f => some (e, vecWord 32 f, f.imm)
  | .vexpand e f => some (e, vecWord 33 f, f.imm)
  | .vslideup e f => some (e, vecWord 34 f, f.imm)
  | .vslidedn e f => some (e, vecWord 35 f, f.imm)
  | .vlaneid e f => some (e, vecWord 36 f, f.imm)
  | .vld e f => some (e, vmemWord 0 f, none)
  | .vst e f => some (e, vmemWord 1 f, none)
  | .vlds e f => some (e, vmemWord 2 f, none)
  | .vsts e f => some (e, vmemWord 3 f, none)
  | .trowld e f => some (e, tileWord 0 f, none)
  | .trowst e f => some (e, tileWord 1 f, none)
  | .tcolld e f => some (e, tileWord 2 f, none)
  | .tcolst e f => some (e, tileWord 3 f, none)
  | .tzero e f => some (e, tileWord 4 f, none)
  | .touter e f => some (e, tileWord 5 f, none)
  | .rsumRows e f => some (e, tileWord 8 f, none)
  | .rsumColumns e f => some (e, tileWord 9 f, none)
  | .rmaxRows e f => some (e, tileWord 10 f, none)
  | .rmaxColumns e f => some (e, tileWord 11 f, none)
  | .rminRows e f => some (e, tileWord 12 f, none)
  | .rminColumns e f => some (e, tileWord 13 f, none)
  | .rsumv e f => some (e, tileWord 14 f, none)
  | .rmaxv e f => some (e, tileWord 15 f, none)
  | .kand e f => some (e, maskWord 0 f, none)
  | .kor e f => some (e, maskWord 1 f, none)
  | .kxor e f => some (e, maskWord 2 f, none)
  | .knot e f => some (e, maskWord 3 f, none)
  | .kfromy e f => some (e, maskWord 4 f, none)
  | .yfromk e f => some (e, maskWord 5 f, none)
  | .kflag e f => some (e, maskWord 6 f, none)
  | .scnt e f => some (e, maskWord 8 f, none)
  | .sany e f => some (e, maskWord 9 f, none)
  | .sall e f => some (e, maskWord 10 f, none)
  | .sfirst e f => some (e, maskWord 11 f, none)
  | .vxtr e f => some (e, maskWord 12 f, none)
  | .vins e f => some (e, maskWord 13 f, none)
  | .sporeApply e f => some (e, sporeWord f, none)
  | _ => none

/-- Of the filter chain, only channel c differs. -/
def chanOnly (s t : State) (c : Nat) : Prop :=
  (∀ k < 44, k ≠ c → t.chan k = s.chan k) ∧ t.filter = { s.filter with chans := t.filter.chans }

/-- The fine value, in codes, that the moving average of a channel gives on one code (R289): the register's window over 2^m conversions, of which
the first fills the history. -/
def windowMean (ch : FcChan) (m code : Nat) : F32 :=
  gRatio (((if ch.history = [] then 2 ^ m * code else (ch.sum + BitVec.ofNat 24 code - ch.history.getD (2 ^ m - 1) 0#24).toNat) * 2 ^ (8 - m) : Nat) : Int)
    256

/-- A sample of AIN channel c takes its calibration, if it is in one, one sample on in the steps of Table 6 of chapter 12; after the last step the
spare is free, where no CALIBRATE waits for it. -/
def calMoves (s t : State) (c : Nat) : Prop :=
  ((s.chan c).cal = none → (t.chan c).cal = none ∧ chanOnly s t c) ∧
  ∀ k, (s.chan c).cal = some k →
    (∀ x, k.step.next = some x → (t.chan c).cal = some { k with step := x } ∧ chanOnly s t c) ∧
    (k.step.next = none → s.ops = [] → (t.chan c).cal = none ∧ t.filter.drift = if s.filter.drift = some c then none else s.filter.drift)

/-- An operation of code CALIBRATE with handle h measures: it is in flight under its permit. -/
def measures (s : State) (h : Word) (o : LongOp) : Prop :=
  s.findOp h = some o ∧ o.code = .calibrate ∧ o.done = none ∧ o.permit = .granted

/-- The CV groups h for which sel holds strobed (R317, R318, R321, R408): each channel's shadow is converted and output, but for a channel under
calibration, during a switch of ownership, and for a host-written channel of a half-written group under SKIP_HALF. -/
def strobed (s t : State) (sel : Nat → Bool) : Prop :=
  let odd := fun h => (s.spout.lgc.get h).seq.getLsbD 0
  (∀ i < 16, let c := s.spout.cvs.get i
    let g := s.spout.lgc.get (i / 8)
    let x := gToInt (gAdd (gMul (gOfInt c.shadow.toNat) c.gain) c.offset)
    let fade := match s.groupOwner (4 + i / 8) with | some n => (s.spout.fades.get n).gain | none => 0#32
    t.spout.cvs.get i = if sel (i / 8) = true ∧ g.cal.map Prod.snd ≠ some i ∧ s.pair.switch = none ∧
        (odd (i / 8) = false ∨ g.skipHalf = false ∨ s.cvDriven i = true)
      then { c with out := BitVec.ofNat 18 (gToInt (gMul (gOfInt (max 0 (min 262143 x))) fade)).toNat } else c) ∧
  (∀ h < 2, (t.spout.lgc.get h).halfCnt = (if sel h = true ∧ odd h = true then errCount (s.spout.lgc.get h).halfCnt 1
      else (s.spout.lgc.get h).halfCnt) ∧ (sel h = true → odd h = true → (t.spout.lgc.get h).status.getLsbD 0 = true) ∧
    (t.spout.lgc.get h).seq = (s.spout.lgc.get h).seq) ∧
  t.spout = { s.spout with cvs := t.spout.cvs, lgc := t.spout.lgc }

/-- Serial audio port p is the only one that differs. -/
def portOnly (s t : State) (p : Nat) (x : Sap) : Prop := t.sap.get p = x ∧ ∀ k < 8, k ≠ p → t.sap.get k = s.sap.get k

/-- Of the network block, port p is x afterwards and everything else but the ports is as before. -/
def netPort (s t : State) (p : Nat) (x : NetPort) : Prop :=
  t.net.ports.get p = x ∧ (∀ k < 2, k ≠ p → t.net.ports.get k = s.net.ports.get k) ∧ t.net = { s.net with ports := t.net.ports }

/-- The audio PLL goes to holdover with ES1005 where the port of the media clock is down or not synchronised (R68, R333, R345). -/
def heldOver (s t : State) : Prop :=
  (t.mediaGone = true → s.dev.holdover = false →
    t.dev = { s.dev with holdover := true, mediaLock := false, lockRun := 0 } ∧ pendingSource t 1005) ∧
  (t.mediaGone = false ∨ s.dev.holdover = true → t.dev = s.dev)

/-- Of the network block, listener i is x afterwards and everything else but the listeners is as before. -/
def netListener (s t : State) (i : Nat) (x : Listener) : Prop :=
  t.net.listeners.get i = x ∧ (∀ k < 16, k ≠ i → t.net.listeners.get k = s.net.listeners.get k) ∧
  t.net = { s.net with listeners := t.net.listeners }

/-- Of the timers, only channel u.k differs, and it is x. -/
def timerOnly (s t : State) (u : Fin 24) (k : Fin 4) (x : TimerChan) : Prop :=
  t.tchan u k = x ∧ ∀ v < 24, ∀ j < 4, (v, j) ≠ (u.val, k.val) → t.tchan v j = s.tchan v j

/-- What a timer event may touch beside its channel: control voltages, filter triggers, the timer ingress (R354). -/
def timing : List Part := [.timers, .spout, .filter, .front] ++ reporting

/-- Of the character ports, only n differs, and it is x. -/
def uartOnly (s t : State) (n : Fin 8) (x : UartState) : Prop := t.uarts.get n = x ∧ ∀ k < 8, k ≠ n.val → t.uarts.get k = s.uarts.get k

/-- Of the I2C controllers, only c differs, and it is x. -/
def i2cOnly (s t : State) (c : Fin 2) (x : I2cState) : Prop := t.i2c.get c = x ∧ ∀ k < 2, k ≠ c.val → t.i2c.get k = s.i2c.get k

/-- The pair state after it has lost its synchronisation with a cause of Table 3 of chapter 17 (R404). -/
def lostSync (p : PairState) (cause : BitVec 4) : PairState :=
  { p with synced := false, syncedOnce := false, cause := cause, status := if p.synced = true then p.status ||| 0x100#16 else p.status }

/-- A packet that is good and next in sequence (R400). -/
def taken (s : State) (h : LinkHead) : Prop := h.good = true ∧ ∀ q, s.pair.rxSeq = some q → h.seq = q + 1#16

/-- The pair state once a packet has been taken. -/
def seqTaken (p : PairState) (h : LinkHead) : PairState := { p with rxSeq := some h.seq }

/-- The pair state once a packet has been discarded and counted (R400). -/
def seqLost (p : PairState) (h : LinkHead) : PairState :=
  { p with rxSeq := if h.good then some h.seq else p.rxSeq.map (· + 1#16), crcErr := errCount p.crcErr 1 }

/-- The pair state after a command that leaves it p and raises a source: p, or on a primary p out of synchronisation with cause 3, where a
record stored in a MIRROR region found the mirror queue full (R278). -/
def pairAfter (s t : State) (p : PairState) : Prop := t.pair = p ∨ (s.role = .primary ∧ t.pair = lostSync p 3#4)

/-- In t only the pair state and what reporting touches may differ, and the pair state is p after reporting. -/
def pairIs (s t : State) (p : PairState) : Prop := pairAfter s t p ∧ keptBut (.pair :: reporting) s t

/-- What a change of the supply level or a thermal stage may touch: the level, the stages, and the permits it revokes (R384, R391). -/
def shedding : List Part := [.supply, .windlass, .ops, .engines] ++ reporting

/-- No operation in flight holds a permit. -/
def noPermits (s : State) : Prop := ∀ o ∈ s.ops, o.permit ≠ .granted

end Sys2Proof.Machine.Claim

open Sys2Proof.Machine.Claim

/-- For every command c and state s, step of s with c put at the front of its queue is exec c on s with the queue as it was. With an empty queue, step answers the idle cycle of log entry 3 (the model's own choice). (95_what_each_step_holds) -/
def Obligations.StepRunsFrontCommand : Prop :=
  (∀ (c : Instr) (s : State), step (s.withPending (c :: s.pending)) = exec c s) ∧
  ∀ s : State, s.pending = [] → step s = .next s.idle

/-- For every command and every state, exec answers a next state (never a fault, never a refusal), and that state's queue of waiting commands is the one before. (95_what_each_step_holds) -/
def Obligations.EveryCommandCompletes : Prop :=
  ∀ (c : Instr) (s : State), Does c s fun t => t.pending = s.pending

/-- If the three memories of a state list strictly rising addresses with no byte that reads as blank, then they do in the state after any step. The canonical form is the model's; that wiped and unwritten bytes read as zero is R76, R90 and R256. (R76, R90, R256) -/
def Obligations.MemoriesKeepCanonicalForm : Prop :=
  ∀ s t : State, memoriesWf s → step s = .next t → memoriesWf t

/-- Over every step, the code of the life-cycle state does not fall (R97: no transition leads back), and a key hash that is fused stays as it is (R99). (R97, R99, R101) -/
def Obligations.FuseStateOnlyAdvances : Prop :=
  ∀ s t : State, step s = .next t →
    s.fuses.lc.code ≤ t.fuses.lc.code ∧ ∀ h, s.fuses.keyHash = some h → t.fuses.keyHash = some h

/-- At reset the device is OFF with every clock unlocked and CLOCK_RCAUSE 1; device time and the frame index are 0; every event source is masked and not pending (R430 and Table 9 of chapter 03); the memories are empty, so in canonical form and reading as zero; no tenancy is spawned, no long operation is in flight, and no command waits. The life-cycle of the unprogrammed part is the model's choice (log entry 6) and no clause here. (R20, R72, R75, R90, R103, R430) -/
def Obligations.ResetState : Prop :=
  State.reset.dev.phase = .off ∧ State.reset.dev.clockStatus = 0#32 ∧ State.reset.dev.rcause = 1#4 ∧
  State.reset.time.devTime = 0#64 ∧ State.reset.time.frameIdx = 0#64 ∧
  (∀ i < 1024, (State.reset.evs.src.get i).mask = true ∧ (State.reset.evs.src.get i).pend = false) ∧
  memoriesWf State.reset ∧ (∀ x, State.reset.mem.cis.get x = 0#8) ∧
  (∀ n < 8, (State.reset.ten.get n).spawned = false) ∧ State.reset.ops = [] ∧ State.reset.pending = []

/-- For every command and state, the device state of the next state is the one before, or the pair of the two is one that Table 7 of chapter 01 (R22) gives for that command's trigger; the idle cycle changes no device state. This states the pairs and their triggers, not the conditions on each trigger. (R20, R22) -/
def Obligations.StateChangesOnlyOnTriggers : Prop :=
  (∀ (c : Instr) (s t : State), exec c s = .next t → t.dev.phase = s.dev.phase ∨ (s.dev.phase, t.dev.phase) ∈ triggers c) ∧
  ∀ s : State, s.idle.dev.phase = s.dev.phase

/-- PORST_N leads to OFF from every state, with device time at 0, everything cleared but the fuses. RESET_N (outside OFF and AON) and a steward's 0x0000_A5C3 in CLOCK_RESET (where CLOCK is reachable) lead to LOADING with what Table 6 clears and keeps; RESET_N also takes the boot mode sampled and resets every PCIe function, a steward reset keeps both. Another value in CLOCK_RESET changes no device state and raises ES1004. A function level reset resets that function's configuration space, vectors and buffered stores and nothing else. Start-up with a good XA leads to LOADING, without one it stays in AON, where XA_TIMEOUT_RESTART keeps it. (R22, R60, R62, R63, R64, R72, R75, R76, R77, R103) -/
def Obligations.ResetsLeave : Prop :=
  (∀ s : State, Does .porstNAssert s fun t =>
    t.dev.phase = .off ∧ t.time = TimeState.reset ∧ t.spawn = SpawnState.reset ∧ t.mem = MemState.reset ∧ t.wells = State.reset.wells ∧
    t.ops = [] ∧ t.evs = EvsState.reset ∧ t.host = HostState.reset ∧ t.fuses.lc = s.fuses.lc ∧ t.fuses.keyHash = s.fuses.keyHash ∧
    t.dev.wakeEn = 0#14 ∧ t.pending = s.pending) ∧
  (∀ (s : State) (boot : Fin 8), s.dev.phase ≠ .off → s.dev.phase ≠ .aon → Does (.resetNAssert boot) s fun t =>
    afterReset s t 2 ∧ t.dev.boot = BitVec.ofNat 3 boot.val ∧ t.host.fns = HostState.reset.fns ∧ t.host.xspi = HostState.reset.xspi) ∧
  (∀ s : State, s.opens .clock = true → Does (.stewardReset 0 0xA5C3#32) s fun t =>
    afterReset s t 4 ∧ t.dev.boot = s.dev.boot ∧ t.host.linkUp = s.host.linkUp ∧ t.host.fns = s.retireAll.host.fns) ∧
  (∀ (s : State) (v : Word), s.opens .clock = true → v ≠ 0xA5C3#32 → Does (.stewardReset 0 v) s fun t =>
    t.dev = s.dev ∧ pendingSource t 1004 ∧ keptBut accessing s t) ∧
  (∀ (s : State) (fn : Fin 8), s.pcieServed = true → Does (.functionLevelReset fn) s fun t =>
    t.host.fns.get fn.val = PcieFn.reset ∧ (∀ k < 8, k ≠ fn.val → t.host.fns.get k = s.host.fns.get k) ∧
    t.host.wcb = s.host.wcb.filter (fun e => e.fn != fn.val) ∧ t.host.linkUp = s.host.linkUp ∧ t.host.xspi = s.host.xspi ∧
    keptBut [.host] s t) ∧
  (∀ (s : State) (boot : Fin 8) (xb : Bool) (mib : Nat), s.dev.phase = .off ∨ s.dev.phase = .aon →
    Does (.startup boot true xb mib) s (fun t => t.dev.phase = .loading ∧ t.dev.boot = BitVec.ofNat 3 boot.val ∧ t.dev.xaGood = true ∧
      t.dev.coreLock = true ∧ t.time = s.time ∧ t.mem.sealedData = [] ∧ t.host.linkUp = (boot.val != 4)) ∧
    Does (.startup boot false xb mib) s (fun t => t.dev.phase = .aon ∧ t.dev.xaGood = false ∧ keptBut [.dev] s t)) ∧
  ∀ s : State, s.dev.phase = .aon → Does .xaTimeoutRestart s fun t => t.dev = { s.dev with xaGood := false } ∧ keptBut [.dev] s t

/-- START (SPAWN_CTRL bit 0) in UNSPAWNED leads to LOADING with a delivery under way and no word taken; a word of SPAWN_DATA joins the delivery until IMAGE_LEN bytes have come; a load before then changes nothing; one that passes its checks sets up the pending bank and leaves the delivery, one that fails leads to UNSPAWNED with its code in SPAWN_ERR and ES1001; the trough copies done, ES1000 rises; the audio PLL locks unless a family-B rate meets no XB, which leads to UNSPAWNED with E_APPLY; with the sealed cistern wiped, the first frame of a device that is no follower is frame 0 of the pending configuration, in RUNNING. (R44, R48, R49, R62, R67, R75) -/
def Obligations.FullSpawnSteps : Prop :=
  (∀ (s : State) (v : Word), s.opens .spawn = true → v.getLsbD 0 = true → s.dev.phase = .unspawned → Does (.spawnCtrlStart 0 v) s fun t =>
    t.dev.phase = .loading ∧ t.spawn.delivering = true ∧ t.spawn.words = [] ∧ t.spawn.count = 0 ∧ t.spawn.pend = none ∧ t.ops = []) ∧
  (∀ (s : State) (v : Word), s.opens .spawn = true → s.spawn.delivering = true → Does (.spawnDataWrite 0 v) s fun t =>
    (s.spawn.full = false → t.spawn = { s.spawn with words := v :: s.spawn.words, count := s.spawn.count + 1 }) ∧
    (s.spawn.full = true → t.spawn = s.spawn) ∧ keptBut (.spawn :: accessing) s t) ∧
  (∀ s : State, s.dev.phase = .loading → s.spawn.pend = none → s.spawn.phase = 1#2 → s.spawn.delivering = true →
    Does (.fullSpawnLoad .host) s fun t => if s.spawn.judged = false then t = s else
      match (s.fullLoad s.spawn.words.reverse).err with
      | none => t.dev.phase = .loading ∧ t.spawn.delivering = false ∧ t.spawn.err = 0#8 ∧
          t.spawn.pend = some ((s.fullLoad s.spawn.words.reverse).build.applied s.spawn.words.reverse)
      | some e => t.dev.phase = .unspawned ∧ t.spawn.err = BitVec.ofNat 8 e.code ∧ t.spawn.errOfs = w32 e.ofs ∧ t.spawn.pend = none ∧
          pendingSource t 1001) ∧
  (∀ (s : State) (c : AppliedCfg), s.dev.phase = .loading → s.spawn.pend = some c → s.spawn.troughsDone = false →
    (c.ten.toList.any fun x => s.copiesBad x) = false → Does .spawnApplied s fun t =>
      t.spawn.troughsDone = true ∧ t.spawn.build = c.buildId ∧ t.spawn.pend = some c ∧ t.dev = s.dev ∧ pendingSource t 1000) ∧
  (∀ (s : State) (c : AppliedCfg), s.dev.phase = .loading → s.spawn.pend = some c → Does .audioPllLock s fun t =>
    (fsFamilyB c.dev.fs = true → s.dev.xbFitted = false → t.dev.phase = .unspawned ∧ t.spawn.err = BitVec.ofNat 8 eApply) ∧
    (fsFamilyB c.dev.fs = false ∨ s.dev.xbFitted = true → t.dev = { s.dev with audLock := true } ∧ keptBut [.dev] s t)) ∧
  ∀ (s : State) (c : AppliedCfg) (i : FrameIn), s.dev.phase = .loading → s.spawn.pend = some c → s.spawn.troughsDone = true →
    s.dev.audLock = true → s.mem.sealWiping = false → (s.modPair fun p => { p with sel := i.spSel, ownIn := i.ownIn }).startsFollower = false →
    ∃ r : State, exec (.firstFrame i) s = .next (r.beginFrame 0#64 i) ∧ r.dev.phase = .running ∧ r.time.framesRun = true ∧
      r.spawn.active = c ∧ r.spawn.pend = none ∧ ∀ n < 8, (r.ten.get n).spawned = c.dev.present.testBit n

/-- A steward's HALT of tenancy 1 to 7 puts the halt in place; of tenancy 0 it is refused with ES1004; another tenancy's own HALT write is refused with ES1003. HALT_END, once the fade has run and no operation of the tenancy runs, leaves it unspawned with no voice and raises ES1008 + n. TENANCY_LC_REQ is refused with ES1004 unless it carries the key 0x4C43, is sent in RUNNING or UNSPAWNED with no programming under way, and asks for a later life-cycle state, or for a key hash in MAKE or DEVELOP that is not fused; an accepted transition wipes the sealed cistern. FUSE_PROGRAM_DONE verified sets the state and resets the device, or fuses the hash; otherwise it sets LAST_FAILED and changes no fuse. (R96, R97, R98, R99, R100, R101, R103) -/
def Obligations.HaltAndLifecycle : Prop :=
  (∀ (s : State) (n : Fin 8) (v : Word), s.opens .tenancy = true → v.getLsbD 0 = true →
    (n ≠ 0 → (s.ten.get n.val).halt = none → Does (.tenancyHalt 0 n v) s fun t =>
      (t.ten.get n.val).halt = some ⟨false, 64,
        (s.ops.filter fun o => o.ten == n.val && o.committed && o.done.isNone).map LongOp.handle⟩ ∧ t.dev = s.dev) ∧
    (n = 0 → Does (.tenancyHalt 0 0 v) s fun t => (t.ten.get 0).halt = (s.ten.get 0).halt ∧ pendingSource t 1004) ∧
    (n ≠ 0 → s.seen n.val = true → Does (.tenancyHalt n n v) s fun t =>
      (t.ten.get n.val).halt = (s.ten.get n.val).halt ∧ pendingSource t 1003 ∧ keptBut accessing s t)) ∧
  (∀ (s : State) (n : Fin 8) (h : Halt), (s.ten.get n.val).halt = some h → h.started = true → h.fadeLeft = 0 → s.tenBusy n.val = false →
    Does (.haltEnd n) s fun t => (t.ten.get n.val).halt = none ∧ (t.ten.get n.val).spawned = false ∧ (t.tcfg n.val).structs = [] ∧
      (t.tcfg n.val).wells = [] ∧ t.dev = s.dev ∧ pendingSource t (1008 + n.val)) ∧
  (∀ (s : State) (v : Word) (j : FuseJob), s.dev.phase = .running → s.lcAccepts v = some j →
    Does (.lifecycleTransition 0 v) s (fun t => t.fuses = { s.fuses with job := some j } ∧
      (bits v 1 0 = 1 → t.mem.sealedData = [] ∧ t.mem.sealWiping = true)) ∧
    Does (.keyHashFuse 0 v) s fun t => t.fuses = { s.fuses with job := some j }) ∧
  (∀ (s : State) (v : Word), s.dev.phase = .running → s.lcAccepts v = none → Does (.lifecycleTransition 0 v) s fun t =>
    t.fuses = s.fuses ∧ pendingSource t 1004 ∧ keptBut accessing s t) ∧
  (∀ (s : State) (v : Word), bits v 31 16 ≠ 0x4C43 ∨ s.fuses.job.isSome = true ∨ (s.dev.phase ≠ .running ∧ s.dev.phase ≠ .unspawned) ∨
    (bits v 1 0 = 1 ∧ (LifeCycle.ofCode (bits v 3 2)).code ≤ s.fuses.lc.code) ∨
    (bits v 1 0 = 2 ∧ (s.fuses.keyHash.isSome = true ∨ 2 ≤ s.fuses.lc.code)) → s.lcAccepts v = none) ∧
  (∀ (s : State) (j : FuseJob), s.fuses.job = some j → Does (.fuseProgramDone false) s fun t =>
    t.fuses = { s.fuses with job := none, lastFailed := true } ∧ keptBut [.fuses] s t) ∧
  (∀ (s : State) (x : LifeCycle), s.fuses.job = some (.lifecycle x) → Does (.fuseProgramDone true) s fun t =>
    t.fuses.lc = x ∧ t.dev.phase = .loading ∧ t.time.frameIdx = 0#64 ∧ t.ops = []) ∧
  ∀ s : State, s.fuses.job = some .keyHash → Does (.fuseProgramDone true) s fun t =>
    t.fuses.keyHash = some (wordsBytes s.fuses.hashWords.toList) ∧ t.fuses.lc = s.fuses.lc ∧ keptBut [.fuses] s t

/-- A read of CLOCK_TIME_LO or CLOCK_FRAME_LO by a tenancy fills that tenancy's latch with the whole value and no other tenancy's. CLOCK_TRFDIVn written by the engine's owner asks for a divider, which takes effect once the engine runs nothing. A media clock beyond ±250 ppm sets CLAMP, and its loss HOLDOVER, each with ES1005; its return, its port up and synchronised, clears both. A lost crystal or PLL lock raises ES1005 and leaves the device state and the frames alone; a returned crystal is good again. (R68, R73, R82, R83) -/
def Obligations.ClockReadsAndDividers : Prop :=
  (∀ (s : State) (t : Fin 8), s.opens .clock = true → s.seen t.val = true →
    Does (.clockTimeRead t) s (fun u => u.time = { s.time with timeLatch := s.time.timeLatch.put t.val s.time.devTime } ∧
      keptBut (.time :: accessing) s u) ∧
    Does (.clockFrameRead t) s fun u => u.time = { s.time with
        frameLatch := s.time.frameLatch.put t.val s.time.frameIdx, ftimeLatch := s.time.ftimeLatch.put t.val s.time.frameTime } ∧
      keptBut (.time :: accessing) s u) ∧
  (∀ (s : State) (t : Fin 8) (n : Fin 4) (v : Word), s.opens .clock = true → s.seen t.val = true → s.engineOwner n.val = some t.val →
    Does (.trfdivWrite t n v) s fun u => u.dev = { s.dev with
        trfdiv := s.dev.trfdiv.put n.val { (s.dev.trfdiv.get n.val) with request := some (v.setWidth 2) } } ∧
      keptBut (.dev :: accessing) s u) ∧
  (∀ (s : State) (n : Fin 4) (d : BitVec 2), s.dev.phase = .running → (s.dev.trfdiv.get n.val).request = some d →
    (s.engine n.val).run = .idle → (s.engine n.val).jobHandle = none → (s.engine n.val).queue = [] → Does (.trfdivApply n) s fun u =>
      u.dev = { s.dev with trfdiv := s.dev.trfdiv.put n.val { div := d, request := none } } ∧ keptBut [.dev] s u) ∧
  (∀ s : State, s.mediaPort.isSome = true →
    (s.dev.clamp = false → Does .mediaClockClamp s fun u => u.dev = { s.dev with clamp := true } ∧ pendingSource u 1005 ∧
      keptBut (.dev :: reporting) s u) ∧
    (s.mediaGone = false → Does .mediaClockReturn s fun u => u.dev = { s.dev with holdover := false, clamp := false } ∧ keptBut [.dev] s u)) ∧
  (∀ s : State, s.mediaPort.isSome = true → s.dev.holdover = false → Does .mediaClockLost s fun u =>
    u.dev.holdover = true ∧ u.dev.phase = s.dev.phase ∧ u.time = s.time ∧ pendingSource u 1005) ∧
  (∀ (s : State) (x : Crystal), s.watches x = true →
    Does (.crystalLost x) s (fun u => u.dev.crystalLost = true ∧ u.dev.phase = s.dev.phase ∧ u.time = s.time ∧ pendingSource u 1005 ∧
      keptBut (.dev :: reporting) s u) ∧
    (s.dev.crystalLost = true → Does (.crystalReturn x) s fun u =>
      (match x with | .xa => u.dev.xaGood | .xb => u.dev.xbGood) = true ∧ u.dev.phase = s.dev.phase ∧ keptBut [.dev] s u)) ∧
  ∀ (s : State) (p : Pll), s.dev.phase ≠ .off → s.dev.phase ≠ .aon → Does (.pllLockLoss p) s fun u =>
    u.dev = s.dev.setLock p false ∧ u.time = s.time ∧ pendingSource u 1005 ∧ keptBut (.dev :: reporting) s u

/-- A steward's request is taken in RUNNING with the single role, a wake source enabled and no park cause: the entry begins and uncommitted operations complete; otherwise it is dropped with ES1008 and no entry begins. The entry's end with its fade run leads to DORMANT-K, or to DORMANT-L with the cisterns and the sealed cistern wiped. A source that fires sets its bit of CLOCK_WAKE_SRC only when it is enabled, and wakes unless a park cause or the entry itself holds the wake; each row fires its own bit. A wake takes device time on by R74 and goes on to the next frame index in RUNNING, or, with the spawn store unreadable, to LOADING with E_APPLY and ES1001. (R22, R23, R29, R48, R74, R75, R78, R79, R368) -/
def Obligations.DormancyAndWake : Prop :=
  (∀ (s : State) (v : Word), s.opens .clock = true → v.getLsbD 0 = true → s.dev.dormEntry = none →
    (s.dev.phase = .running → s.role = .single → s.dev.wakeEn ≠ 0#14 → s.parkCause = false → s.supply.parking = none →
      Does (.dormantRequest 0 v) s fun t => t.dev.dormEntry.isSome = true ∧ t.dev.phase = .running ∧
        ∀ o ∈ t.ops, o.committed = false → o.done.isSome = true) ∧
    (s.dev.phase ≠ .running ∨ s.role ≠ .single ∨ s.dev.wakeEn = 0#14 ∨ s.parkCause = true →
      Does (.dormantRequest 0 v) s fun t => t.dev.dormEntry = none ∧ t.dev.phase = s.dev.phase ∧ pendingSource t 1008)) ∧
  (∀ (s : State) (e : DormantEntry), s.dev.phase = .running → s.dev.dormEntry = some e → e.fadeLeft = some 0 →
    Does .dormantEntryComplete s fun t => t.dev.phase = (if e.deep then .dormantL else .dormantK) ∧ t.dev.waking = s.dev.wakeHeld ∧
      t.time.framesRun = false ∧ t.time.aonCount = 0#64 ∧ (e.deep = true → t.mem.cis = [] ∧ t.mem.sealedData = [])) ∧
  (∀ s : State, s.dev.phase.dormant = true → s.dev.dormEntry = none →
    ∀ (c : Instr) (b : Nat), (c, b) ∈ [(Instr.wakeUsbResume, 10), (.wakeNLow, 12), (.wakePcie, 13)] →
      s.usb.attached = true → s.host.linkUp = true → s.dev.wakeEn.getLsbD b = true → Does c s fun t =>
        t.dev.wakeSrc = s.dev.wakeSrc ||| BitVec.ofNat 14 (2 ^ b) ∧ t.dev.waking = (s.dev.waking || !s.parkCause) ∧
        t.dev.phase = s.dev.phase ∧ keptBut [.dev, .usb] s t) ∧
  (∀ s : State, s.dev.phase.dormant = true → s.dev.dormEntry = none → s.dev.wakeEn.getLsbD 9 = true → Does .wakeRtc s fun t =>
    t.dev.wakeSrc = s.dev.wakeSrc ||| 512#14 ∧ s.time.aonCount.toNat ≤ t.time.aonCount.toNat ∧
    s.dev.rtcCmp.toNat ≤ t.time.aonCount.toNat ∧ keptBut [.dev, .time] s t) ∧
  (∀ (s : State) (a b : BitVec 32) (k : Nat), s.dev.phase.dormant = true → s.dev.wakeEn.getLsbD 8 = true → s.keybedRec.isSome = true →
    k < 16 → a.getLsbD k = true → b.getLsbD k = true → Does (.wakeAnyKey a b) s fun t =>
      t.dev.wakeSrc = s.dev.wakeSrc ||| 256#14 ∧ keptBut [.dev] s t) ∧
  (∀ (s : State) (code : BitVec 16), s.dev.phase.dormant = true → s.dev.wakeEn.getLsbD 11 = true →
    (if s.dev.wakeSen.getLsbD 16 then bits code 15 4 < bits s.dev.wakeSen 31 20 else bits s.dev.wakeSen 31 20 < bits code 15 4) →
    Does (.wakeSensor code) s fun t => t.dev.wakeSrc = s.dev.wakeSrc ||| 2048#14 ∧ keptBut [.dev] s t) ∧
  (∀ (s : State) (n : Fin 8) (c : BitVec 9), s.uartWakes n.val c = true → s.dev.wakeEn.getLsbD n.val = true → s.dev.phase.dormant = true →
    (s.uarts.get n.val).dorm = [] → Does (.wakeUartMatch n c) s fun t =>
      t.dev.wakeSrc = s.dev.wakeSrc ||| BitVec.ofNat 14 (2 ^ n.val) ∧ keptBut [.dev, .uarts] s t) ∧
  (∀ s : State, ∀ c ∈ [Instr.wakeUsbResume, .wakeNLow, .wakePcie, .wakeRtc], s.dev.wakeEn = 0#14 → Does c s fun t => t.dev = s.dev) ∧
  (∀ (s : State) (i : FrameIn), s.dev.waking = true → s.dev.phase.dormant = true →
    Does (.wakeComplete true i) s (fun t => t.dev.phase = .loading ∧ t.spawn.err = BitVec.ofNat 8 eApply ∧
      t.spawn.active = AppliedCfg.empty ∧ pendingSource t 1001) ∧
    ∃ r : State, exec (.wakeComplete false i) s = .next (r.beginFrame (s.time.frameIdx + 1#64) i) ∧ r.dev.phase = .running ∧
      r.dev.waking = false ∧ r.time.framesRun = true ∧
      r.time.devTime = s.time.devTime + BitVec.ofNat 64 (s.time.aonCount.toNat * 100 / 3) ∧ pendingSource r 1007)

/-- An access to a BAR2 range outside the tenancy's cisterns, or to a BAR0 offset that the tenancy does not see, by any path: a read (RC_READ, a one-word PCIe read) returns 0, and a PCIe one completes successfully; a write (REGISTER_WRITE, a one-word PCIe write, an xSPI WRITE of one word through CS0_N) is ignored and completes. Either adds 1 to the tenancy's denied counter, records the access if the log is empty, raises ES1003 and leaves every part but those of the access itself as it was. (R92) -/
def Obligations.DeniedAccess : Prop :=
  (∀ (s : State) (t : Fin 8) (ofs n : Nat) (data : List Word), s.pcieServed = true → s.dev.phase = .running →
    s.ownsRange t.val ofs (4 * n) = false → data.length = n → ofs + 4 * n ≤ bar2Size →
    Does (.pcieMemoryRequest t .bar2 ofs (.read n)) s (fun u =>
      u.outs.head? = some (.pcieData t.val (List.replicate n 0#32) false) ∧ deniedTo s u t.val ofs false true) ∧
    Does (.pcieMemoryRequest t .bar2 ofs (.write data)) s fun u => deniedTo s u t.val ofs true true) ∧
  ∀ (s : State) (t : Fin 8) (ofs : Nat) (v : Word), unseen s t.val ofs → ofs + 4 ≤ bar0Size →
    Does (.rcRead t ofs) s (fun u => u.outs.head? = some (.regRead t.val 0#32) ∧ deniedTo s u t.val ofs false false) ∧
    Does (.registerWrite t ofs v) s (fun u => deniedTo s u t.val ofs true false) ∧
    (s.host.linkUp = true →
      Does (.pcieMemoryRequest t .bar0 ofs (.read 1)) s (fun u =>
        u.outs.head? = some (.pcieData t.val [0#32] false) ∧ deniedTo s u t.val ofs false false) ∧
      Does (.pcieMemoryRequest t .bar0 ofs (.write [v])) s fun u => deniedTo s u t.val ofs true false) ∧
    (t = 0 → (s.host.xspi.get 0).octal = false →
      Does (.xspiWrite { cs := 0, op := 0xE2#8, inv := 0#8 } (w32 ofs) (wordBytes v)) s fun u => deniedTo s u 0 ofs true false)

/-- IDENT reads its constants for every tenancy while the host is served, and raises nothing. An argument register of a tenancy's own quick port is RW: a write sets it and nothing else, and a read returns it. A counter of code RC is returned and cleared by the read. A write over PCIe, or over xSPI for the tenancy of its chip select, of one word at a register is that register's write. (R6, R11, R110, R128) -/
def Obligations.RegisterAccess : Prop :=
  (∀ (s : State) (t : Fin 8), s.hostServed = true →
    Does (.rcRead t 0) s (fun u => u.outs.head? = some (.regRead t.val 0x4B580848#32) ∧ u.outs.tail = s.retireAll.outs ∧ u.evs = s.retireAll.evs) ∧
    Does (.rcRead t 4) s (fun u => u.outs.head? = some (.regRead t.val 0xB0#32)) ∧
    Does (.rcRead t 8) s fun u => u.outs.head? = some (.regRead t.val (w32 t.val))) ∧
  (∀ (s : State) (t a : Fin 8) (v : Word), s.dev.phase = .running → s.seen t.val = true →
    Does (.registerWrite t (0x1000 + 4 * a.val) v) s (fun u =>
      ((u.qports.get t.val).args.get a.val = v) ∧ (∀ b < 8, b ≠ a.val → (u.qports.get t.val).args.get b = (s.qports.get t.val).args.get b) ∧
      (∀ n < 8, n ≠ t.val → u.qports.get n = s.qports.get n) ∧ keptBut (.qports :: accessing) s u) ∧
    Does (.rcRead t (0x1000 + 4 * a.val)) s fun u =>
      u.outs.head? = some (.regRead t.val ((s.qports.get t.val).args.get a.val)) ∧ keptBut accessing s u) ∧
  (∀ (s : State) (t : Fin 8), s.dev.phase = .running → s.seen t.val = true → Does (.rcRead t 0x1084) s fun u =>
    u.outs.head? = some (.regRead t.val (w32 (s.qports.get t.val).reflexDrop)) ∧ (u.qports.get t.val).reflexDrop = 0 ∧
    keptBut (.qports :: accessing) s u) ∧
  (∀ (s : State) (t : Fin 8) (ofs : Nat) (v : Word), s.pcieServed = true → ofs % 4 = 0 → ofs + 4 ≤ bar0Size →
    exec (.pcieMemoryRequest t .bar0 ofs (.write [v])) s = exec (.registerWrite t ofs v) s) ∧
  ∀ (s : State) (cs : Fin 2) (t : Fin 8) (ofs : Nat) (v : Word), s.hostServed = true → s.csTen cs = some t.val →
    (s.host.xspi.get cs.val).octal = false → ofs % 4 = 0 → ofs < 2147483648 →
    exec (.xspiWrite { cs := cs, op := 0xE2#8, inv := 0#8 } (w32 ofs) (wordBytes v)) s = exec (.registerWrite t ofs v) s

/-- With the link up and the device serving its host: a configuration read of the identity answers Device and Vendor ID; a memory request outside BAR0 and BAR2 is an Unsupported Request; a poisoned write is recorded in its function's AER, raises ES1003 and changes nothing else; a BAR2 store inside one line of an owned cistern opens a write-combining entry when the line has none and room is left; the link's loss and its return leave frames and wells alone, a pending vector sends its message and clears its PBA bit once it may. (R64, R105, R106, R107, R127) -/
def Obligations.PcieRequests : Prop :=
  (∀ (s : State) (fn : Fin 8), s.pcieServed = true →
    Does (.pcieConfigRequest fn .vendorDevice none) s (fun t => t.outs = .pcieData fn.val [0x08481E9C#32] false :: s.outs ∧
      keptBut [.outs] s t) ∧
    (∀ v : Word, Does (.pcieConfigRequest fn .bar0 (some v)) s fun t => (t.host.fns.get fn.val).bar0 = v &&& 0xFF000000#32 ∧
      (∀ k < 8, k ≠ fn.val → t.host.fns.get k = s.host.fns.get k) ∧ keptBut [.host] s t) ∧
    (∀ (ofs : Nat) (r : MemReq), Does (.pcieMemoryRequest fn .outside ofs r) s fun t =>
      t.outs = .pcieUnsupported fn.val :: s.outs ∧ keptBut [.outs] s t) ∧
    ∀ ofs : Nat, Does (.poisonedWrite fn ofs) s fun t => (t.host.fns.get fn.val).aerPoisoned = true ∧ pendingSource t 1003 ∧
      keptBut reporting s t) ∧
  (∀ (s : State) (fn : Fin 8) (ofs : Nat) (data : List Byte), s.pcieServed = true → s.dev.phase = .running →
    s.ownsRange fn.val ofs data.length = true → s.cisHolds (ofs / cisBytes) = false → 0 < data.length → data.length < 64 →
    ofs % 64 + data.length ≤ 64 → s.host.wcb.length < 16 → (s.host.wcb.any fun e => e.fn == fn.val && e.line == ofs / 64) = false →
    Does (.bar2Write fn ofs data) s fun t =>
      t.host.wcb = s.host.wcb ++ [{ fn := fn.val, line := ofs / 64, bytes := mergeBytes [] (ofs % 64) data }] ∧ keptBut [.host] s t) ∧
  (∀ s : State, s.host.linkUp = true → Does .pcieLinkDown s fun t => t.host.linkUp = false ∧
    (∀ n < 8, (t.host.fns.get n).aerLink = true ∧ (t.host.fns.get n).pba = (s.host.fns.get n).pba) ∧ keptBut [.host] s t) ∧
  (∀ s : State, s.host.linkUp = false → s.dev.phase ≠ .off → s.dev.phase ≠ .aon → s.dev.boot ≠ 4#3 → Does .pcieLinkUp s fun t =>
    t.host.linkUp = true ∧ keptBut [.host, .outs] s t ∧
    ∀ n < 8, ∀ v < 64, t.msixOpen n v = true → (t.host.fns.get n).pba.getLsbD v = false) ∧
  ∀ (s : State) (fn : Fin 8) (v : Fin 64), (s.host.fns.get fn.val).pba.getLsbD v.val = true → s.msixOpen fn.val v.val = true →
    Does (.msixPendingSend fn v) s fun t => t.outs = (let e := (s.host.fns.get fn.val).table.get v.val
      .msix fn.val e.addrLo e.addrHi e.data) :: s.outs ∧ (t.host.fns.get fn.val).pba.getLsbD v.val = false ∧ keptBut [.host, .outs] s t

/-- In 1S mode on CS0_N: READ returns the word of a register as the steward reads it, little-endian, and 0xFFFF_FFFF with LATE for a word that is not ready; STATUS returns READY, OCTAL, BAD_CMD, LATE, the state code and EVT_PEND, and clears BAD_CMD and LATE; SET_CONFIG takes the mode and a latency of 8 to 31; INTERFACE_RESET returns the chip select to 1S with latency 8. An unknown opcode, or in octal mode a wrong inverse byte, only sets BAD_CMD. CS1_N is ignored while its record is disabled. (R109, R110, R111) -/
def Obligations.XspiCommands : Prop :=
  (∀ (s : State) (a : Word), s.hostServed = true → (s.host.xspi.get 0).octal = false → a.getLsbD 31 = false → a.toNat % 4 = 0 →
    Does (.xspiRead { cs := 0, op := 0xE1#8, inv := 0#8 } a [false]) s (fun t =>
      t.outs.head? = some (.xspi 0 (wordBytes (s.readReg 0 a.toNat).2))) ∧
    Does (.xspiRead { cs := 0, op := 0xE1#8, inv := 0#8 } a [true]) s (fun t =>
      t.outs.head? = some (.xspi 0 (wordBytes 0xFFFFFFFF#32)) ∧ (t.host.xspi.get 0).late = true)) ∧
  (∀ s : State, s.hostServed = true → s.dev.phase.dormant = false → (s.host.xspi.get 0).octal = false →
    Does (.xspiStatus { cs := 0, op := 0xE5#8, inv := 0#8 }) s fun t =>
      (t.outs = .xspi 0 (wordBytes (w32 (1 + flag (s.host.xspi.get 0).badCmd 2 + flag (s.host.xspi.get 0).late 3 + fld s.xspiState 8 +
        flag (s.evtPend 0) 12))) :: s.outs) ∧ (t.host.xspi.get 0).badCmd = false ∧ (t.host.xspi.get 0).late = false ∧
      keptBut [.host, .outs, .free] s t) ∧
  (∀ (s : State) (v : Word), s.hostServed = true → (s.host.xspi.get 0).octal = false → 8 ≤ bits v 5 1 →
    Does (.setConfig { cs := 0, op := 0xE8#8, inv := 0#8 } v) s fun t =>
      (t.host.xspi.get 0).octal = v.getLsbD 0 ∧ (t.host.xspi.get 0).lat.toNat = bits v 5 1 ∧ t.host.xspi.get 1 = s.host.xspi.get 1 ∧
      keptBut [.host] s t) ∧
  (∀ s : State, s.hostServed = true → Does (.interfaceReset { cs := 0, op := 0xEF#8, inv := 0x10#8 }) s fun t =>
    (t.host.xspi.get 0).octal = false ∧ (t.host.xspi.get 0).lat = 8#5 ∧ keptBut [.host] s t) ∧
  (∀ (s : State) (op inv : Byte), s.hostServed = true → op ∉ xspiOpcodes ∨ ((s.host.xspi.get 0).octal = true ∧ inv ≠ ~~~op) →
    Does (.interfaceReset { cs := 0, op := op, inv := inv }) s fun t =>
      t.host.xspi = s.host.xspi.put 0 { (s.host.xspi.get 0) with badCmd := true } ∧ keptBut [.host] s t) ∧
  ∀ (s : State) (f : XspiFrame) (a : Word) (d : List Byte), f.cs = 1 → s.cfg.dev.cs1 = none → Does (.xspiWrite f a d) s fun t => t = s

/-- By a well's owner in RUNNING: a write of P on a host-produced well moves P when the fill then stays within the capacity; otherwise P stays and INDEX_ERR is set. A write of C on a device-produced well moves C when it does not pass P; otherwise C stays and INDEX_ERR is set. A write of the other side's index does nothing but what any access does. (R118) -/
def Obligations.WellIndexWrites : Prop :=
  ∀ (s : State) (t : Fin 8) (w : Fin 256) (r : WellRec) (v : Word), s.dev.phase = .running → s.seen t.val = true →
    s.wellRec w.val = some (t.val, r) →
    (s.deviceProduced w.val = false →
      Does (.wellPidxWrite t w v) s (fun u =>
        (if ((v.setWidth 16).toNat + 65536 - (s.retireAll.wells.get w.val).c.toNat) % 65536 ≤ wellCapacity r.k then
          (u.wells.get w.val).p = v.setWidth 16
        else (u.wells.get w.val).p = (s.retireAll.wells.get w.val).p ∧ (u.wells.get w.val).status.getLsbD 2 = true) ∧
        (u.wells.get w.val).c = (s.retireAll.wells.get w.val).c) ∧
      Does (.wellCidxWrite t w v) s (fun u => u = s.retireAll)) ∧
    (s.deviceProduced w.val = true →
      Does (.wellCidxWrite t w v) s (fun u =>
        (if ((v.setWidth 16).toNat + 65536 - (s.retireAll.wells.get w.val).c.toNat) % 65536 ≤ (s.retireAll.wells.get w.val).fill then
          (u.wells.get w.val).c = v.setWidth 16
        else (u.wells.get w.val).c = (s.retireAll.wells.get w.val).c ∧ (u.wells.get w.val).status.getLsbD 2 = true)) ∧
      Does (.wellPidxWrite t w v) s (fun u => u = s.retireAll))

/-- A tenancy's quick port in RUNNING takes each of the twelve long operations when no cause of Table 11 stands against it: QP_STATUS is ACCEPTED, QP_HANDLE the tenancy, its generation and its sequence, which advances, and the operation is in flight under that handle with its arguments, its permit cost and the time of submission. Against a cause it answers the code of one that holds (which of several is the model's order, log entry 109), and neither the handle nor an operation changes; DENIED raises ES1003. A tenancy that is not spawned gets NOT_SPAWNED for all but SPAWN_TENANCY. A reserved opcode written to QP_OP is BAD_OPCODE and raises ES1004. (R96, R121, R122, R123, R125) -/
def Obligations.QuickPortAnswers : Prop :=
  (∀ (s : State) (t : Fin 8), inRun s t → ∀ ck ∈ longRows t,
    let args := (s.qports.get t).args
    let a := s.retireAll.qpAnswer t ck.2.opcode (args.get 0)
    (a = qpAccepted → s.findOp (s.nextHandle t) = none → Does ck.1 s fun u =>
      (u.qports.get t).status = qpAccepted ∧ (u.qports.get t).handle = s.nextHandle t ∧ (u.qports.get t).seq = (s.qports.get t).seq + 1#24 ∧
      (u.qports.get t).args = args ∧ inFlight u (s.nextHandle t) fun o =>
        o.ten = t ∧ o.code = ck.2 ∧ o.args = args ∧ o.cost = costOf s ck.2 args ∧ o.submitted = s.now) ∧
    (a ≠ qpAccepted → Does ck.1 s fun u => u.qports = s.qports.put t { (s.qports.get t) with status := a } ∧ u.ops = s.ops ∧
      (a = qpDenied → pendingSource u 1003) ∧ keptBut (.qports :: accessing) s u)) ∧
  (∀ (s : State) (t : Fin 8) (v : Word), inRun s t → s.spawned t = true → bits v 7 0 = 0 ∨ 12 < bits v 7 0 →
    Does (.registerWrite t 0x1020 v) s fun u => (u.qports.get t).status = qpBadOpcode ∧ (u.qports.get t).handle = (s.qports.get t).handle ∧
      u.ops = s.ops ∧ pendingSource u 1004 ∧ keptBut (.qports :: accessing) s u) ∧
  (∀ (s : State) (t : Fin 8), bits (s.nextHandle t) 31 29 = t.val ∧ bits (s.nextHandle t) 28 24 = (s.ten.get t).gen.toNat ∧
    bits (s.nextHandle t) 23 0 = (s.qports.get t).seq.toNat) ∧
  ∀ (s : State) (t op : Nat) (x : Word), let a := s.qpAnswer t op x
    (a = qpAccepted ↔ noCause s t op x) ∧
    (s.spawned t = false → op ≠ 1 → a = qpNotSpawned) ∧
    (a = qpNotSpawned → s.spawned t = false ∧ op ≠ 1) ∧ (a = qpBadOpcode → op = 0 ∨ 12 < op) ∧
    (a = qpDenied → op ∈ [2, 7, 11, 12] ∧ t ≠ 0) ∧ (a = qpBusy → portBusy s t op x) ∧ (a = qpLimit → 4096 ≤ (s.opsOf t).length) ∧
    (a = qpBusyCpl → s.cplFree t + 64 ≤ (s.opsOf t).length + (s.qports.get t).store.length) ∧ a.toNat ≤ 6

/-- An operation that has ended leaves flight with one completion: into its tenancy's CPL well, whose producer index advances by one past the record, when the store is empty and the well has room, else at the end of the store. COMPLETION_DRAIN moves held completions, oldest first, as many as the well has room for. QP_CPL_POP with bit 0 removes the oldest held completion when there is no CPL well. QP_ABORT answers UNKNOWN_HANDLE for a handle of another tenancy, of another generation or not in flight; ALREADY_DONE from the commit point on (and for an operation that has ended before it, the model's choice of log entry 117), which changes no operation; and else ABORTED, with the operation ended ABORTED. (R122, R123, R124) -/
def Obligations.CompletionsAndAborts : Prop :=
  (∀ (s : State) (o : LongOp) (c : Completion), s.dev.phase.hosted = true → s.findOp o.handle = some o → o.done = some c → o.ten < 8 →
    quiet s → memoriesWf s →
    (∀ r, s.cplWell o.ten = some r → s.wellRec r.well = some (o.ten, r) → r.well < 256 → (s.qports.get o.ten).store = [] →
      (s.wells.get r.well).fill < wellCapacity r.k → Does (.completionPost o.handle) s fun t => t.findOp o.handle = none ∧
        t.qports = s.qports ∧ (t.wells.get r.well).p = (s.wells.get r.well).p + 1#16 ∧
        t.mem.cis.getBytes (r.entryAt (s.wells.get r.well).p.toNat) 64 = c.bytes ∧
        (∀ w < 256, w ≠ r.well → t.wells.get w = s.wells.get w) ∧ keptBut (.ops :: .windlass :: reporting) s t) ∧
    (s.cplWell o.ten = none ∨ (∃ r, s.cplWell o.ten = some r ∧
        ((s.qports.get o.ten).store ≠ [] ∨ wellCapacity r.k ≤ (s.wells.get r.well).fill)) →
      Does (.completionPost o.handle) s fun t => t.findOp o.handle = none ∧ t.wells = s.wells ∧
        t.qports = s.qports.put o.ten { (s.qports.get o.ten) with store := (s.qports.get o.ten).store ++ [c] } ∧
        keptBut (.ops :: .windlass :: .qports :: reporting) s t)) ∧
  (∀ (s : State) (t : Fin 8) (r : WellRec), s.dev.phase.hosted = true → s.cplWell t = some r → s.wellRec r.well = some (t.val, r) →
    r.well < 256 → wellCapacity r.k < 65536 → quiet s → Does (.completionDrain t) s fun u =>
      let k := min (s.qports.get t).store.length (wellCapacity r.k - (s.wells.get r.well).fill)
      u.qports = s.qports.put t { (s.qports.get t) with store := (s.qports.get t).store.drop k } ∧
      (u.wells.get r.well).p = (s.wells.get r.well).p + BitVec.ofNat 16 k ∧ (∀ w < 256, w ≠ r.well → u.wells.get w = s.wells.get w) ∧
      keptBut (.qports :: reporting) s u) ∧
  (∀ (s : State) (t : Fin 8) (v : Word), inRun s t → Does (.qpCplPop t v) s fun u =>
    (u.qports.get t).store = (if v.getLsbD 0 = true ∧ s.cplWell t = none then (s.qports.get t).store.drop 1 else (s.qports.get t).store) ∧
    keptBut (.qports :: accessing) s u) ∧
  ∀ (s : State) (t : Fin 8) (h : Word), inRun s t →
    ((∀ o, s.findOp h = some o → o.ten = t → bits h 28 24 ≠ (s.ten.get t).gen.toNat) → Does (.qpAbort t h) s fun u =>
      (u.qports.get t).abortStatus = 2#2 ∧ u.ops = s.ops ∧ keptBut (.qports :: accessing) s u) ∧
    ∀ o, s.findOp h = some o → o.ten = t → bits h 28 24 = (s.ten.get t).gen.toNat →
      (o.committed = true ∨ o.done ≠ none → Does (.qpAbort t h) s fun u => (u.qports.get t).abortStatus = 1#2 ∧ u.ops = s.ops ∧
        keptBut (.qports :: accessing) s u) ∧
      (o.committed = false → o.done = none → Does (.qpAbort t h) s fun u => (u.qports.get t).abortStatus = 0#2 ∧
        inFlight u h fun x => x.committed = false ∧ ended x csAborted)

/-- The oldest event of an ingress leaves it in its slot: with no route it counts as unrouted; with one route to a pool it becomes the event word of R133 in that pool's lane, stamped with device time, and counts as the route's hit; for a tenancy that takes no events it counts as that tenancy's drop; during a park it counts in SUP_DROP. An event with a later play-at waits in its tenancy's schedule in order of play-at, or is dropped with ES1008 + n when 256 wait or it is more than 60 s ahead. The head of a schedule is accepted once due, stamped with its play-at and SCHED, and before that stays. (R59, R130, R131, R133, R135, R136, R137, R138) -/
def Obligations.EventAcceptance : Prop :=
  (∀ (s : State) (g : Ingress) (e : RawEvent) (rest : List RawEvent), accepts s → s.front.queue g = e :: rest → e.playAt.toNat ≤ s.now.toNat →
    (s.matching g e e.msg.norm = [] → Does (.eventAccept g) s fun t =>
      t.front.unrouted = errCount s.front.unrouted 1 ∧ t.front.sched = s.front.sched ∧ keptBut presenting s t) ∧
    (∀ (n : Fin 8) (r : RouteRec), s.matching g e e.msg.norm = [(n.val, r)] → e.msg.norm.voice = true → plainRoute s n r →
      Does (.eventAccept g) s fun t =>
        copied s t e.msg.norm n r (BitVec.ofNat 8 (ingressCode g)) s.now false e.mirror.isSome) ∧
    (∀ (n : Fin 8) (r : RouteRec), s.matching g e e.msg.norm = [(n.val, r)] → s.muted n = true → Does (.eventAccept g) s fun t =>
      (t.ten.get n.val).drop = errCount (s.ten.get n.val).drop 1 ∧ t.front.hits = s.front.hits ∧ keptBut (.ten :: .free :: presenting) s t)) ∧
  (∀ (s : State) (g : Ingress) (e : RawEvent) (rest : List RawEvent), s.dev.phase.hosted = true → s.parkDrops = false →
    s.front.queue g = e :: rest → s.now.toNat < e.playAt.toNat → e.ten < 8 → Does (.eventAccept g) s fun t =>
      (if 256 ≤ (s.front.sched.get e.ten).length ∨ 6000000000 < e.playAt.toNat - s.now.toNat then
        t.front.sched = s.front.sched ∧ t.front.schedDrop.get e.ten = errCount (s.front.schedDrop.get e.ten) 1 ∧ pendingSource t (1008 + e.ten)
      else t.front.schedDrop = s.front.schedDrop ∧
        t.front.sched.get e.ten = (s.front.sched.get e.ten).filter (fun y => y.ev.playAt.toNat ≤ e.playAt.toNat) ++
          { ev := e, src := BitVec.ofNat 8 (ingressCode g) } ::
          (s.front.sched.get e.ten).filter (fun y => e.playAt.toNat < y.ev.playAt.toNat)) ∧
      t.front.unrouted = s.front.unrouted ∧ keptBut presenting s t) ∧
  (∀ (s : State) (g : Ingress) (e : RawEvent) (rest : List RawEvent), s.dev.phase.hosted = true → s.parkDrops = true →
    s.front.queue g = e :: rest → Does (.eventAccept g) s fun t =>
      t.supply = { s.supply with drop := errCount s.supply.drop 1 } ∧ t.front.sched = s.front.sched ∧ keptBut (.supply :: presenting) s t) ∧
  ∀ (s : State) (n : Fin 8) (x : SchedEvent) (rest : List SchedEvent), s.dev.phase = .running → s.parkDrops = false → s.inPair = false →
    s.front.sched.get n.val = x :: rest →
    let g : Ingress := if x.src = 0x40#8 then .reflex n else .host n
    (s.releaseDue x = false → exec (.scheduledEventRelease n) s = .next s) ∧
    (s.releaseDue x = true → s.matching g x.ev x.ev.msg.norm = [] → Does (.scheduledEventRelease n) s fun t =>
      t.front = { s.front with sched := s.front.sched.put n.val rest, unrouted := errCount s.front.unrouted 1 } ∧ keptBut [.front] s t) ∧
    ∀ (m : Fin 8) (r : RouteRec), s.releaseDue x = true → s.matching g x.ev x.ev.msg.norm = [(m.val, r)] →
      x.ev.msg.norm.voice = true → plainRoute s m r → Does (.scheduledEventRelease n) s fun t =>
        t.front.sched = s.front.sched.put n.val rest ∧
        copied s t x.ev.msg.norm m r (BitVec.ofNat 8 (ingressCode g)) x.ev.playAt true x.ev.mirror.isSome

/-- A note-on of a POLY pool with NEW_VOICE claims one voice: in the free slot that R146 picks while the pool has room under its cap, otherwise in the slot its policy steals, which is counted. With RETRIGGER a note that sounds is restarted in place with the note's velocity; its key pitch stays. In MONO and LEGATO the note joins its channel's stack as the newest. A note-off of a POLY or UNISON pool releases the HELD voices of its identity, or leaves them SUSTAINED while sustain holds them; in MONO and LEGATO it leaves the stack. A commit of three agreeing copies puts each claimed voice into its slot for the next boundary, in commit order; without a majority the device enters SAFE and commits nothing. (R30, R31, R140, R141, R143, R144, R146, R148, R149) -/
def Obligations.NotesAndCommit : Prop :=
  (∀ (s : State) (p : Fin 32) (n : Nat) (r : PoolRec) (e : EventWord), onTop s p .noteOn n r e →
    (r.mode = .poly → r.newVoice = true →
      let x := s.pools.get p.val
      let used := ((s.slotsOf r).filter fun y => s.occupied x.claimed y).length
      ∀ y : Nat × Nat, (used < s.usable r ∧ s.freeSlot r x.claimed = some y) ∨
          (s.usable r ≤ used ∧ s.stealCandidate p.val r e.group e.channel e.index [] = some y) →
        Does (.noteOn p) s fun t => (∃ c : Claim, (t.pools.get p.val).claims = x.claims ++ [[c]] ∧ (c.gill, c.slot) = y ∧
            (c.steal = true ↔ s.usable r ≤ used) ∧ c.voice.state = .pending ∧ c.voice.key = .held ∧ c.voice.note = e.index ∧
            c.voice.group = e.group ∧ c.voice.channel = e.channel ∧ c.voice.velocity = bits e.w1 31 16 ∧
            c.voice.keyPitch = s.keyPitch n p.val e) ∧
          (t.pools.get p.val).lane = x.lane.drop 1 ∧
          (t.pools.get p.val).steals = errCount x.steals (if s.usable r ≤ used then 1 else 0) ∧ keptBut (.pools :: reporting) s t) ∧
    (∀ (l : Loc) (v : Voice), r.mode = .poly → r.newVoice = false →
      ((s.voicesOf p.val r).filter fun v => v.2.is e.group e.channel e.index && v.2.state != .silencing).getLast? = some (l, v) →
      exec (.noteOn p) s = .next ((offLane s p.val).updVoice p.val l fun v => v.retrigger (bits e.w1 31 16))) ∧
    (r.mode = .mono ∨ r.mode = .legato → Does (.noteOn p) s fun t =>
      (t.pools.get p.val).held e.group e.channel = pressNote ((s.pools.get p.val).held e.group e.channel)
        { note := e.index, pitch := s.keyPitch n p.val e, velocity := bits e.w1 31 16 } ∧
      (t.pools.get p.val).lane = (s.pools.get p.val).lane.drop 1 ∧ keptBut (.pools :: .gills :: reporting) s t)) ∧
  (∀ (s : State) (p : Fin 32) (n : Nat) (r : PoolRec) (e : EventWord), onTop s p .noteOff n r e → Does (.noteOff p) s fun t =>
    (t.pools.get p.val).lane = (s.pools.get p.val).lane.drop 1 ∧ keptBut [.pools, .gills] s t ∧
    (r.mode = .poly ∨ r.mode = .unison → slotsChanged s t p.val r (fun v => v.is e.group e.channel e.index && v.key == .held)
      (fun v => if s.sustained p.val v then { v with relVel := bits e.w1 31 16, key := .sustained }
        else { v with relVel := bits e.w1 31 16 }.release)) ∧
    (r.mode = .mono ∨ r.mode = .legato → (t.pools.get p.val).held e.group e.channel =
      ((s.pools.get p.val).held e.group e.channel).filter fun x => x.note != e.index)) ∧
  (∀ (s : State) (p : Fin 32) (n : Nat) (c : Claim) (rest : List (List Claim)), s.dev.phase = .running → s.poolOwner p.val = some n →
    (s.pools.get p.val).claims = [c] :: rest → c.gill < 48 → c.slot < 16 → Does (.foragerCommit p .agree) s fun t =>
      (t.slot c.gill c.slot).next = some { c.voice with commitTime := s.now, commitSeq := s.front.commitSeq } ∧
      (t.slot c.gill c.slot).cur = (s.slot c.gill c.slot).cur ∧
      (∀ g < 48, ∀ k < 16, (g, k) ≠ (c.gill, c.slot) → t.slot g k = s.slot g k) ∧ (t.pools.get p.val).claims = rest ∧
      t.front = { s.front with commitSeq := s.front.commitSeq + 1 } ∧ keptBut [.pools, .gills, .front, .obs] s t) ∧
  ∀ (s : State) (p : Fin 32), s.dev.phase = .running → (s.pools.get p.val).claims ≠ [] → Does (.foragerCommit p .noMajority) s fun t =>
    t.dev.phase = .safe ∧ t.pools = s.pools ∧ t.gills = s.gills ∧ t.pair.status.getLsbD 3 = true

/-- A bend, a pressure or CC1 outside a folded channel writes its channel's source alone; on a folded member channel it writes the per-note sources of the channel. Per-note management with S returns a note's sources to their defaults. CC64 writes its channel's sustain and releases the SUSTAINED voices that it no longer holds. CC123 releases every HELD or SUSTAINED voice of its channel (or of the member channels of its master), CC120 ramps every voice of it to silence, CC121 returns the channel's sources to their defaults. FOR_PANIC of the pool's owner does the first two for all its channels; another tenancy's write is denied. (R92, R138, R139, R141, R142, R192) -/
def Obligations.ControllersAndPanic : Prop :=
  (∀ (s : State) (p : Fin 32) (n : Nat) (r : PoolRec) (e : EventWord), onTop s p .controller n r e → Does (.channelController p) s fun t =>
    let x := s.pools.get p.val
    let y := t.pools.get p.val
    y.lane = x.lane.drop 1 ∧ y.claims = x.claims ∧ keptBut [.pools] s t ∧
    (e.fold = false → bits e.w0 23 20 = 14 → (y.chan e.group e.channel).bend = e.w1 ∧ y.notes = x.notes) ∧
    (e.fold = false → bits e.w0 23 20 = 13 → (y.chan e.group e.channel).press = e.w1 ∧ y.notes = x.notes) ∧
    (bits e.w0 23 20 = 11 → e.index = 1 → (y.chan e.group e.channel).mod = e.w1 ∧ y.notes = x.notes) ∧
    (e.fold = true → bits e.w0 23 20 = 14 → (∀ k, (y.noteSrc e.group e.channel k).bend = e.w1) ∧ y.chans = x.chans) ∧
    (bits e.w0 23 20 = 10 → (y.noteSrc e.group e.channel e.index).press = e.w1 ∧ y.chans = x.chans)) ∧
  (∀ (s : State) (p : Fin 32) (n : Nat) (r : PoolRec) (e : EventWord), onTop s p .management n r e → Does (.perNoteManagement p) s fun t =>
    (t.pools.get p.val).chans = (s.pools.get p.val).chans ∧ keptBut [.pools] s t ∧
    (e.w0.getLsbD 0 = true → let z := (t.pools.get p.val).noteSrc e.group e.channel e.index
      z.bend = 0x80000000#32 ∧ z.press = 0#32 ∧ z.timbre = timbreDefault ∧ z.ctl = Bank.all 4 0#32) ∧
    (e.w0.getLsbD 0 = false → (t.pools.get p.val).notes = (s.pools.get p.val).notes)) ∧
  (∀ (s : State) (p : Fin 32) (n : Nat) (r : PoolRec) (e : EventWord), onTop s p .sustain n r e → Does (.sustainChange p) s fun t =>
    ((t.pools.get p.val).chan e.group e.channel).sustain = e.w1 ∧ keptBut [.pools, .gills] s t ∧
    slotsChanged s t p.val r (fun v => v.key == .sustained && !t.sustained p.val v) Voice.release) ∧
  (∀ (s : State) (p : Fin 32) (n : Nat) (r : PoolRec) (e : EventWord),
    (onTop s p .notesOff n r e → Does (.allNotesOff p) s fun t => keptBut [.pools, .gills] s t ∧
      slotsChanged s t p.val r (fun v => s.onChannel n p.val e v && v.key != .released) Voice.release) ∧
    (onTop s p .soundOff n r e → Does (.allSoundOff p) s fun t => keptBut [.pools, .gills] s t ∧
      slotsChanged s t p.val r (s.onChannel n p.val e) Voice.silence) ∧
    (onTop s p .reset n r e → Does (.resetAllControllers p) s fun t => keptBut [.pools, .gills] s t ∧
      (t.pools.get p.val).chan e.group e.channel = ChanSrc.default e.group e.channel)) ∧
  (∀ (s : State) (t : Fin 8) (p : Fin 32) (n : Nat) (r : PoolRec), panicOpen s t p → s.poolRec p.val = some (n, r) →
    Does (.forPanicAllNotesOff t p) s (fun u => keptBut (.pools :: .gills :: accessing) s u ∧ (u.pools.get p.val).monoStacks = [] ∧
      slotsChanged s u p.val r (fun v => v.key != .released) Voice.release) ∧
    Does (.forPanicAllSoundOff t p) s fun u => keptBut (.pools :: .gills :: accessing) s u ∧ (u.pools.get p.val).monoStacks = [] ∧
      slotsChanged s u p.val r (fun _ => true) Voice.silence) ∧
  ∀ (s : State) (t : Fin 8) (p : Fin 32) (c : Instr), s.dev.phase = .running → s.poolOwner p.val ≠ some t.val →
    c = .forPanicAllNotesOff t p ∨ c = .forPanicAllSoundOff t p → Does c s fun u => deniedTo s u t.val (0x140018 + 0x80 * p.val) true false

/-- VOICE_END frees a slot whose gating envelope is done while it sounds or releases, or that faulted; SILENCE_END one whose ramp to silence has run; SHADOW_FADE_END a shadow slot and CUT_END the cut lane whose fade has run or whose envelope is done. Each leaves a slot of any other kind, every other slot, the voice that waits for the slot and the slot's free-running LFOs as they were. (R149, R150, R176, R180, R184, R186, R188) -/
def Obligations.VoiceEnds : Prop :=
  (∀ (s : State) (g : Fin 48) (k : Fin 16), let v := (s.slot g k).cur
    (v.isOver = true → Does (.voiceEnd g k) s fun t => t.slot g k = { (s.slot g k) with cur := Voice.none } ∧
      (∀ h < 48, ∀ j < 16, (h, j) ≠ (g.val, k.val) → t.slot h j = s.slot h j) ∧ t.pools = s.pools ∧ keptBut [.gills, .pumps] s t) ∧
    (v.isOver = false → exec (.voiceEnd g k) s = .next s) ∧
    (v.state = .silencing → v.left = 0 → Does (.silenceEnd g k) s fun t => t.slot g k = { (s.slot g k) with cur := Voice.none } ∧
      (∀ h < 48, ∀ j < 16, (h, j) ≠ (g.val, k.val) → t.slot h j = s.slot h j) ∧ keptBut [.gills, .pumps] s t) ∧
    (v.state ≠ .silencing ∨ v.left ≠ 0 → exec (.silenceEnd g k) s = .next s)) ∧
  (∀ (s : State) (g : Fin 48) (h : Fin 2), let v := (s.gills.get g.val).shadows.get h.val
    (v.state = .fading → v.fadeC ≤ v.fadeJ ∨ v.ended = true → Does (.shadowFadeEnd g h) s fun t =>
      ((t.gills.get g.val).shadows.get h.val) = Voice.none ∧ (t.gills.get g.val).slots = (s.gills.get g.val).slots ∧
      (t.gills.get g.val).cut = (s.gills.get g.val).cut ∧ (∀ j < 48, j ≠ g.val → t.gills.get j = s.gills.get j) ∧ keptBut [.gills, .pumps] s t) ∧
    (v.state ≠ .fading → v.state ≠ .cutting → exec (.shadowFadeEnd g h) s = .next s)) ∧
  ∀ (s : State) (g : Fin 48), let v := (s.gills.get g.val).cut
    (v.state = .cutting → v.fadeC ≤ v.fadeJ ∨ v.ended = true → Does (.cutEnd g) s fun t =>
      (t.gills.get g.val).cut = Voice.none ∧ (t.gills.get g.val).slots = (s.gills.get g.val).slots ∧
      (t.gills.get g.val).shadows = (s.gills.get g.val).shadows ∧ keptBut [.gills, .pumps] s t) ∧
    (v.state = .cutting → v.fadeJ < v.fadeC → v.ended = false → exec (.cutEnd g) s = .next s)

/-- At a tick boundary of a structure (frame index a multiple of its tick) an armed pending bank becomes the active one with the frame in MYC_SWAPFRAME, ARM clears, the macros of the next tick take effect and targets fall due; at any other boundary nothing changes. MYC_ARM with bit 0 arms; of a structure that the tenancy has not, it is denied. A finite macro value is set for the next tick boundary of every structure of the tenancy; a rate of 0.001 to 1,000 Hz is the rate of its global LFO. A non-finite macro value and a rate outside leave the register and raise ES1004. (R6, R8, R92, R193, R198, R202, R206, R207) -/
def Obligations.MyceliumRegisters : Prop :=
  (∀ (s : State) (t : Fin 8) (id : Fin 64) (x : MycStruct), s.dev.phase = .running → s.mycStruct t id = some x → x.tickDue = false →
    ((s.time.frameIdx + 1#64).toNat % 2 ^ (s.tcfg t).tickLog id = 0 → Does (.tickBoundary t id) s fun u =>
      u.mycStruct t id = some { x with
        active := if x.arm = true then x.pend else x.active, swapFrame := if x.arm = true then lo32 (s.time.frameIdx + 1#64) else x.swapFrame,
        arm := false, macros := x.macrosNext, wellMacros := [], wellDepths := [], tickDue := true } ∧
      (∀ j, j ≠ id.val → u.mycStruct t j = s.mycStruct t j) ∧ (∀ n < 8, n ≠ t.val → u.myc.get n = s.myc.get n) ∧ keptBut [.myc] s u) ∧
    ((s.time.frameIdx + 1#64).toNat % 2 ^ (s.tcfg t).tickLog id ≠ 0 → exec (.tickBoundary t id) s = .next s)) ∧
  (∀ (s : State) (t : Fin 8) (id : Fin 64) (v : Word), inRun s t →
    (∀ x, s.mycStruct t id = some x → v.getLsbD 0 = true → Does (.mycArm t id v) s fun u =>
      u.mycStruct t id = some { x with arm := true } ∧ (∀ j, j ≠ id.val → u.mycStruct t j = s.mycStruct t j) ∧
      (∀ n < 8, n ≠ t.val → u.myc.get n = s.myc.get n) ∧ keptBut (.myc :: accessing) s u) ∧
    (s.mycStruct t id = none → Does (.mycArm t id v) s fun u => deniedTo s u t (0x160004 + 0x800 * id.val) true false)) ∧
  (∀ (s : State) (t : Fin 8) (m : Fin 4) (v : Word), inRun s t →
    (fIsFinite v = true → Does (.mycMacroWrite t m v) s fun u =>
      (∀ x ∈ (u.myc.get t).structs, x.macrosNext.get m = v) ∧ (u.myc.get t).macros = (s.myc.get t).macros.put m v ∧
      (u.myc.get t).structs.map MycStruct.macros = (s.myc.get t).structs.map MycStruct.macros ∧
      (u.myc.get t).glfos = (s.myc.get t).glfos ∧ (∀ n < 8, n ≠ t.val → u.myc.get n = s.myc.get n) ∧ keptBut (.myc :: accessing) s u) ∧
    (fIsFinite v = false → Does (.mycMacroWrite t m v) s fun u => pendingSource u 1004 ∧ keptBut accessing s u)) ∧
  ∀ (s : State) (t g : Fin 8) (v : Word), inRun s t →
    (rateAllowed v = true → Does (.mycGlfoRateWrite t g v) s fun u => u.myc = s.myc.upd t (fun x =>
      { x with glfos := x.glfos.upd g fun y => { y with rate := v } }) ∧ keptBut (.myc :: accessing) s u) ∧
    (rateAllowed v = false → Does (.mycGlfoRateWrite t g v) s fun u => pendingSource u 1004 ∧ keptBut accessing s u)

/-- SET_MACRO, SET_BUS_GAIN, SET_ROUTE_DEPTH and SET_BYPASS with a resource of their tenancy and an allowed argument set their parameter (value times argument) for the next boundary; from a reflex rule they give way to what a CMD well has set for that boundary. EMIT_EVENT puts a MIDI 1.0 message at the end of its tenancy's reflex ingress while that has room; POST_HOST stores a REFLEX record in an EVT well of the tenancy with room. One that names what its tenancy does not own, or whose argument is not allowed, changes nothing and is counted. An EVENT entry hands its 1 to 3 events to the host ingress, waits while that lacks room, and with another count is consumed with CMD_ERR. (R113, R115, R116, R120, R130) -/
def Obligations.ShortCommandsRun : Prop :=
  (∀ (s : State) (o : ShortOrigin) (n : Fin 8) (c : ShortCmd), s.shortAt o 0x40 = some (n.val, c) →
    (fIsFinite (gMul c.value c.arg1) = true → Does (.setMacro o) s fun t =>
      (∀ x ∈ (t.myc.get n).structs, x.macrosNext.get (bits c.arg0 1 0) = gMul c.value c.arg1 ∨
        (wellOrigin o = false ∧ bits c.arg0 1 0 ∈ x.wellMacros)) ∧ (∀ k < 8, k ≠ n.val → t.myc.get k = s.myc.get k) ∧
      keptBut (.myc :: taking) s t) ∧
    (fIsFinite (gMul c.value c.arg1) = false → Does (.setMacro o) s fun t => ignored s t o n ∧ keptBut taking s t)) ∧
  (∀ (s : State) (o : ShortOrigin) (n : Fin 8) (c : ShortCmd), s.shortAt o 0x41 = some (n.val, c) →
    let b := bits c.arg0 5 0
    let v := gMul c.value c.arg1
    (s.periphOwner pcBus b = some n.val → gainAllowed v = true → Does (.setBusGain o) s fun t =>
      t.spout = (if wellOrigin o = false ∧ (0x41, b) ∈ (s.qports.get n).wellSet then s.spout else
        { s.spout with buses := s.spout.buses.upd b fun x => { x with target := v, from_ := x.gain, left := 32 } }) ∧
      keptBut (.spout :: taking) s t) ∧
    (s.periphOwner pcBus b ≠ some n.val ∨ gainAllowed v = false → Does (.setBusGain o) s fun t => ignored s t o n ∧ keptBut taking s t)) ∧
  (∀ (s : State) (o : ShortOrigin) (n : Fin 8) (c : ShortCmd) (x : MycStruct), s.shortAt o 0x42 = some (n.val, c) →
    s.mycStruct n (bits c.arg0 5 0) = some x → bits c.arg0 14 8 < x.pend.length → fIsFinite (gMul c.value c.arg1) = true →
    Does (.setRouteDepth o) s fun t => (∃ y, t.mycStruct n (bits c.arg0 5 0) = some y ∧ y.arm = true ∧ y.active = x.active ∧
        y.pend = (if wellOrigin o = false ∧ bits c.arg0 14 8 ∈ x.wellDepths then x.pend
          else x.pend.set (bits c.arg0 14 8) (gMul c.value c.arg1))) ∧ (∀ k < 8, k ≠ n.val → t.myc.get k = s.myc.get k) ∧
      keptBut (.myc :: taking) s t) ∧
  (∀ (s : State) (o : ShortOrigin) (n : Fin 8) (c : ShortCmd), s.shortAt o 0x43 = some (n.val, c) →
    let e := bits c.arg0 1 0
    let p := bits c.arg0 9 4
    s.engineOwner e = some n.val → (∃ r ∈ (s.tcfg n).spore.chain, r.engine = e ∧ r.position = p) → (0x43, e * 64 + p) ∉ (s.qports.get n).wellSet →
    Does (.setBypass o) s fun t => (t.engines.get e).bypNext.getLsbD p = gLe gHalf c.value ∧ (t.engines.get e).bypMask.getLsbD p = true ∧
      (∀ k < 64, k ≠ p → (t.engines.get e).bypNext.getLsbD k = (s.engines.get e).bypNext.getLsbD k) ∧
      (∀ k < 4, k ≠ e → t.engines.get k = s.engines.get k) ∧ keptBut (.engines :: taking) s t) ∧
  (∀ (s : State) (o : ShortOrigin) (n : Fin 8) (c : ShortCmd), s.shortAt o 0x44 = some (n.val, c) →
    (ingressMax ≤ (s.front.reflex.get n).length → exec (.emitEvent o) s = .next s) ∧
    ((s.front.reflex.get n).length < ingressMax → 0x80 ≤ bits c.arg0 7 0 → bits c.arg0 15 8 < 0x80 → bits c.arg0 23 16 < 0x80 →
      Does (.emitEvent o) s fun t => t.front = { s.front with reflex := s.front.reflex.upd n fun q => q ++
        [plainEvent (midiMsg 0 (BitVec.ofNat 8 (bits c.arg0 7 0)) (byteOf c.arg0 1) (byteOf c.arg0 2)) n] } ∧ keptBut (.front :: taking) s t)) ∧
  (∀ (s : State) (o : ShortOrigin) (n : Fin 8) (c : ShortCmd) (r : WellRec), s.shortAt o 0x45 = some (n.val, c) → quiet s → memoriesWf s →
    s.wellRec (bits c.arg0 7 0) = some (n.val, r) → r.type = .evt → (s.wells.get (bits c.arg0 7 0)).fill < wellCapacity r.k →
    Does (.postHost o) s fun t => let x := s.wells.get (bits c.arg0 7 0)
      (t.wells.get (bits c.arg0 7 0)).p = x.p + 1#16 ∧
      t.mem.cis.getBytes (r.entryAt x.p.toNat) 64 = evtRecord 3 x.lostBefore s.now [w32 c.rule, c.value] ∧ keptBut (.free :: taking) s t) ∧
  ∀ (s : State) (w : Fin 256) (n : Fin 8) (a : Nat), s.cmdEntry w = some (n.val, a) → (s.mem.cis.get a).toNat = 1 →
    let k := (s.mem.cis.get (a + 1)).toNat
    (1 ≤ k → k ≤ 3 → (s.front.host.get n).length + k ≤ ingressMax → Does (.event w) s fun t =>
      t.front = { s.front with host := s.front.host.upd n fun q => q ++ s.entryEvents n a k } ∧ keptBut (.front :: taking) s t) ∧
    (1 ≤ k → k ≤ 3 → ingressMax < (s.front.host.get n).length + k → exec (.event w) s = .next s) ∧
    (k = 0 ∨ 3 < k → Does (.event w) s fun t => ignored s t (.well w) n ∧ t.front = s.front ∧ keptBut taking s t)

/-- An accepted operation of a permit cost within the ceiling, with arguments that Table 12 and its own rule allow, waits for its permit with the cost of Table 12, unended and before its commit point; a TRUFFLE_JOB behind an earlier job of its engine does not ask yet. A CISTERN_HANDOVER that wipes nothing needs no permit: its cistern drains at once. SEAL_KEY_INSTALL of clean key bytes puts them into its slot and is done; CHECKPOINT in an owned range waits for the next boundary; POWER_PARK with an allowed fade is a software park. Of arguments that they do not allow: misaligned wipe or bulk arguments complete BAD_ARG, a range or resource of another tenancy NOT_OWNED, a SPAWN_TENANCY of a tenancy that is neither the steward nor the target with E_NOT_OWNED, a handover of a cistern that its tenancy has not released NOT_OWNED, PAIR_SYNC on a device that does not forward BAD_ARG, an AIN CALIBRATE of a faulty spare CAL_DISTURBED. (R52, R121, R125, R232, R259, R260, R262, R265, R302, R392) -/
def Obligations.LongOperationsEnter : Prop :=
  (∀ (s : State) (t : Fin 8), ∀ ck ∈ longRows t, let args := (s.qports.get t).args
    accepted s t ck.2 → wellPosed s t ck.2 args → 0 < costOf s ck.2 args → costOf s ck.2 args ≤ s.permitCeiling → Does ck.1 s fun u =>
      inFlight u (s.nextHandle t) fun o => o.ten = t ∧ o.code = ck.2 ∧ o.args = args ∧ o.cost = costOf s ck.2 args ∧ o.permit = .waiting ∧
        o.done = none ∧ o.committed = false ∧ o.submitted = s.now) ∧
  (∀ (s : State) (t : Fin 8), let args := (s.qports.get t).args
    let h := s.nextHandle t
    let c := (args.get 0).toNat
    (accepted s t .cisternHandover → wellPosed s t .cisternHandover args → s.handoverWipes args = false → Does (.cisternHandover t) s fun u =>
      (u.mem.banks.get c).draining = some h ∧ (∀ d < 24, d ≠ c → (u.mem.banks.get d).draining = (s.mem.banks.get d).draining) ∧
      inFlight u h fun o => o.cost = 0 ∧ o.permit = .notNeeded ∧ o.started = true ∧ o.done = none ∧ o.committed = false) ∧
    (accepted s t .truffleJob → bits (args.get 0) 9 8 ≤ 2 → (args.get 1).toNat < 4096 → s.engineOwner (jobEngine args) = some t.val →
      (∃ x, s.jobHead (jobEngine args) = some x ∧ (x.started = true ∨ x.permit ≠ .notNeeded)) → Does (.truffleJob t) s fun u =>
        inFlight u h fun o => o.permit = .notNeeded ∧ o.started = false ∧ o.done = none) ∧
    (accepted s t .checkpoint → s.ownsRange t c (args.get 1).toNat = true → Does (.checkpoint t) s fun u =>
      inFlight u h fun o => o.done = none ∧ o.permit = .notNeeded ∧ o.committed = false) ∧
    (accepted s t .powerPark → c = 0 ∨ (64 ≤ c ∧ c ≤ 4096) → s.supply.parking = none →
      Does (.powerPark t) s fun u => u.supply.swPark = true ∧ inFlight u h fun o => o.done = none)) ∧
  (∀ (s : State) (t : Fin 8), let args := (s.qports.get t).args
    let h := s.nextHandle t
    (accepted s t .cisternWipe → (args.get 0).toNat % 64 ≠ 0 ∨ (args.get 1).toNat % 64 ≠ 0 →
      Does (.cisternWipe t) s fun u => inFlight u h (ended · csBadArg)) ∧
    (accepted s t .cisternWipe → (args.get 0).toNat % 64 = 0 → (args.get 1).toNat % 64 = 0 →
      s.ownsRange t (args.get 0).toNat (args.get 1).toNat = false → Does (.cisternWipe t) s fun u => inFlight u h (ended · csNotOwned)) ∧
    (∀ ck ∈ [(Instr.pumpBulk t, LongCode.pumpBulk), (.sampleLoad t, .sampleLoad)], let a := bulkArgs ck.2 args
      (accepted s t ck.2 → 32 ≤ a.pump ∨ a.src % 64 ≠ 0 ∨ a.dst % 64 ≠ 0 ∨ a.len % 64 ≠ 0 ∨ (∃ k, a.slot = some k ∧ 64 ≤ k) →
        Does ck.1 s fun u => inFlight u h (ended · csBadArg)) ∧
      (accepted s t ck.2 → a.pump < 32 → a.src % 64 = 0 → a.dst % 64 = 0 → a.len % 64 = 0 → (∀ k, a.slot = some k → k < 64) →
        s.pumpOwner a.pump ≠ some t.val → Does ck.1 s fun u => inFlight u h (ended · csNotOwned))) ∧
    (accepted s t .spawnTenancy → t ≠ 0 → t.val ≠ (args.get 0).toNat →
      Does (.spawnTenancy t) s fun u => inFlight u h (ended · (csSpawn 0x11))) ∧
    (accepted s t .cisternHandover → (args.get 0).toNat < 24 → (∀ n, newOwner args = some n → s.present n = true) →
      (∃ k, k ≠ 0 ∧ s.cisOwner (args.get 0).toNat = some k) → (s.mem.banks.get (args.get 0).toNat).release = false →
      Does (.cisternHandover t) s fun u => inFlight u h (ended · csNotOwned)) ∧
    (accepted s t .pairSync → s.pair.forwarder = false → Does (.pairSync t) s fun u => inFlight u h (ended · csBadArg)) ∧
    (accepted s t .calibrate → (calArgs args).1 = 0 → wellPosed { s with filter := { s.filter with spareFault := false } } t .calibrate args →
      s.filter.spareFault = true → Does (.calibrate t) s fun u => inFlight u h (ended · csDisturbed))) ∧
  ∀ (s : State) (t : Fin 8), let args := (s.qports.get t).args
    let k := (args.get 0).toNat
    let x := (args.get 1).toNat
    accepted s t .sealKeyInstall → k < 64 → x % 64 = 0 → s.ownsRange t x 64 = true → s.keyOwner k = some t.val → s.mem.sealWiping = false →
      s.dev.tamperLow = false → quiet s → memoriesWf s → s.host.wcb = [] → eccView s.mem.cisEcc x 16 ≠ .uncorrectable →
      Does (.sealKeyInstall t) s fun u => u.mem.keys.get k = some (s.mem.cis.getBytes x 16) ∧
        (∀ j < 64, j ≠ k → u.mem.keys.get j = s.mem.keys.get j) ∧
        (∀ a, u.mem.cis.get a = (if (args.get 2).getLsbD 0 = true ∧ x ≤ a ∧ a < x + 64 then 0#8 else s.mem.cis.get a)) ∧
        inFlight u (s.nextHandle t) (ended · csDone)

/-- The request considered is a waiting one of the lowest class number that waits. It is granted when its cost fits in the pool beside the permits held, the supply level is 0, a job meets no thermal warning and no other SPAWN_TENANCY holds a permit; otherwise nothing changes. A granted wipe of a range that its tenancy still owns zeroes its first word and is past its commit point; a granted respawn goes on to VALIDATE. A request past its deadline that was never granted completes NO_PERMIT, counts for its tenancy and sets WL_STATUS bit 5; one that was granted before, or has no deadline, stays. The pool is the budget less the reserve and the leakage of temperature and process band. (R381, R382, R383, R384) -/
def Obligations.PermitsGranted : Prop :=
  (∀ (s : State) (o : LongOp), s.considered = some o → o ∈ s.ops ∧ o.permit = .waiting ∧
    ∀ x ∈ s.ops, x.permit = .waiting → s.permitClass o ≤ s.permitClass x) ∧
  (∀ (s : State) (o : LongOp), s.dev.phase.monitors = true → s.considered = some o → s.findOp o.handle = some o →
    (s.mayGrant o = true ↔ o.cost + s.duHeld ≤ s.windlass.pool ∧ s.supply.level = 0 ∧ (o.code = .truffleJob → s.windlass.warn = false) ∧
      (o.code = .spawnTenancy → ∀ x ∈ s.ops, x.code = .spawnTenancy → x.permit ≠ .granted)) ∧
    (s.mayGrant o = false → exec .permitGrant s = .next s) ∧
    (s.mayGrant o = true → (o.code = .cisternWipe → s.ownsRange o.ten (o.args.get 0).toNat (o.args.get 1).toNat = true) → Does .permitGrant s fun t =>
      inFlight t o.handle (fun x => x.permit = .granted ∧ x.everGranted = true ∧ x.done = o.done ∧ x.args = o.args ∧
        (o.code = .cisternWipe → o.started = false → x.committed = true)) ∧
      (o.code = .cisternWipe → o.started = false → o.progress = 0 → ∀ a, t.mem.cis.get a = 0#8 ∨
        (a < (o.args.get 0).toNat ∨ (o.args.get 0).toNat + 32 ≤ a ∨ (o.args.get 0).toNat + (o.args.get 1).toNat ≤ a)) ∧
      (o.code = .spawnTenancy → ∀ n < 8, n = (o.args.get 0).toNat → ∀ r, (s.ten.get n).respawn = some r → r.handle = o.handle →
        r.phase = .waitPermit → (t.ten.get n).respawn = some { r with phase := .validate }) ∧
      (o.code = .pumpBulk ∨ o.code = .sampleLoad ∨ o.code = .aquiferTrain → keptBut [.ops, .obs] s t))) ∧
  (∀ (s : State) (o : LongOp), s.findOp o.handle = some o → o.done = none → o.ten < 8 →
    (o.permit = .waiting → o.everGranted = false → o.deadline ≠ 0 → Does (.permitDeadline o.handle) s fun t =>
      inFlight t o.handle (ended · csNoPermit) ∧ t.windlass.noPermit.get o.ten = errCount (s.windlass.noPermit.get o.ten) 1 ∧
      t.windlass.status.getLsbD 5 = true ∧ keptBut (.ops :: .windlass :: reporting) s t) ∧
    (o.permit ≠ .waiting ∨ o.everGranted = true ∨ o.deadline = 0 → exec (.permitDeadline o.handle) s = .next s)) ∧
  ∀ s : State, s.dev.phase.monitors = true → Does .permitPoolUpdate s fun t =>
    t.windlass = { s.windlass with leak := leakage s.windlass.tj s.windlass.band.toNat,
                                   pool := s.cfg.dev.budget - s.windlass.reserve - leakage s.windlass.tj s.windlass.band.toNat } ∧
    keptBut [.windlass] s t

/-- When an old owner's accepted requests have drained, the cistern has the new owner and its RELEASE is clear; without a wipe the operation is done, with one the cistern goes on to wipe. At the end of a wipe every byte that it had still to pass reads as zero and every other byte as before, and the operation is DONE; a handover's wipe passes its whole cistern, whose CIS_STATUS has WIPE_DONE; a wipe whose range has lost its owner completes NOT_OWNED and changes no byte. CIS_RELEASE of the owner sets or clears RELEASE; clearing it while the cistern drains ends the handover ABORTED; another tenancy's write is denied. (R92, R258, R259, R260) -/
def Obligations.CisternsHandedOverAndWiped : Prop :=
  (∀ (s : State) (c : Fin 24) (h : Word) (o : LongOp), (s.mem.banks.get c).draining = some h → s.findOp h = some o → o.done = none →
    Does (.handoverCommit c) s fun t => t.cisOwner c = newOwner o.args ∧ (t.mem.banks.get c).release = false ∧
      (t.mem.banks.get c).draining = none ∧ (∀ d < 24, d ≠ c.val → t.cisOwner d = s.cisOwner d) ∧
      (o.cost = 0 → inFlight t h fun x => x.committed = true ∧ ended x csDone) ∧
      (0 < o.cost → (t.mem.banks.get c).wiping = some h ∧ inFlight t h fun x => x.committed = true ∧ x.done = none)) ∧
  (∀ (s : State) (c : Fin 24) (h : Word) (o : LongOp), (s.mem.banks.get c).wiping = some h → s.findOp h = some o → o.done = none → quiet s →
    s.mem.held = [] → memoriesWf s → Does (.handoverWipeDone c) s fun t => (t.mem.banks.get c).wiping = none ∧
      (∀ a, t.mem.cis.get a = (if c.val * cisBytes ≤ a ∧ a < c.val * cisBytes + cisBytes then 0#8 else s.mem.cis.get a)) ∧
      (t.mem.banks.get c).status.getLsbD 3 = true ∧ inFlight t h (ended · csDone) ∧ keptBut [.mem, .ops, .evs, .obs, .pair] s t) ∧
  (∀ (s : State) (o : LongOp), s.findOp o.handle = some o → o.code = .cisternWipe → o.done = none → quiet s → memoriesWf s →
    let x := (o.args.get 0).toNat
    let n := (o.args.get 1).toNat
    (o.committed = true → s.ownsRange o.ten x n = true → Does (.cisternWipeDone o.handle) s fun t =>
      (∀ a, t.mem.cis.get a = (if x + o.progress ≤ a ∧ a < x + n then 0#8 else s.mem.cis.get a)) ∧
      inFlight t o.handle (ended · csDone) ∧ keptBut [.mem, .ops, .evs, .obs, .pair] s t) ∧
    (o.committed = true → s.ownsRange o.ten x n = false → Does (.cisternWipeDone o.handle) s fun t =>
      inFlight t o.handle (ended · csNotOwned) ∧ keptBut [.ops, .obs] s t) ∧
    (o.committed = false → exec (.cisternWipeDone o.handle) s = .next s)) ∧
  ∀ (s : State) (t : Fin 8) (c : Fin 24) (v : Word), s.dev.phase = .running →
    (s.seen t = true → s.cisOwner c = some t.val → (s.mem.banks.get c).draining = none → Does (.cisReleaseWrite t c v) s fun u =>
      (u.mem.banks.get c).release = v.getLsbD 0 ∧ keptBut (.mem :: accessing) s u) ∧
    (∀ h o, s.seen t = true → s.cisOwner c = some t.val → (s.mem.banks.get c).draining = some h → (s.mem.banks.get c).release = true →
      v.getLsbD 0 = false → s.findOp h = some o → o.done = none → Does (.cisReleaseWrite t c v) s fun u =>
        (u.mem.banks.get c).draining = none ∧ u.cisOwner c = some t.val ∧ inFlight u h (ended · csAborted)) ∧
    (s.cisOwner c ≠ some t.val → Does (.cisReleaseWrite t c v) s fun u => deniedTo s u t (0x200004 + 0x40 * c.val) true false)

/-- A PUMP_BULK of one line, head of its pump and free to run with no ring to fill before it, with both pages translated into its tenancy's cisterns and no error in the line, copies the 64 bytes, changes no other byte and completes DONE with 64 bytes as result 0. A stream fill takes the next line of the stream that holds the fewest frames ahead, or the two lines that a frame straddles, each translated by itself, and writes the frames to the ring, whose fill advances by them. The oldest stream that waits takes a freed context; with none waiting or none free nothing changes. FLUSH by the pump's owner drops its cached translations; another tenancy is denied. (R92, R125, R274, R275, R276, R277) -/
def Obligations.PumpsMoveData : Prop :=
  (∀ (s : State) (p : Fin 32) (o : LongOp) (x y : Nat), s.dev.phase = .running → s.findOp o.handle = some o → s.bulkHead p = some o →
    o.code = .pumpBulk → o.mayRun = true → o.progress = 0 → (s.pumps.get p).buffer = [] → s.pumpOwner p = some o.ten → s.mem.cisEcc = [] →
    s.streamPick p = none → quiet s → memoriesWf s → let a := bulkArgs .pumpBulk o.args
    a.len = 64 → cachedAt s p o.ten a.src x false → cachedAt s p o.ten a.dst y true → Does (.bulkDone o.handle) s fun t =>
      t.mem.cis.getBytes y 64 = s.mem.cis.getBytes x 64 ∧ (∀ b, b < y ∨ y + 64 ≤ b → t.mem.cis.get b = s.mem.cis.get b) ∧
      inFlight t o.handle (fun z => z.committed = true ∧ ∃ c, z.done = some c ∧ c.status = csDone ∧ c.res = [64#32, 0#32, 0#32]) ∧
      (t.pumps.get p).buffer = []) ∧
  (∀ (s : State) (p : Fin 32) (n k v u a m c0 c1 : Nat) (x : Stream), s.dev.phase = .running → s.pumpOwner p = some n →
    s.streamPick p = some (k, x) → s.streamPos x = some (v, u) → x.nextLine u = some (a, m) → cachedAt s p n (a - a % 64) c0 false →
    a % 64 + m * x.frameBytes ≤ 64 ∨ cachedAt s p n (a - a % 64 + 64) c1 false → (s.pumpRec p).bind PumpRec.keySlot = none → s.mem.cisEcc = [] → x.gill < 48 → quiet s → Does (.pumpStreamFill p) s fun t =>
      t.streamPos x = some (v, u + m) ∧ (t.gills.get x.gill).trough = ringWrite (s.gills.get x.gill).trough x u
        ((s.mem.cis.getBytes c0 64 ++ if a % 64 + m * x.frameBytes ≤ 64 then [] else s.mem.cis.getBytes c1 64).drop (a % 64)) m ∧
      (∀ g < 48, g ≠ x.gill → t.gills.get g = s.gills.get g) ∧ keptBut [.gills, .obs, .evs] s t) ∧
  (∀ (s : State) (p : Fin 32), let q := s.pumps.get p
    (∀ x rest k, q.waiting = x :: rest → q.streams.toList.findIdx? (fun c => c.isNone) = some k → Does (.streamContextWaitEnd p) s fun t =>
      (t.pumps.get p).waiting = rest ∧ (t.pumps.get p).streams = q.streams.put k (some x) ∧ (t.pumps.get p).noctx = q.noctx ∧
      keptBut [.pumps] s t) ∧
    (q.waiting = [] ∨ (∀ c ∈ q.streams.toList, c ≠ none) → exec (.streamContextWaitEnd p) s = .next s)) ∧
  ∀ (s : State) (t : Fin 8) (p : Fin 32) (v : Word), s.dev.phase = .running →
    (s.seen t = true → s.pumpOwner p = some t.val → v.getLsbD 0 = true → Does (.puFlush t p v) s fun u =>
      u.pumps.get p = { (s.pumps.get p) with cache := [] } ∧ (∀ q < 32, q ≠ p.val → u.pumps.get q = s.pumps.get q) ∧
      keptBut (.pumps :: accessing) s u) ∧
    (s.pumpOwner p ≠ some t.val → Does (.puFlush t p v) s fun u => deniedTo s u t (0x210004 + 0x100 * p.val) true false)

/-- A read miss of an engine gets a line that none holds in E, and shares one that others hold, a modified one after its write-back. An ownership request makes the line its engine's, modified, drops every other copy and moves the pointer one past the engine. The eviction of a modified line writes it back and leaves no entry; a pump's read of a modified line leaves it shared with its holder. None of these changes the line's data. A pump's write of a line invalidates every copy and is what the line then holds. An engine that already owns the line it asks for changes nothing, and so does an address outside its owner's partition. Every step keeps the lines of the L1 caches at 64 bytes. (R271, R272) -/
def Obligations.DirectoryKeepsLines : Prop :=
  (∀ s t : State, wholeLines s → step s = .next t → wholeLines t) ∧
  ∀ (s : State) (e : Fin 4) (addr : Nat), memoriesWf s → wholeLines s → let line := addr / 64
    (s.l1Line e addr = false → exec (.directoryGets e addr) s = .next s ∧ exec (.directoryGetm e addr) s = .next s ∧
      exec (.directoryPutm e addr) s = .next s) ∧
    (s.l1Line e addr = true → ∀ d : List Byte, d.length = 64 →
      (lineIs s line none d → Does (.directoryGets e addr) s fun t => lineIs t line (some (.exclusive e)) d ∧ keptBut [.mem, .obs] s t) ∧
      (∀ l, lineIs s line (some (.shared l)) d → e.val ∉ l → Does (.directoryGets e addr) s fun t =>
        lineIs t line (some (.shared (l ++ [e.val]))) d ∧ keptBut [.mem, .obs] s t) ∧
      (∀ h, h ≠ e.val → lineIs s line (some (.exclusive h)) d ∨ lineIs s line (some (.modified h)) d → Does (.directoryGets e addr) s fun t =>
        lineIs t line (some (.shared [h, e.val])) d ∧ keptBut [.mem, .obs] s t) ∧
      (∀ f, lineIs s line f d → f ≠ some (.modified e.val) → Does (.directoryGetm e addr) s fun t =>
        lineIs t line (some (.modified e.val)) d ∧ t.mem.pointer = (e.val + 1) % 4 ∧ keptBut [.mem, .obs] s t) ∧
      (lineIs s line (some (.modified e.val)) d → exec (.directoryGets e addr) s = .next s ∧ exec (.directoryGetm e addr) s = .next s ∧
        Does (.directoryPutm e addr) s fun t => lineIs t line none d ∧ keptBut [.mem] s t)) ∧
    ∀ p : Fin 32, s.pumpLine p addr = true →
      (∀ h d, d.length = 64 → lineIs s line (some (.modified h)) d → Does (.pumpCoherentRead p addr) s fun t =>
        lineIs t line (some (.shared [h])) d ∧ keptBut [.mem] s t) ∧
      (∀ d f data, d.length = 64 → lineIs s line f d → data.length = 64 → Does (.pumpCoherentWrite p addr data) s fun t =>
        lineIs t line none data ∧ (∀ a, a < line * 64 ∨ line * 64 + 64 ≤ a → t.mem.aq.get a = s.mem.aq.get a) ∧ keptBut [.mem] s t)

/-- In the states that power the cisterns, one scrub cycle moves each cistern on by one word: a clean word and an uncorrectable one at once (the latter counted), a correctable one after the cycle in which it is found, counted lane by lane and then written back clean. With no wipe under way it changes no byte; a wipe under way has taken 31 to 63 words in the cycles before it (R260; where its position moves is the model's choice, log entry 115). Elsewhere it does nothing. TAMPER_N low, in every state but OFF and once until it is released, wipes the sealed cistern with every key slot and sets SUP_STATUS bit 5; its release changes the pin alone. The end of the wipe raises ES0888. (R257, R263, R279, R394) -/
def Obligations.ScrubAndSealedCistern : Prop :=
  (∀ s : State, s.dev.phase ∉ [DevPhase.off, .aon, .dormantK, .dormantL] → quiet s → (∀ c < 24, (s.mem.banks.get c).scrubPos < 65536) →
    (∀ o ∈ s.ops, o.code = .cisternWipe → o.committed = true → o.done ≠ none) → Does .scrubCycle s fun t => t.mem.cis = s.mem.cis ∧ keptBut [.mem, .evs] s t ∧ ∀ c < 24, let b := s.mem.banks.get c
      let r := t.mem.banks.get c
      let x := c * cisBytes + b.scrubPos * 32
      let next := (b.scrubPos + 1) % 65536
      if b.writeBack = true then r = { b with scrubPos := next, writeBack := false } ∧ eccView t.mem.cisEcc x 32 ≠ .corrected
      else match eccView s.mem.cisEcc x 32 with
        | .clean => r = { b with scrubPos := next, writeBack := false }
        | .corrected => r.writeBack = true ∧ r.scrubPos = b.scrubPos ∧
            r.cecc = errCount b.cecc (eccHits s.mem.cisEcc x 32).length
        | .uncorrectable => r.writeBack = false ∧ r.scrubPos = next ∧
            r.uecc = errCount b.uecc ((eccHits s.mem.cisEcc x 32).filter Prod.snd).length) ∧
  (∀ (s : State) (o : LongOp), s.dev.phase ∉ [DevPhase.off, .aon, .dormantK, .dormantL] → quiet s → memoriesWf s → s.ops = [o] →
    o.code = .cisternWipe → o.committed = true → o.done = none → s.ownsRange o.ten (o.args.get 0).toNat (o.args.get 1).toNat = true →
    o.progress ≤ (o.args.get 1).toNat → Does .scrubCycle s fun t => ∃ q, t.ops = [{ o with progress := q }] ∧
      min (o.args.get 1).toNat (o.progress + 992) ≤ q ∧ q ≤ min (o.args.get 1).toNat (o.progress + 2016) ∧
      ∀ a, t.mem.cis.get a = if (o.args.get 0).toNat + o.progress ≤ a ∧ a < (o.args.get 0).toNat + q then 0#8 else s.mem.cis.get a) ∧
  (∀ s : State, s.dev.phase ∈ [DevPhase.off, .aon, .dormantK, .dormantL] → exec .scrubCycle s = .next s) ∧
  (∀ s : State, s.dev.phase ≠ .off → s.dev.tamperLow = false → Does .tamper s fun t => t.dev = { s.dev with tamperLow := true } ∧
    (∀ k < 64, t.mem.keys.get k = none) ∧ t.mem.sealedData = [] ∧ t.mem.sealWiping = true ∧ t.supply.status.getLsbD 5 = true ∧
    keptBut (.dev :: .supply :: reporting) s t) ∧
  (∀ s : State, s.dev.phase = .off ∨ s.dev.tamperLow = true → exec .tamper s = .next s) ∧
  (∀ s : State, s.dev.phase ≠ .off → Does .tamperRelease s fun t => t.dev = { s.dev with tamperLow := false } ∧ keptBut [.dev] s t) ∧
  ∀ s : State, (s.mem.sealWiping = true → Does .sealedWipeDone s fun t => t.mem.sealWiping = false ∧ pendingSource t 888 ∧
    keptBut reporting s t) ∧ (s.mem.sealWiping = false → exec .sealedWipeDone s = .next s)

/-- A refresh window of an awake aquifer runs at most one step: of a training that may run, otherwise a due ZQ calibration, otherwise a due DQS check. A training step is past its commit point; the last of 256 for each channel named ends the operation DONE, with inline ECC of an aquifer in use as AQ_CTRL has it. With inline ECC the patrol moves on by one line, from the last of the memory fitted to the first. ZQ and DQS fall due while the aquifer is awake and change nothing otherwise. AQ_CTRL of the steward sets what the next training takes; another tenancy is denied. (R92, R266, R268, R269, R282) -/
def Obligations.AquiferController : Prop :=
  (∀ (s : State) (v : EccView) (ok : Bool), aqAwake s → s.trainer = none → Does (.aquiferRefresh v ok) s fun t =>
    t.aq.zqDue = false ∧ t.aq.dqsDue = (s.aq.dqsDue && s.aq.zqDue) ∧ s.aq.winMax ≤ t.aq.winMax ∧ t.ops = s.ops ∧
    t.aq.patrol = (if s.aq.iecc = false then s.aq.patrol else if s.aq.patrol + 1 < s.aq.raw * 1048576 / 64 then s.aq.patrol + 1 else 0) ∧
    keptBut (.aq :: .free :: reporting) s t) ∧
  (∀ (s : State) (v : EccView) (ok : Bool) (o : LongOp), aqAwake s → s.trainer = some o → s.findOp o.handle = some o →
    let last := 256 * maskCount (bits (o.args.get 0) 1 0)
    Does (.aquiferRefresh v ok) s fun t => t.aq.zqDue = s.aq.zqDue ∧ t.aq.dqsDue = s.aq.dqsDue ∧
      inFlight t o.handle (fun x => x.committed = true ∧ x.progress = o.progress + 1 ∧
        (o.progress + 1 < last → x.done = none) ∧ (last ≤ o.progress + 1 → ended x csDone)) ∧
      (last ≤ o.progress + 1 → s.aq.trained = true → t.aq.iecc = s.aq.ctrl ∧ t.aq.cap = (if s.aq.ctrl = true then 7 * s.aq.raw / 8 else s.aq.raw))) ∧
  (∀ s : State, aqAwake s → Does .zqCalibration s (fun t => t.aq = { s.aq with zqDue := true } ∧ keptBut [.aq] s t) ∧
    Does .dqsDriftCheck s fun t => t.aq = { s.aq with dqsDue := true } ∧ keptBut [.aq] s t) ∧
  (∀ s : State, s.aq.selfRefresh = true ∨ s.aq.deepDown = true → exec .zqCalibration s = .next s ∧
    exec .dqsDriftCheck s = .next s ∧ ∀ v ok, exec (.aquiferRefresh v ok) s = .next s) ∧
  ∀ (s : State) (t : Fin 8) (v : Word), s.dev.phase = .running →
    (t = 0 → Does (.aqCtrlWrite t v) s fun u => u.aq = { s.aq with ctrl := v.getLsbD 0 } ∧ keptBut (.aq :: accessing) s u) ∧
    (t ≠ 0 → Does (.aqCtrlWrite t v) s fun u => deniedTo s u t 0x220104 true false)

/-- The first read that fails ends the operation with its error code in RESPAWN_ERR and in the completion and its place in SPAWN_ERR_OFS and SPAWN_ERR_LOC (DEDUCED, log entry 108), and the old configuration goes on from the next boundary; one that passes is kept. At the first boundary after the grant the target's fade gain starts towards 0.0 over 64 frames and its scheduled events are dropped; when the fade has run, every slot of its gills is free. A second read that fails, or gives another word, after the target's operations have ended leaves the tenancy unspawned with E_APPLY; one like the first reaches the commit, which at the boundary makes the new configuration active, advances the generation, clears RESPAWN_ERR, ramps the outputs up over 64 frames and completes DONE, with every other tenancy's configuration as it was. (R50, R51, R52, R53, R54, R56, R57, R58) -/
def Obligations.RespawnPhases : Prop :=
  (∀ (s : State) (n : Fin 8) (r : Respawn) (o : LongOp), s.respawnNow n = some (r, o) → r.phase = .validate ∨ r.phase = .quiesce →
    r.validated = false → Does (.respawnValidate n) s fun t => match s.readPartial o with
      | .error e => (t.ten.get n).respawnErr = BitVec.ofNat 8 e.code ∧ (t.ten.get n).respawn = some { r with phase := .resume } ∧
          (t.ten.get n).spawned = (s.ten.get n).spawned ∧ inFlight t r.handle (ended · (csSpawn e.code)) ∧
          t.spawn = { s.spawn with errOfs := w32 e.ofs, errLoc := w32 (e.sec % 65536 + fld e.tag 16) } ∧
          keptBut (.ten :: .ops :: .spawn :: reporting) s t
      | .ok b => (t.ten.get n).respawn = some { r with
            validated := true, phase := if r.faded = true then .write else r.phase, cfg := b.tc n, sections := b.raw.reverse,
            words := s.imageWords o, reserve := reservation b.dev b.ten.toList } ∧ keptBut (.ten :: reporting) s t) ∧
  (∀ (s : State) (n : Fin 8) (r : Respawn), s.dev.phase = .running → (s.ten.get n).respawn = some r →
    (r.phase = .validate ∨ r.phase = .quiesce → r.quiesced = false → (s.ten.get n).drop ≤ 65535 → Does (.respawnQuiesce n) s fun t =>
      (t.ten.get n).respawn = some { r with phase := .quiesce, quiesced := true, fadeLeft := 64 } ∧ t.front.sched.get n = [] ∧
      t.spout.fades.get n = { from_ := (s.spout.fades.get n).gain, target := 0#32, len := 64, pos := 0 } ∧
      (t.ten.get n).drop = errCount (s.ten.get n).drop (s.front.sched.get n).length ∧ keptBut (.ten :: .front :: .spout :: reporting) s t) ∧
    (r.phase = .quiesce → r.quiesced = true → r.fadeLeft = 0 → r.faded = false → Does (.respawnFadeEnd n) s fun t =>
      (t.ten.get n).respawn = some { r with faded := true, phase := if r.validated = true then .write else .quiesce } ∧
      (∀ g < 48, s.gillOwner g = some n.val → ∀ k < 16, (t.slot g k).cur = Voice.none ∧ (t.slot g k).next = none) ∧
      (∀ g < 48, s.gillOwner g ≠ some n.val → t.gills.get g = s.gills.get g) ∧ keptBut [.ten, .gills, .pools, .pumps] s t)) ∧
  (∀ (s : State) (n : Fin 8) (r : Respawn) (o : LongOp), s.respawnNow n = some (r, o) → r.phase = .write →
    (∀ x ∈ s.ops, x.ten = n.val → x.handle = r.handle ∨ x.done.isSome = true) →
    ((∃ e, s.readPartial o = .error e) ∨ s.imageWords o ≠ r.words → Does (.respawnWrite n) s fun t => (t.ten.get n).spawned = false ∧ (t.ten.get n).respawn = none ∧
      (t.ten.get n).respawnErr = BitVec.ofNat 8 eApply ∧ inFlight t r.handle (ended · (csSpawn eApply)) ∧ (t.tcfg n).structs = []) ∧
    (∀ b, s.readPartial o = .ok b → b.tc n = r.cfg → b.raw.reverse = r.sections → s.imageWords o = r.words → ((s.wipeRegions n).writePayload b).copiesBad r.cfg = false →
      Does (.respawnWrite n) s fun t => (t.ten.get n).respawn = some { r with written := true, phase := .commit } ∧ t.spawn = s.spawn)) ∧
  ∀ (s : State) (n : Fin 8) (r : Respawn) (o : LongOp), s.dev.phase = .running → (s.ten.get n).respawn = some r → r.phase = .commit →
    r.written = true → s.findOp r.handle = some o → o.done = none → Does (.respawnCommit n) s fun t =>
      t.tcfg n = r.cfg ∧ (∀ k < 8, k ≠ n.val → t.tcfg k = s.tcfg k) ∧ (t.ten.get n).spawned = true ∧
      (t.ten.get n).gen = (s.ten.get n).gen + 1#5 ∧ (t.ten.get n).respawnErr = 0#8 ∧ (t.ten.get n).respawn = none ∧
      t.spout.fades.get n = { from_ := 0#32, target := fOne, len := 64, pos := 0 } ∧ t.dev = s.dev ∧ t.time = s.time ∧
      inFlight t r.handle (fun x => x.committed = true ∧ ended x csDone)

/-- At a boundary of agreeing timing copies the frame index advances by one and the boundary is stamped with device time. One dissenting copy is masked and reported, and the frame begins all the same; without a majority, or when 64 frames in a row had none in the Spout, the device enters SAFE: frames stop, the index stays, every AOUT and CV group is at high impedance. A talker that may send puts its oldest packet on its port; one that may not drops it and counts it. (R12, R22, R30, R31, R72, R315, R335) -/
def Obligations.FramesBeginOrStop : Prop :=
  (∀ (s : State) (i : FrameIn), s.dev.phase = .running → s.time.framesRun = true →
    (i.ftg = .agree → Does (.frameBoundary i) s fun t =>
      t.time = { s.time with frameIdx := s.time.frameIdx + 1#64, frameTime := s.time.devTime } ∧ t.dev.ftgMask = s.dev.ftgMask) ∧
    (∀ c, i.ftg = .dissent c → s.dev.ftgMask = 0#3 → Does (.frameBoundary i) s fun t =>
      t.time.frameIdx = s.time.frameIdx + 1#64 ∧ t.dev.ftgMask = BitVec.ofNat 3 (2 ^ c.val) ∧ t.pair.status.getLsbD 0 = true) ∧
    (i.ftg = .noMajority → Does (.frameBoundary i) s fun t => t.dev.phase = .safe ∧ t.time = { s.time with framesRun := false } ∧
      t.pair.status.getLsbD 1 = true ∧ (∀ g < 4, (t.spout.lga.get g).enabled = false) ∧ ∀ g < 2, (t.spout.lgc.get g).enabled = false)) ∧
  (∀ s : State, s.dev.phase = .running → (s.spout.run = 64 → Does .spoutNomajSafe s fun t => t.dev.phase = .safe ∧
      t.time = { s.time with framesRun := false } ∧ (∀ g < 4, (t.spout.lga.get g).enabled = false)) ∧
    (s.spout.run < 64 → exec .spoutNomajSafe s = .next s)) ∧
  ∀ (s : State) (i : Fin 16) (n : Nat) (r : StreamRec) (k : TalkPacket) (rest : List TalkPacket), s.streamRec false i = some (n, r) →
    (s.net.talkers.get i).ready = k :: rest →
    (s.talkerSends i r = true → Does (.talkerPacketTx i) s fun t => (t.net.talkers.get i).ready = rest ∧
      t.outs = .netFrame r.port (aafFrame (s.net.ports.get r.port).mac (s.net.talkers.get i) r s.cfg.dev.fs k) :: s.outs ∧
      keptBut [.net, .outs] s t) ∧
    (s.talkerSends i r = false → Does (.talkerPacketTx i) s fun t => (t.net.talkers.get i).ready = rest ∧
      (t.net.talkers.get i).drops = errCount (s.net.talkers.get i).drops 1 ∧ keptBut [.net] s t)

/-- While frames run and the Spout has mixed, the window of an owned engine opens once: the lowest position that runs starts at its record's address with the frame index in P0, its lane count in P1 and its number in P2, and the others wait; with none to run, nothing starts. The close marks what has not finished as overrun: its bits in TRF_OVR and its bypass targets, counted, with TRF_STATUS bit 0. RESTART of a halted engine by its owner clears the halt and both contexts but the Y registers, keeps its positions from running until the next boundary, and does nothing to an engine that runs. A TRF_BYP write sets the targets of its 32 positions for the next boundary and leaves the others. Another tenancy's write is denied. (R92, R228, R229, R233, R234, R237) -/
def Obligations.FrameWindows : Prop :=
  (∀ (s : State) (n : Fin 4), s.dev.phase = .running → s.spout.mixed = true → (s.engineOwner n).isSome = true → (s.engine n).opened = false →
    let q := if (s.engine n).halted = true ∨ (s.engine n).resting = true then [] else
      (positionsOf (s.chainOf n)).filter fun p => (s.engine n).runs (s.chainOf n) s.time.frameIdx.toNat p
    (∀ p rest r, q = p :: rest → ((s.chainOf n).filter fun r => r.position == p).head? = some r → Does (.frameWindowOpen n) s fun t =>
      (t.engine n).windowOpen = true ∧ (t.engine n).opened = true ∧ (t.engine n).run = .frame ∧ (t.engine n).pos = p ∧
      (t.engine n).queue = rest ∧ (t.engine n).frame.pc = r.address ∧ (t.engine n).frame.inTrap = false ∧
      (t.engine n).frame.reg 8 = w32 s.time.frameIdx.toNat ∧
      (t.engine n).frame.reg 9 = w32 ((s.chainOf n).filter fun r => r.position == p).length ∧ (t.engine n).frame.reg 10 = w32 p ∧
      (∀ k < 4, k ≠ n.val → t.engine k = s.engine k) ∧ keptBut [.engines] s t) ∧
    (q = [] → Does (.frameWindowOpen n) s fun t => t.engine n = { (s.engine n) with
      opened := true, windowOpen := true, cycles := 0, doneNow := 0#64, queue := [] } ∧ keptBut [.engines] s t)) ∧
  (∀ (s : State) (n : Fin 4), (s.engine n).windowOpen = true → let x := s.engine n
    let late := (if x.run = .frame then [x.pos] else []) ++ x.queue
    Does (.frameWindowClose n) s fun t => (t.engine n).windowOpen = false ∧ (t.engine n).queue = [] ∧ (t.engine n).run ≠ .frame ∧
      (t.engine n).ovr = x.ovr ||| positionBits late ∧ (t.engine n).bypTarget = x.bypTarget ||| positionBits late ∧
      (t.engine n).ovrCnt = errCount x.ovrCnt late.length ∧ (late ≠ [] → (t.engine n).status.getLsbD 0 = true) ∧
      (∀ k < 4, k ≠ n.val → t.engine k = s.engine k) ∧ keptBut (.engines :: .ops :: .free :: reporting) s t) ∧
  (∀ (s : State) (t : Fin 8) (n : Fin 4) (v : Word), inRun s t → s.engineOwner n = some t.val →
    (v.getLsbD 0 = true → (s.engine n).halted = true → Does (.trfRestart t n v) s fun u => (u.engine n).halted = false ∧ (u.engine n).resting = true ∧
      (u.engine n).frame = { Ctx.zero with y := (s.engine n).frame.y } ∧ (∀ k < 4, k ≠ n.val → u.engine k = s.engine k) ∧
      keptBut (.engines :: .ops :: accessing) s u) ∧
    (v.getLsbD 0 = false ∨ (s.engine n).halted = false → Does (.trfRestart t n v) s fun u => keptBut accessing s u)) ∧
  (∀ (s : State) (t : Fin 8) (n : Fin 4) (hi : Bool) (v : Word), inRun s t → s.engineOwner n = some t.val →
    Does (.trfBypWrite t n hi v) s fun u => (∀ k < 32, (u.engine n).bypNext.getLsbD (if hi then k + 32 else k) = v.getLsbD k ∧
        (u.engine n).bypMask.getLsbD (if hi then k + 32 else k) = true ∧
        (u.engine n).bypNext.getLsbD (if hi then k else k + 32) = (s.engine n).bypNext.getLsbD (if hi then k else k + 32) ∧
        (u.engine n).bypMask.getLsbD (if hi then k else k + 32) = (s.engine n).bypMask.getLsbD (if hi then k else k + 32)) ∧
      (u.engine n).bypTarget = (s.engine n).bypTarget ∧ (∀ k < 4, k ≠ n.val → u.engine k = s.engine k) ∧
      keptBut (.engines :: accessing) s u) ∧
  ∀ (s : State) (t : Fin 8) (n : Fin 4) (hi : Bool) (v : Word), s.dev.phase = .running → s.engineOwner n ≠ some t.val →
    Does (.trfRestart t n v) s (fun u => deniedTo s u t (0x180008 + 0x10000 * n.val) true false) ∧
    Does (.trfBypWrite t n hi v) s fun u => deniedTo s u t (0x180010 + 0x10000 * n.val + (if hi then 4 else 0)) true false

/-- Each of the twelve register operations writes its value of rs1 and rs2 to rd and goes on to the next word, each of the eight immediate ones its value of rs1 and imm14, LUI imm19 shifted left by 13, and NOP only goes on; no other register, engine or part changes. A register word with a non-zero field marked 0 takes the trap ILLEGAL instead, in the register, special-register, JR and CALLR forms alike. A register written reads back as written, and every other register as before. (R210, R213, R219, R223) -/
def Obligations.IntegerInstructions : Prop :=
  (∀ (s : State) (e : Fin 4) (f : RegF), ready s e → let c := (s.engine e).ctx
    let a := c.reg f.rs1.toNat
    let b := c.reg f.rs2.toNat
    (f.zero = 0#9 → ∀ ck ∈ [(Instr.add e f, a + b), (.sub e f, a - b), (.and e f, a &&& b), (.or e f, a ||| b), (.xor e f, a ^^^ b),
        (.sll e f, a <<< (b.toNat % 32)), (.srl e f, a >>> (b.toNat % 32)), (.sra e f, a.sshiftRight (b.toNat % 32)), (.mul e f, a * b),
        (.mulhu e f, BitVec.ofNat 32 (a.toNat * b.toNat / 2 ^ 32)), (.slt e f, if a.toInt < b.toInt then 1#32 else 0#32),
        (.sltu e f, if a.toNat < b.toNat then 1#32 else 0#32)],
      Does ck.1 s fun t => issued s t e ((c.setReg f.rd.toNat ck.2).skip 1)) ∧
    (f.zero ≠ 0#9 → c.inTrap = false → ∀ i ∈ [Instr.add e f, .sub e f, .and e f, .or e f, .xor e f, .sll e f, .srl e f, .sra e f, .mul e f,
        .mulhu e f, .slt e f, .sltu e f, .movsr e f, .movrs e f, .jr e f, .callr e f], Does i s fun t => trapped s t e 3 0#32)) ∧
  (∀ (s : State) (e : Fin 4) (f : ImmF), ready s e → let c := (s.engine e).ctx
    let a := c.reg f.rs1.toNat
    (∀ ck ∈ [(Instr.addi e f, a + f.imm.signExtend 32), (.andi e f, a &&& f.imm.setWidth 32), (.ori e f, a ||| f.imm.setWidth 32),
        (.xori e f, a ^^^ f.imm.setWidth 32), (.slli e f, a <<< (f.imm.toNat % 32)), (.srli e f, a >>> (f.imm.toNat % 32)),
        (.srai e f, a.sshiftRight (f.imm.toNat % 32)), (.slti e f, if a.toInt < f.imm.toInt then 1#32 else 0#32)],
      Does ck.1 s fun t => issued s t e ((c.setReg f.rd.toNat ck.2).skip 1)) ∧
    Does (.nop e f) s fun t => issued s t e (c.skip 1)) ∧
  (∀ (s : State) (e : Fin 4) (f : LongF), ready s e → Does (.lui e f) s fun t =>
    issued s t e (((s.engine e).ctx.setReg f.rd.toNat (BitVec.ofNat 32 (f.imm.toNat * 2 ^ 13))).skip 1)) ∧
  ∀ (c : Ctx) (r k : Nat) (v : Word), r < 32 → k < 32 → (c.setReg r v).reg k = if k = r then v else c.reg k

/-- MOVSR writes CTRL, STICKY, FTE, TBA or AQW with as many bits as it has, and takes ILLEGAL for any other number; MOVRS of 0 to 7 reads it. A branch goes to PC + imm14 when rs1 passes its test, otherwise on; J goes to PC + imm19, JR to rs1. A call outside the trap window with fewer than 8 live windows rotates: the new window's P registers are the caller's X registers, LK the word after the call, Y registers stay. RET returns to LK, with the callee's P registers in the caller's X registers. A call with 8 live windows writes the oldest one's Q, LK and P registers to the spill area first, in that order; with 64 spilled it takes SPILL_LIMIT and does not rotate. (R218, R219, R220, R222) -/
def Obligations.BranchesAndCalls : Prop :=
  (∀ (s : State) (e : Fin 4) (f : RegF), ready s e → f.zero = 0#9 → let c := (s.engine e).ctx
    let v := c.reg f.rs1.toNat
    (∀ nk ∈ [(0, { c with ctrl := v.setWidth 2 }), (1, { c with sticky := v.setWidth 6 }), (2, { c with fte := v.setWidth 6 }),
        (3, { c with tba := v.setWidth 12 }), (4, { c with aqw := v.setWidth 3 })], f.rs2.toNat = nk.1 →
      Does (.movsr e f) s fun t => issued s t e (nk.2.skip 1)) ∧
    (5 ≤ f.rs2.toNat → c.inTrap = false → Does (.movsr e f) s fun t => trapped s t e 3 0#32) ∧
    (∀ nk ∈ [(0, c.ctrl.toNat), (1, c.sticky.toNat), (2, c.fte.toNat), (3, c.tba.toNat), (4, c.aqw.toNat), (5, c.width),
        (6, c.wins.length + 16 * c.spilled), (7, c.tcause)], f.rs2.toNat = nk.1 →
      Does (.movrs e f) s fun t => issued s t e ((c.setReg f.rd.toNat (BitVec.ofNat 32 nk.2)).skip 1)) ∧
    Does (.jr e f) s fun t => issued s t e (c.goto v.toNat)) ∧
  (∀ (s : State) (e : Fin 4) (f : ImmF), ready s e → let c := (s.engine e).ctx
    let a := c.reg f.rs1.toNat
    ∀ ck ∈ [(Instr.beqz e f, decide (a = 0#32)), (.bnez e f, decide (a ≠ 0#32)), (.bltz e f, decide (a.toInt < 0)),
        (.bgez e f, decide (0 ≤ a.toInt))],
      Does ck.1 s fun t => issued s t e (if ck.2 = true then c.goto (((c.pc : Int) + f.imm.toInt) % 2 ^ 32).toNat else c.skip 1)) ∧
  (∀ (s : State) (e : Fin 4) (f : LongF), ready s e → Does (.j e f) s fun t => let c := (s.engine e).ctx
    issued s t e (c.goto (((c.pc : Int) + f.imm.toInt) % 2 ^ 32).toNat)) ∧
  (∀ (s : State) (e : Fin 4) (i : Instr) (target : Nat), ready s e → let c := (s.engine e).ctx
    c.inTrap = false → (∃ f, i = .call e f ∧ target = (((c.pc : Int) + f.imm.toInt) % 2 ^ 32).toNat) ∨
      (∃ f, i = .callr e f ∧ f.zero = 0#9 ∧ target = (c.reg f.rs1.toNat).toNat) →
    (c.wins.length < 8 → Does i s fun t => ∃ q x, (t.engine e).ctx =
        { c with wins := { p := c.x, q := q, lk := BitVec.ofNat 32 (c.pc + 1) } :: c.wins, x := x, pc := target } ∧
      (∀ k < 4, k ≠ e.val → t.engine k = s.engine k) ∧ keptBut [.engines, .obs, .free] s t) ∧
    (8 ≤ c.wins.length → 64 ≤ c.spilled → Does i s fun t => trapped s t e 7 0#32) ∧
    ∀ a, 8 ≤ c.wins.length → c.spilled < 64 → s.spillArea e = some a → a % 4 = 0 → a + 4096 ≤ cisSpace →
      (∃ l, s.enginePlaces e 0 (spillAddrs a c.spilled) = .all l) → quiet s → memoriesWf s → Does i s fun t =>
        let old := c.wins.getLastD Win.zero
        (∀ j < 7, t.mem.cis.word (a + 64 * c.spilled + 4 * j) = old.q.get j) ∧ t.mem.cis.word (a + 64 * c.spilled + 28) = old.lk ∧
        (∀ j < 8, t.mem.cis.word (a + 64 * c.spilled + 32 + 4 * j) = old.p.get j) ∧
        (∀ b, b < a + 64 * c.spilled ∨ a + 64 * c.spilled + 64 ≤ b → t.mem.cis.get b = s.mem.cis.get b) ∧
        (t.engine e).ctx.spilled = c.spilled + 1 ∧ (t.engine e).ctx.pc = target ∧ (t.engine e).ctx.wins.drop 1 = c.wins.dropLast ∧
        keptBut (.engines :: .free :: .pair :: reporting) s t) ∧
  ∀ (s : State) (e : Fin 4) (f : ImmF), ready s e → let c := (s.engine e).ctx
    c.inTrap = false → 1 < c.wins.length → Does (.ret e f) s fun t => issued s t e
      { c with wins := c.wins.drop 1, x := (c.wins.headD Win.zero).p, pc := (c.wins.headD Win.zero).lk.toNat }

/-- HALT in the frame context and FRET in the job context take the trap ILLEGAL, and so does a RET with one live window and none spilled: the context enters its trap window with cause 3, and nothing else changes. (R220) -/
def Obligations.IllegalEnds : Prop :=
  ∀ (s : State) (e : Fin 4) (f : ImmF), ready s e → (s.engine e).ctx.inTrap = false →
    ((s.engine e).run = .frame → Does (.halt e f) s fun t => trapped s t e 3 0#32) ∧
    ((s.engine e).run = .job → Does (.fret e f) s fun t => trapped s t e 3 0#32) ∧
    ((s.engine e).ctx.wins.length = 1 → (s.engine e).ctx.spilled = 0 → Does (.ret e f) s fun t => trapped s t e 3 0#32)

/-- TRAPI takes the trap SOFT: the handler runs at TBA + 32 with P0 the cause, P1 imm14 and LK the instruction's address, in a window of its own that leaves the rotating windows and the Y registers as they were; TRET returns to LK, or to the instruction after it. A trap in the trap window halts the engine with DOUBLE_TRAP and its log. HALT in a job completes it DONE with P0 and STICKY. FRET gives the position's records the first lanes of V1 as their outputs and marks the position done. SIGNAL sets TRF_STATUS bit 3 and goes on. (R216, R219, R223, R224, R225, R229, R232, R238) -/
def Obligations.TrapsAndEnds : Prop :=
  (∀ (s : State) (e : Fin 4) (f : ImmF), ready s e → let c := (s.engine e).ctx
    (c.inTrap = false → Does (.trapi e f) s fun t => trapped s t e 8 (f.imm.setWidth 32) ∧ let d := (t.engine e).ctx
      d.inTrap = true ∧ d.pc = c.tba.toNat + 32 ∧ d.reg 8 = 8#32 ∧ d.reg 9 = f.imm.setWidth 32 ∧ d.reg 23 = BitVec.ofNat 32 c.pc ∧
      d.wins = c.wins ∧ d.y = c.y ∧ d.x = c.x ∧ d.tcause = 8) ∧
    (c.inTrap = true → Does (.trapi e f) s (fun t => (t.engine e).halted = true ∧ (t.engine e).run = .idle ∧
        (t.engine e).status.getLsbD 1 = true ∧ bits (t.engine e).trapLog 3 0 = c.tcause % 16 ∧ bits (t.engine e).trapLog 7 4 = 8 ∧
        (t.engine e).trapLog.getLsbD 31 = true ∧ (∀ k < 4, k ≠ e.val → t.engine k = s.engine k) ∧ keptBut (.engines :: .ops :: reporting) s t) ∧
      Does (.tret e f) s fun t => issued s t e
        { c with inTrap := false, pc := (if f.imm.getLsbD 0 = true then c.trapWin.lk.toNat + (s.engine e).sizeAt c.trapWin.lk.toNat else c.trapWin.lk.toNat) })) ∧
  (∀ (s : State) (e : Fin 4) (f : ImmF) (h : Word) (o : LongOp), ready s e → (s.engine e).run = .job → (s.engine e).jobHandle = some h →
    s.findOp h = some o → o.done = none → Does (.halt e f) s fun t => (t.engine e).run = .idle ∧ (t.engine e).jobHandle = none ∧
      inFlight t h (fun x => ∃ c, x.done = some c ∧ c.status = csDone ∧ c.res = [(s.engine e).job.reg 8, w32 (s.engine e).job.sticky.toNat]) ∧
      keptBut [.engines, .obs, .ops] s t) ∧
  (∀ (s : State) (e : Fin 4) (f : ImmF), ready s e → (s.engine e).run = .frame → Does (.fret e f) s fun t =>
    (t.engine e).doneNow = (s.engine e).doneNow ||| BitVec.ofNat 64 (2 ^ (s.engine e).pos) ∧
    (∀ (k i : Nat) (r : ChainRec) (l : ChainLane),
      ((s.chainOf e).zipIdx.filter fun x => x.1.position == (s.engine e).pos)[k]? = some (r, i) → r.block = false →
      (s.engine e).lanes[i]? = some l → (t.engine e).lanes[i]? = some { l with y := some (((s.engine e).frame.v.get 1).get k) }) ∧
    (∀ k < 4, k ≠ e.val → t.engine k = s.engine k) ∧ keptBut [.engines, .obs, .ops] s t) ∧
  ∀ (s : State) (e : Fin 4) (f : ImmF), ready s e → Does (.signal e f) s fun t =>
    (t.engine e).status.getLsbD 3 = true ∧ (t.engine e).ctx = (s.engine e).ctx.skip 1 ∧
    (∀ k < 4, k ≠ e.val → t.engine k = s.engine k) ∧ keptBut (.engines :: reporting) s t

/-- Each vector operation gives every active lane of vd its function of the lanes of va, vb and vc, under the context's modes; the immediate replaces operand b, and a in VMOV. Inactive lanes, and every other register, keep their values. The flags of the active lanes are kept per lane for KFLAG and ORed into STICKY, and one enabled in FTE takes the trap FLAG after the instruction with the flags as its detail. A compare writes the mask vd[2:0], 0 for inactive lanes. An immediate where the operation has none or with a vb, or a compare with vd[4:3] not 0, is ILLEGAL. (R210, R211, R212, R217, R239, R254) -/
def Obligations.VectorOperations : Prop :=
  ∀ (s : State) (e : Fin 4) (f : VecF), ready s e → let c := (s.engine e).ctx
    let a := fun i => (c.v.get f.va.toNat).get i
    let b := fun i => f.imm.getD ((c.v.get f.vb.toNat).get i)
    let d := fun i => (c.v.get f.vc.toNat).get i
    let m := c.mode
    (mayFlag c → ∀ ck ∈ ([(.vadd e f, true, fun i => fAdd m (a i) (b i)), (.vsub e f, true, fun i => fAdd m (a i) (fNeg (b i))),
        (.vmul e f, true, fun i => fMul m (a i) (b i)), (.vdiv e f, true, fun i => fDiv m (a i) (b i)),
        (.vfma e f, true, fun i => fFma m (a i) (b i) (d i)), (.vfms e f, true, fun i => fFma m (a i) (b i) (fNeg (d i))),
        (.vfnma e f, true, fun i => fFma m (fNeg (a i)) (b i) (d i)), (.vmin e f, true, fun i => fMin m (a i) (b i)),
        (.vmax e f, true, fun i => fMax m (a i) (b i)), (.vsqrt e f, false, fun i => fSqrt m (a i)),
        (.vrint e f, false, fun i => fRint (if m.rz = true then .zero else .nearest) m (a i)), (.vcvti e f, false, fun i => fCvtI m (a i)),
        (.vcvtf e f, false, fun i => fCvtF m (a i)), (.vabs e f, false, fun i => (a i &&& 0x7FFFFFFF#32, 0#6)),
        (.vneg e f, false, fun i => (a i ^^^ 0x80000000#32, 0#6)),
        (.vcpsgn e f, true, fun i => ((a i &&& 0x7FFFFFFF#32) ||| (b i &&& 0x80000000#32), 0#6)),
        (.vmov e f, true, fun i => (f.imm.getD (a i), 0#6)),
        (.vsel e f, false, fun i => (if (c.k.get (f.vc.toNat % 8)).getLsbD i = true then a i else b i, 0#6)),
        (.vand e f, false, fun i => (a i &&& b i, 0#6)), (.vor e f, false, fun i => (a i ||| b i, 0#6)),
        (.vxor e f, false, fun i => (a i ^^^ b i, 0#6)),
        (.vslideup e f, false, fun i => (if f.vc.toNat ≤ i then a (i - f.vc.toNat) else b (32 + i - f.vc.toNat), 0#6)),
        (.vslidedn e f, false, fun i => (if i + f.vc.toNat < 32 then a (i + f.vc.toNat) else b (i + f.vc.toNat - 32), 0#6)),
        (.vlaneid e f, false, fun i => ((fCvtF m (BitVec.ofNat 32 i)).1, 0#6))] : List (Instr × Bool × (Nat → FRes))),
      (formed f ck.2.1 → Does ck.1 s fun t => ∃ w, lanesTake c w f.vd f.km (fun i => (ck.2.2 i).1) ∧
        let lf := fun i => if c.active f.km i = true then (ck.2.2 i).2 else 0#6
        finished s t e { c with v := w, laneFlags := Bank.make 32 lf, pc := (c.pc + vecLen f) % 2 ^ 32 } (orFlags (fun _ => true) lf)) ∧
      (¬ formed f ck.2.1 → c.inTrap = false → Does ck.1 s fun t => trapped s t e 3 0#32)) ∧
    ∀ ck ∈ [(Instr.vcmpeq e f, FCmp.eq), (.vcmplt e f, .lt), (.vcmple e f, .le), (.vcmpun e f, .un)],
      (mayFlag c → formed f true → f.vd.toNat < 8 → Does ck.1 s fun t => ∃ w : Word,
        (∀ i < 32, w.getLsbD i = (c.active f.km i && (fCompare ck.2 m (a i) (b i)).1)) ∧
        let lf := fun i => if c.active f.km i = true then (fCompare ck.2 m (a i) (b i)).2 else 0#6
        finished s t e { c with k := c.k.put f.vd.toNat w, laneFlags := Bank.make 32 lf, pc := (c.pc + vecLen f) % 2 ^ 32 }
          (orFlags (fun _ => true) lf)) ∧
      (8 ≤ f.vd.toNat ∨ ¬ formed f true → c.inTrap = false → Does ck.1 s fun t => trapped s t e 3 0#32)

/-- VCOMPRESS writes the active lanes of va, in ascending lane order, to vd lanes 0 to c − 1, where c is the number of active lanes, and +0.0 to lanes c to 31. VEXPAND writes to each active lane i of vd lane j of va, where j is the number of active lanes below i; inactive lanes keep their values. Neither raises a flag, and no other register changes. (R214) -/
def Obligations.CompressAndExpand : Prop :=
  ∀ (s : State) (e : Fin 4) (f : VecF), ready s e → f.imm = none → let c := (s.engine e).ctx
    let l := activeLanes c f.km
    (Does (.vcompress e f) s fun t => ∃ w : Bank (Bank F32 32) 32,
      (∀ i < 32, (w.get f.vd.toNat).get i = match l[i]? with | some j => (c.v.get f.va.toNat).get j | none => 0#32) ∧
      (∀ k < 32, k ≠ f.vd.toNat → w.get k = c.v.get k) ∧
      issued s t e { c with v := w, laneFlags := Bank.make 32 fun _ => 0#6, pc := (c.pc + 1) % 2 ^ 32 }) ∧
    (Does (.vexpand e f) s fun t => ∃ w, lanesTake c w f.vd f.km (fun i => (c.v.get f.va.toNat).get (l.filter (· < i)).length) ∧
      issued s t e { c with v := w, laneFlags := Bank.make 32 fun _ => 0#6, pc := (c.pc + 1) % 2 ^ 32 })

/-- A load takes the word at rs1 + 4 × imm14, or for each active lane the word at its lane address, into its register; a store writes them, later lanes over earlier ones, and no other byte of the cisterns. A word address that is not a multiple of 4 or lies in neither window takes the trap MEM_FAULT with the first such address as detail, logs it and sets TRF_STATUS.MEM, with no effect. In a load no uncorrectable error is met: the cisterns hold none. (R211, R221, R223, R237) -/
def Obligations.EngineMemory : Prop :=
  (∀ (s : State) (e : Fin 4) (f : ImmF), ready s e → quiet s → memoriesWf s → s.mem.cisEcc = [] → let c := (s.engine e).ctx
    let a := ((c.reg f.rs1.toNat).toNat + (4 * f.imm.toInt % 2 ^ 32).toNat) % 2 ^ 32
    (inCisterns s e [a] →
      (Does (.ldw e f) s fun t => (t.engine e).ctx = (c.setReg f.rd.toNat (s.mem.cis.word a)).skip 1 ∧
        (∀ k < 4, k ≠ e.val → t.engine k = s.engine k) ∧ t.mem.cis = s.mem.cis ∧ keptBut [.engines, .obs, .evs] s t) ∧
      Does (.stw e f) s fun t => (t.engine e).ctx = c.skip 1 ∧ t.mem.cis.word a = c.reg f.rd.toNat ∧
        (∀ b, b < a ∨ a + 4 ≤ b → t.mem.cis.get b = s.mem.cis.get b) ∧ (∀ k < 4, k ≠ e.val → t.engine k = s.engine k) ∧
        keptBut (.engines :: .pair :: reporting) s t)) ∧
  (∀ (s : State) (e : Fin 4) (f : VMemF), ready s e → quiet s → memoriesWf s → s.mem.cisEcc = [] → let c := (s.engine e).ctx
    ∀ st : Bool, let at_ := laneAt c f st
    inCisterns s e ((activeLanes c f.km).map at_) →
      (Does (if st = true then .vlds e f else .vld e f) s fun t => ∃ w, lanesTake c w f.v f.km (fun i => s.mem.cis.word (at_ i)) ∧
        (t.engine e).ctx = { c with v := w, pc := (c.pc + 1) % 2 ^ 32 } ∧ (∀ k < 4, k ≠ e.val → t.engine k = s.engine k) ∧
        t.mem.cis = s.mem.cis ∧ keptBut [.engines, .obs, .evs] s t) ∧
      Does (if st = true then .vsts e f else .vst e f) s fun t => (t.engine e).ctx = c.skip 1 ∧
        (∀ i ∈ activeLanes c f.km, (∀ j ∈ activeLanes c f.km, i < j → at_ j ≠ at_ i) →
          t.mem.cis.word (at_ i) = (c.v.get f.v.toNat).get i) ∧
        (∀ b, (∀ i ∈ activeLanes c f.km, b < at_ i ∨ at_ i + 4 ≤ b) → t.mem.cis.get b = s.mem.cis.get b) ∧
        (∀ k < 4, k ≠ e.val → t.engine k = s.engine k) ∧ keptBut (.engines :: .pair :: reporting) s t) ∧
  ∀ (s : State) (e : Fin 4) (i : Instr) (l : List Nat) (a : Nat), ready s e → let c := (s.engine e).ctx
    c.inTrap = false → (∃ f, (i = .ldw e f ∨ i = .stw e f) ∧ l = [((c.reg f.rs1.toNat).toNat + (4 * f.imm.toInt % 2 ^ 32).toNat) % 2 ^ 32]) ∨
      (∃ f, ((i = .vld e f ∨ i = .vst e f) ∧ l = (activeLanes c f.km).map (laneAt c f false)) ∨
        ((i = .vlds e f ∨ i = .vsts e f) ∧ l = (activeLanes c f.km).map (laneAt c f true))) →
    l.head? = some a → (a % 4 ≠ 0 ∨ (cisSpace ≤ a ∧ a < 0x40000000) ∨ 0x80000000 ≤ a) → Does i s fun t =>
      (t.engine e).ctx = c.enterTrap 4 (BitVec.ofNat 32 a) c.pc ∧ (t.engine e).memLog = BitVec.ofNat 32 a ∧
      (t.engine e).status.getLsbD 2 = true ∧ (∀ k < 4, k ≠ e.val → t.engine k = s.engine k) ∧ keptBut (.engines :: reporting) s t

/-- TROWLD and TCOLLD write the active lanes of va to row or column r of Mt, TROWST and TCOLST the row or column to vd; TZERO clears Mt. TOUTER adds va[i] × vb[j] to Mt[i][j], in one rounding, for active i and j. RSUM, RMAX and RMIN give lane i of vd the sum, maximum or minimum of row i, or column i, and RSUMV and RMAXV write that of the active lanes of va to the sequencer register vd (RMAXV where a lane is active): elements 2m and 2m + 1 first, five levels in all, an inactive element taking part as +0.0 in a sum and as the other of its pair otherwise. Their flags go to STICKY; nothing else changes. (R211, R215, R217, R251) -/
def Obligations.TilesAndReductions : Prop :=
  ∀ (s : State) (e : Fin 4) (f : TileF), ready s e → let c := (s.engine e).ctx
    let on := fun i => c.active f.km i
    let va := fun i => (c.v.get f.va.toNat).get i
    let el := fun i j => ((c.m.get f.mt.toNat).get i).get j
    let r := f.r.toNat
    (∀ ck ∈ ([(.trowld e f, fun i j => decide (i = r) && on j, fun _ j => va j),
        (.tcolld e f, fun i j => decide (j = r) && on i, fun i _ => va i), (.tzero e f, fun _ _ => true, fun _ _ => 0#32)] :
        List (Instr × (Nat → Nat → Bool) × (Nat → Nat → F32))),
      Does ck.1 s fun t => ∃ w, tileTakes c w f.mt ck.2.1 ck.2.2 ∧ issued s t e { c with m := w, pc := (c.pc + 1) % 2 ^ 32 }) ∧
    (∀ ck ∈ ([(.trowst e f, fun j => el r j), (.tcolst e f, fun i => el i r)] : List (Instr × (Nat → F32))),
      Does ck.1 s fun t => ∃ w, lanesTake c w f.vd f.km ck.2 ∧ issued s t e { c with v := w, pc := (c.pc + 1) % 2 ^ 32 }) ∧
    (mayFlag c → let z := fun i j => fFma c.mode (va i) ((c.v.get f.vb.toNat).get j) (el i j)
      (Does (.touter e f) s fun t => ∃ w, tileTakes c w f.mt (fun i j => on i && on j) (fun i j => (z i j).1) ∧
        finished s t e { c with m := w, pc := (c.pc + 1) % 2 ^ 32 }
          (orFlags (fun _ => true) fun i => orFlags (fun j => on i && on j) fun j => (z i j).2)) ∧
      let leaf := fun (sum : Bool) i x => if on i = true then some (x, 0#6) else if sum = true then some (0#32, 0#6) else none
      (∀ ck ∈ ([(.rsumRows e f, true, fAdd c.mode, el), (.rsumColumns e f, true, fAdd c.mode, fun i j => el j i),
          (.rmaxRows e f, false, fMax c.mode, el), (.rmaxColumns e f, false, fMax c.mode, fun i j => el j i),
          (.rminRows e f, false, fMin c.mode, el), (.rminColumns e f, false, fMin c.mode, fun i j => el j i)] :
          List (Instr × Bool × (F32 → F32 → FRes) × (Nat → Nat → F32))),
        let y := fun i => (pairTree (joined ck.2.2.1) fun j => leaf ck.2.1 j (ck.2.2.2 i j)).getD (0#32, 0#6)
        Does ck.1 s fun t => ∃ w, lanesTake c w f.vd f.km (fun i => (y i).1) ∧
          finished s t e { c with v := w, pc := (c.pc + 1) % 2 ^ 32 } (orFlags on fun i => (y i).2)) ∧
      ∀ ck ∈ ([(.rsumv e f, true, fAdd c.mode), (.rmaxv e f, false, fMax c.mode)] : List (Instr × Bool × (F32 → F32 → FRes))),
        ∀ y, (pairTree (joined ck.2.2) fun j => leaf ck.2.1 j (va j)) = some y →
          Does ck.1 s fun t => finished s t e ((c.setReg f.vd.toNat y.1).skip 1) y.2)

/-- A mask operation writes mask kd and nothing else; KFLAG reads the lanes in which the last vector or spore instruction raised flag ka. A summary writes rd from ka and the active lanes: the mask, the count, any, all, the lowest lane or 32, or a lane of va; VINS writes rd to lane ra mod 32 of va where that lane is active. A spore apply runs its program in every lane from E0 = va, E1 = vb, E2 = vc and zeros, each micro-op writing its destination, FMA and SEL reading it first; E0 of the active lanes goes to vd and the OR of a lane's flags are its flags. A program that is not loaded, or a field marked 0 that is not, is ILLEGAL. (R210, R211, R216, R217, R226, R227, R239, R251) -/
def Obligations.MasksSummariesAndSpores : Prop :=
  (∀ (s : State) (e : Fin 4) (f : MaskF), ready s e → let c := (s.engine e).ctx
    let ka := c.k.get f.ka.toNat
    let on := activeLanes c f.km
    let set := on.filter fun i => ka.getLsbD i
    let pick := (c.reg f.ra.toNat).toNat % 32
    (∀ ck ∈ [(Instr.kand e f, fun i => ka.getLsbD i && (c.k.get f.kb.toNat).getLsbD i),
        (.kor e f, fun i => ka.getLsbD i || (c.k.get f.kb.toNat).getLsbD i), (.kxor e f, fun i => ka.getLsbD i != (c.k.get f.kb.toNat).getLsbD i),
        (.knot e f, fun i => !ka.getLsbD i), (.kfromy e f, fun i => (c.reg f.ra.toNat).getLsbD i),
        (.kflag e f, fun i => (c.laneFlags.get i).getLsbD f.ka.toNat)],
      Does ck.1 s fun t => ∃ w : Word, (∀ i < 32, w.getLsbD i = ck.2 i) ∧
        issued s t e { c with k := c.k.put (f.rd.toNat % 8) w, pc := (c.pc + 1) % 2 ^ 32 }) ∧
    (∀ ck ∈ [(Instr.yfromk e f, ka), (.scnt e f, BitVec.ofNat 32 set.length), (.sany e f, if set = [] then 0#32 else 1#32),
        (.sall e f, if set = on then 1#32 else 0#32), (.sfirst e f, BitVec.ofNat 32 (set.headD 32)),
        (.vxtr e f, (c.v.get f.va.toNat).get pick)],
      Does ck.1 s fun t => issued s t e ((c.setReg f.rd.toNat ck.2).skip 1)) ∧
    (Does (.vins e f) s fun t => ∃ w : Bank (Bank F32 32) 32,
      (∀ i < 32, (w.get f.va.toNat).get i = if i = pick ∧ c.active f.km i = true then c.reg f.rd.toNat else (c.v.get f.va.toNat).get i) ∧
      (∀ k < 32, k ≠ f.va.toNat → w.get k = c.v.get k) ∧ issued s t e { c with v := w, pc := (c.pc + 1) % 2 ^ 32 })) ∧
  (∀ (s : State) (e : Fin 4) (f : SporeF), ready s e → let c := (s.engine e).ctx
    (∀ l, (s.engine e).program f.pid.toNat = some l → f.zero = 0#1 → mayFlag c →
      let start := fun i => SporeLane.mk (Bank.make 8 fun k => if k = 0 then (c.v.get f.va.toNat).get i else
        if k = 1 then (c.v.get f.vb.toNat).get i else if k = 2 then (c.v.get f.vc.toNat).get i else 0#32) 0#6
      let out := fun i => l.foldl (fun x o => x.run c.mode o) (start i)
      Does (.sporeApply e f) s fun t => ∃ w, lanesTake c w f.vd f.km (fun i => (out i).regs.get 0) ∧
        let lf := fun i => if c.active f.km i = true then (out i).flags else 0#6
        finished s t e { c with v := w, laneFlags := Bank.make 32 lf, pc := (c.pc + 1) % 2 ^ 32 } (orFlags (fun _ => true) lf)) ∧
    ((s.engine e).program f.pid.toNat = none ∨ f.zero = 1#1 → c.inTrap = false → Does (.sporeApply e f) s fun t => trapped s t e 3 0#32)) ∧
  ∀ (x : SporeLane) (m : FMode) (o : MicroOp), o.dest < 8 → o.a ≤ 8 → o.b ≤ 8 → ∀ y, x.run m o = y →
    let a := if o.a = 8 then o.imm else x.regs.get o.a
    let b := if o.b = 8 then o.imm else x.regs.get o.b
    let d := x.regs.get o.dest
    (∀ k < 8, k ≠ o.dest → y.regs.get k = x.regs.get k) ∧
    ∀ ck ∈ [(1, fAdd m a b), (2, fSub m a b), (3, fMul m a b), (4, fFma m a b d), (5, fMin m a b), (6, fMax m a b), (7, (fAbs a, 0#6)),
        (8, (fNeg a, 0#6)), (9, fSqrt m a), (10, fDiv m a b), (11, fRint .floor m a),
        (12, (if (fCompare .lt m a b).1 = true then 0x3F800000#32 else 0#32, (fCompare .lt m a b).2)),
        (13, fSel m a b d), (14, (a, 0#6))],
      o.op = ck.1 → y.regs.get o.dest = ck.2.1 ∧ y.flags = x.flags ||| ck.2.2

/-- With subnormals kept, for all finite operands the result of each of the operations is the exact result rounded once, to nearest even or toward zero as CTRL.RZ says, with gradual underflow: of all finite values it is the nearest (of two as near, the even one), or infinity from 2^128 − 2^103 on; or the largest in magnitude that does not pass the exact result. NX is raised exactly when it differs from the exact result. (R240, R241, R242, R243) -/
def Obligations.TruffleRounding : Prop :=
  ∀ (rz : Bool) (a b c : F32), fIsFinite a = true → fIsFinite b = true → fIsFinite c = true → let m : FMode := { rz := rz, ftz := false }
    (∀ ck ∈ [(fAdd m a b, units a + units b, 1), (fSub m a b, units a - units b, 1), (fMul m a b, units a * units b, 2 ^ 149),
        (fFma m a b c, units a * units b + units c * 2 ^ 149, 2 ^ 149)],
      roundedTo rz ck.1.1 ck.2.1 ck.2.2 ∧
      (ck.1.2.getLsbD 4 = true ↔ fIsFinite ck.1.1 = false ∨ units ck.1.1 * (ck.2.2 : Nat) ≠ ck.2.1)) ∧
    (units b ≠ 0 → let num := if fSign b = true then -(units a * 2 ^ 149) else units a * 2 ^ 149
      roundedTo rz (fDiv m a b).1 num (units b).natAbs ∧
      ((fDiv m a b).2.getLsbD 4 = true ↔ fIsFinite (fDiv m a b).1 = false ∨ units (fDiv m a b).1 * (units b).natAbs ≠ num)) ∧
    (0 < units a → let r := (fSqrt m a).1
      let x := units a * 2 ^ 149
      fIsFinite r = true ∧ 0 < units r ∧ ((fSqrt m a).2.getLsbD 4 = true ↔ units r * units r ≠ x) ∧
      ∀ y, fIsFinite y = true → 0 ≤ units y →
        if rz = true then units r * units r ≤ x ∧ (units y * units y ≤ x → units y ≤ units r)
        else (units r < units y → 4 * x ≤ (units r + units y) * (units r + units y)) ∧
          (units y < units r → (units r + units y) * (units r + units y) ≤ 4 * x))

/-- A finite non-zero dividend over a zero divisor gives the infinity whose sign is the XOR of the operand signs and raises DZ; no other operation, and no other division, raises DZ; with FTZ a subnormal divisor raises DI and DZ. An exact zero sum of operands of opposite sign is +0 in both modes, of two −0 it is −0; a product or quotient of zeros takes the XOR of the signs; √−0 is −0; a flushed input keeps its sign, so (−s) × 1.0 under FTZ is −0. Minimum and maximum, of vectors, micro-ops and reductions alike: with exactly one NaN the other operand, with two dN, NV exactly for an sN operand, −0 less than +0, and operands flushed first under FTZ. Equal and unordered compares raise NV only for an sN operand, the others and CLT for any NaN; with a NaN every compare gives false but unordered, which gives true; compares flush. SEL tests d after flushing: a NaN d selects a, ±0.0 selects b; it raises no flag but DI. (R244, R246, R247, R248) -/
def Obligations.ZerosNansAndDivisors : Prop :=
  (∀ (m : FMode) (a b c : F32), let x := (fIn m a).1
    let y := (fIn m b).1
    let zero := fun s : Bool => if s = true then 0x80000000#32 else 0#32
    let byZero := fIsFinite x = true ∧ fIsZero x = false ∧ fIsZero y = true
    (byZero → (fDiv m a b).1 = (if fSign a = fSign b then 0x7F800000#32 else 0xFF800000#32)) ∧
    ((fDiv m a b).2.getLsbD 1 = true ↔ byZero) ∧ microResult m 0x0A a b c = fDiv m a b ∧
    (∀ f ∈ [(fAdd m a b).2, (fSub m a b).2, (fMul m a b).2, (fFma m a b c).2, (fMin m a b).2, (fMax m a b).2, (fSqrt m a).2,
      (fRint .nearest m a).2, (fRint .zero m a).2, (fRint .floor m a).2, (fCvtI m a).2, (fCvtF m a).2, (fCompare .eq m a b).2,
      (fCompare .lt m a b).2, (fCompare .le m a b).2, (fCompare .un m a b).2, (fSel m a b c).2], f.getLsbD 1 = false) ∧
    (m.ftz = true → fIsSub b = true → fIsFinite x = true → fIsZero x = false →
      (fDiv m a b).2.getLsbD 1 = true ∧ (fDiv m a b).2.getLsbD 5 = true) ∧
    (fIsFinite x = true → fIsFinite y = true → fSign x ≠ fSign y → units x + units y = 0 → (fAdd m a b).1 = 0#32) ∧
    (fIsFinite x = true → (fSub m a a).1 = 0#32) ∧
    (x = 0x80000000#32 → y = 0x80000000#32 → (fAdd m a b).1 = 0x80000000#32) ∧
    (fIsFinite x = true → fIsFinite y = true → fIsZero x = true ∨ fIsZero y = true → (fMul m a b).1 = zero (fSign a != fSign b)) ∧
    (fIsZero x = true → fIsFinite y = true → fIsZero y = false → (fDiv m a b).1 = zero (fSign a != fSign b)) ∧
    (fSqrt m 0x80000000#32).1 = 0x80000000#32 ∧
    (m.ftz = true → fIsSub a = true → x = zero (fSign a) ∧ (fMul m 0x80000001#32 0x3F800000#32).1 = 0x80000000#32)) ∧
  ∀ (m : FMode) (a b d : F32), let x := (fIn m a).1
    let y := (fIn m b).1
    (microResult m 5 a b d = fMin m a b ∧ microResult m 6 a b d = fMax m a b ∧ Reduction.op .min m a b = fMin m a b ∧
      Reduction.op .max m a b = fMax m a b) ∧
    (∀ f ∈ [fMin, fMax],
      (fIsNaN a = true → fIsNaN b = false → (f m a b).1 = y) ∧ (fIsNaN a = false → fIsNaN b = true → (f m a b).1 = x) ∧
      (fIsNaN a = true → fIsNaN b = true → (f m a b).1 = 0x7FC00000#32) ∧
      ((f m a b).2.getLsbD 0 = true ↔ fIsSNaN a = true ∨ fIsSNaN b = true) ∧ (f m a b).1 = (f m x y).1) ∧
    ((x = 0x80000000#32 ∧ y = 0#32) ∨ (x = 0#32 ∧ y = 0x80000000#32) → (fMin m a b).1 = 0x80000000#32 ∧ (fMax m a b).1 = 0#32) ∧
    (∀ k ∈ [FCmp.eq, .un], (fCompare k m a b).2.getLsbD 0 = true ↔ fIsSNaN a = true ∨ fIsSNaN b = true) ∧
    (∀ k ∈ [FCmp.lt, .le], (fCompare k m a b).2.getLsbD 0 = true ↔ fIsNaN a = true ∨ fIsNaN b = true) ∧
    ((microResult m 0x0C a b d).2.getLsbD 0 = true ↔ fIsNaN a = true ∨ fIsNaN b = true) ∧
    (fIsNaN a = true ∨ fIsNaN b = true → (∀ k ∈ [FCmp.eq, .lt, .le], (fCompare k m a b).1 = false) ∧ (fCompare .un m a b).1 = true) ∧
    (∀ k ∈ [FCmp.eq, .lt, .le, .un], (fCompare k m a b).1 = (fCompare k m x y).1 ∧
      ((fCompare k m a b).2.getLsbD 5 = true ↔ m.ftz = true ∧ (fIsSub a = true ∨ fIsSub b = true))) ∧
    (fIsZero (fIn m d).1 = true → fIsNaN b = false → (fSel m a b d).1 = y) ∧
    (fIsZero (fIn m d).1 = false → fIsNaN a = false → (fSel m a b d).1 = x) ∧
    (fIsNaN d = true → fIsNaN a = false → (fSel m a b d).1 = x) ∧
    ((fSel m a b d).2 &&& 0x1F#6 = 0#6)

/-- Reading the word that an instruction of an engine encodes to, with its immediate word behind it where it has one, gives the instruction with every operand at every value; and a word that is read as an instruction is the word that this instruction encodes to. So no bit of a word is dropped, and a reserved class or opcode is read as none. The four vector memory opcodes are the model's choice (log entry 34); every other is Table 2, 3, 5, 6a or 7's. (R210, R212, R215, R216, R219, R226, R227) -/
def Obligations.EngineWordsAndFields : Prop :=
  (∀ (i : Instr) (e : Fin 4) (w : Word) (v x : Option Word), engineEncode i = some (e, w, v) → v = none ∨ x = v → engineWord e w x = some i) ∧
  ∀ (e : Fin 4) (w : Word) (x : Option Word) (i : Instr), engineWord e w x = some i → ∃ v, engineEncode i = some (e, w, v) ∧ (v = none ∨ v = x)

/-- The worked example of R212 (VFMA with 0.5 as its immediate), and one word of each other class written out from Table 2: ADD P0 ← P1, P2; ADDI P0 ← P0 − 1; J back to itself; VADD; RSUMV; KAND; and a spore apply. A reserved opcode is read as no instruction. (R210, R212) -/
def Obligations.EngineWordsRead : Prop :=
  engineWord 0 0x620C0010#32 (some 0x3F000000#32) = some (.vfma 0 { imm := some 0x3F000000#32, vd := 3#5, va := 0#5, vb := 0#5, vc := 2#5, km := 0#3 }) ∧
  engineWord 1 0x00425400#32 none = some (.add 1 { rd := 8#5, rs1 := 9#5, rs2 := 10#5, zero := 0#9 }) ∧
  engineWord 1 0x20423FFF#32 none = some (.addi 1 { rd := 8#5, rs1 := 8#5, imm := 0x3FFF#14 }) ∧
  engineWord 2 0x34000000#32 none = some (.j 2 { rd := 0#5, imm := 0#19 }) ∧
  engineWord 2 0x40042301#32 none = some (.vadd 2 { imm := none, vd := 1#5, va := 1#5, vb := 3#5, vc := 0#5, km := 1#3 }) ∧
  engineWord 3 0xBC206000#32 none = some (.rsumv 3 { mt := 0#2, vd := 8#5, va := 3#5, vb := 0#5, r := 0#5, km := 0#3 }) ∧
  engineWord 3 0xC0181A00#32 none = some (.kand 3 { rd := 3#5, ra := 0#5, ka := 3#3, kb := 2#3, va := 0#5, km := 0#3 }) ∧
  engineWord 0 0xE5084000#32 none = some (.sporeApply 0 { pid := 5#5, vd := 1#5, va := 1#5, vb := 0#5, vc := 0#5, zero := 0#1, km := 0#3 }) ∧
  engineWord 0 0x0C000000#32 none = none

/-- An AIN sample of a channel that is on: calibrated, less the DC estimate, which moves unless frozen, times the ramps; during a modulator hold the output stays. A coarse sample is kept, sets OVERLOAD from 0.98 of full scale and counts its run at full scale, of which 64 reset the modulator. A conversion of a continuous SEN channel adds the code to the 24-bit sum, gives window sum × 2^(8−m) / 256 as its fine value (S-DRIFT apart) and normalises it; the first fills the history. A burst adds each of its 2^m codes to the same sum, and its last gives the fine value. A channel that is off, and an idle triggered one, change nothing. (R285, R288, R289, R291, R293, R294, R297, R298, R303, R305) -/
def Obligations.FilterSamples : Prop :=
  (∀ (s : State) (c : Fin 8) (x : Word), let ch := s.chan c
    (s.fcActive c = false → exec (.ainSample c x) s = .next s) ∧
    (s.fcActive c = true → 0 < ch.modHold → Does (.ainSample c x) s fun t => (t.chan c).out = ch.out ∧ (t.chan c).d = ch.d ∧
      (t.chan c).modHold = ch.modHold - 1 ∧ calMoves s t c ∧ keptBut (.filter :: reporting) s t) ∧
    (s.fcActive c = true → ch.modHold = 0 → let y := gMul (gSub (gFlush x) ch.coef0) ch.coef1
      let d := if ch.dValid = true then ch.d else y
      let k := gSub 0x3F800000#32 (gExp (gDiv (gMul (gNeg gTwoPi) ch.dcCut) (gOfInt s.fs)))
      let q := if s.dcbOf c = true then gSub y d else y
      Does (.ainSample c x) s fun t => (t.chan c).fine = q ∧ (t.chan c).out = gMul q (ainGain ch) ∧
        (t.chan c).d = (if s.dcbOf c = true ∧ ch.freeze = false ∧ ch.ovlFreeze = false then gAdd d (gMul k (gSub y d)) else
          if s.dcbOf c = true then d else ch.d) ∧ (t.chan c).start = ch.start + 1 ∧ (t.chan c).coef0 = ch.coef0 ∧ (t.chan c).coef1 = ch.coef1 ∧
        calMoves s t c ∧ keptBut (.filter :: reporting) s t)) ∧
  (∀ (s : State) (c : Fin 8) (code : BitVec 12), s.fcActive c = true → Does (.ainCoarseSample c code) s fun t =>
    (t.chan c).coarse = code ∧ (t.chan c).fullRun = (if 2047 ≤ code.toInt.natAbs then (s.chan c).fullRun + 1 else 0) ∧
    (98 * 2048 ≤ 100 * code.toInt.natAbs → (t.chan c).status.getLsbD 0 = true ∧ (t.chan c).ovlFreeze = true) ∧
    (100 * code.toInt.natAbs < 98 * 2048 → (t.chan c).status = (s.chan c).status ∧ (t.chan c).ovlFreeze = (s.chan c).ovlFreeze) ∧
    (t.chan c).out = (s.chan c).out ∧ chanOnly s t c ∧ keptBut (.filter :: reporting) s t) ∧
  (∀ (s : State) (c : Fin 8), s.fcActive c = true →
    ((s.chan c).fullRun < 64 → exec (.modReset c) s = .next s) ∧
    (64 ≤ (s.chan c).fullRun → Does (.modReset c) s fun t => (t.chan c).modHold = 32 ∧ (t.chan c).status.getLsbD 4 = true ∧
      (t.chan c).fullRun = 0 ∧ (t.chan c).out = (s.chan c).out ∧ chanOnly s t c ∧ keptBut (.filter :: reporting) s t)) ∧
  (∀ (s : State) (c : Fin 44), Does (.dcFreezeExpire c) s fun t => t.chan c = { (s.chan c) with ovlFreeze := false } ∧
    chanOnly s t c ∧ keptBut (.filter :: reporting) s t) ∧
  (∀ (s : State) (i : Fin 32) (code : BitVec 16), let c := 8 + i.val
    let ch := s.chan c
    let n := 2 ^ presetM (s.presetOf c)
    (s.fcActive c = false ∨ (ch.trig.toNat % 4 ≠ 0 ∧ ch.burst = none ∧ ch.cal = none) → exec (.senConversion i code) s = .next s) ∧
    (s.fcActive c = true → ch.trig.toNat % 4 = 0 → s.presetOf c ≠ presetDrift → s.dcbOf c = false → ch.cal = none →
      Does (.senConversion i code) s fun t => let u := t.chan c
        u.coarse = BitVec.ofNat 12 (code.toNat / 16) ∧ (98 * 4096 ≤ 100 * (code.toNat / 16) → u.status.getLsbD 0 = true) ∧
        u.fine = windowMean ch (presetM (s.presetOf c)) code.toNat ∧
        (ch.history ≠ [] → u.sum = ch.sum + code.setWidth 24 ∧ u.history = (ch.sum + code.setWidth 24) :: ch.history.take 256) ∧
        u.norm = gClamp 0#32 0x3F800000#32 (gDiv (gSub u.fine ch.coef0) (gSub ch.coef1 ch.coef0)) ∧ u.value = ch.value ∧
        chanOnly s t c ∧ keptBut (.filter :: reporting) s t) ∧
    ∀ b, s.fcActive c = true → ch.trig.toNat % 4 ≠ 0 → ch.burst = some b → ch.cal = none → Does (.senConversion i code) s fun t =>
      (ch.history ≠ [] → (t.chan c).sum = ch.sum + code.setWidth 24 ∧ (t.chan c).history = (ch.sum + code.setWidth 24) :: ch.history.take 256) ∧
      (1 < b.left → (t.chan c).burst = some { left := b.left - 1 } ∧ (t.chan c).fine = ch.fine ∧ (t.chan c).norm = ch.norm) ∧
      (b.left ≤ 1 → (t.chan c).fine = windowMean ch (presetM (s.presetOf c)) code.toNat ∧ (t.chan c).held = false ∧
        (t.chan c).burst = if ch.held = true then some { left := n } else none) ∧
      chanOnly s t c ∧ keptBut (.filter :: reporting) s t) ∧
  ∀ (s : State) (i : Fin 4) (code : BitVec 16), let c := 40 + i.val
    s.fcActive c = true → s.dcbOf c = false → s.presetOf c ≠ presetDrift → Does (.supConversion i code) s fun t =>
      (t.chan c).fine = windowMean (s.chan c) (presetM (s.presetOf c)) (16 * (code.toNat % 4096)) ∧ (t.chan c).coarse = code.setWidth 12 ∧ chanOnly s t c

/-- The owner's FREEZE, phase (through the ramp of R286 while the channel is on; reserved but for AIN) and trigger writes; a SWTRIG starts a burst of 2^m conversions, or while one runs is held under PEND1, or counts as lost. A drift step takes the next AIN channel that is on for the spare modulator; a faulty spare skips it, counted. An undisturbed AIN measurement writes the offset and ends its CALIBRATE DONE with the coefficients; a disturbed one runs again, after 3 retries it ends CAL_DISTURBED. A SEN mean that is within its window, its noise limit and 1,024 codes away becomes the zero or span, otherwise CAL_IMPLAUSIBLE. A CV offset or gain, or an AOUT offset, is written, once the CV code is driven or the AOUT has ramped down, unless the load is loaded or disturbed. A failed calibration keeps the coefficients. (R8, R286, R294, R297, R298, R299, R300, R301, R304, R305, R306, R321) -/
def Obligations.FilterControlsAndCalibration : Prop :=
  (∀ (s : State) (t : Fin 8) (c : Fin 44) (v : Word), inRun s t →
    (s.fcOwner c ≠ some t.val → (Does (.fcFreezeWrite t c v) s fun u => deniedTo s u t (0x300004 + 0x80 * c.val) true false) ∧
      (Does (.fcPhaseWrite t c v) s fun u => deniedTo s u t (0x300018 + 0x80 * c.val) true false) ∧
      ∀ i ∈ [Instr.fcTrigWrite t c v, .swtrig t c v], Does i s fun u => deniedTo s u t (0x300008 + 0x80 * c.val) true false) ∧
    (s.fcOwner c = some t.val → let ch := s.chan c
      (Does (.fcFreezeWrite t c v) s fun u => u.chan c = { ch with freeze := v.getLsbD 0 } ∧ chanOnly s u c ∧
        keptBut (.filter :: accessing) s u) ∧
      (c.val < 8 → let p := v.setWidth 7
        Does (.fcPhaseWrite t c v) s fun u => chanOnly s u c ∧ keptBut (.filter :: accessing) s u ∧
          (ch.on = false → u.chan c = { ch with phase := p, delay := p }) ∧
          (ch.on = true → ch.ramp = .idle → u.chan c = { ch with phase := p, ramp := .down 32 })) ∧
      (8 ≤ c.val → Does (.fcPhaseWrite t c v) s fun u => pendingSource u 1004 ∧ keptBut accessing s u) ∧
      (8 ≤ c.val → c.val < 40 → s.presetOf c ≠ presetDrift → v.toNat % 4 = 3 → s.fcActive c = true →
        let trig := BitVec.ofNat 32 (3 + 4 * (v.toNat / 4 % 8) + 256 * (v.toNat / 256 % 256))
        ∀ i ∈ [Instr.fcTrigWrite t c v, .swtrig t c v], Does i s fun u => (u.chan c).trig = trig ∧ chanOnly s u c ∧
          keptBut (.filter :: accessing) s u ∧
          (v.getLsbD 16 = false → (u.chan c).burst = ch.burst ∧ (u.chan c).held = false) ∧
          (v.getLsbD 16 = true → ch.burst = none → ch.cal = none → (u.chan c).burst = some { left := 2 ^ presetM (s.presetOf c) }) ∧
          (∀ b r, v.getLsbD 16 = true → ch.burst = some b → s.channelRec c = some r → (u.chan c).burst = some b ∧
            (r.pend1 = true → ch.held = false → (u.chan c).held = true ∧ (u.chan c).ovlCnt = ch.ovlCnt) ∧
            (r.pend1 = false ∨ ch.held = true → (u.chan c).ovlCnt = errCount ch.ovlCnt 1 ∧ (u.chan c).status.getLsbD 1 = true))))) ∧
  (∀ (s : State) (x : Word) (c : Nat), s.dev.phase = .running → s.filter.driftPer ≠ 0#16 → s.calHold = false → s.filter.drift = none →
    s.supply.level = 0 → ((List.range 8).map fun i => (s.filter.driftLast + 1 + i) % 8).find? (fun k => (s.chan k).on) = some c →
    let fault := s.filter.spareFault || gLt (gRatio 1 100) (fAbs x)
    Does (.driftStep x) s fun t => t.filter.driftLast = c ∧ t.filter.spareFault = fault ∧ (∀ k < 44, k ≠ c → t.chan k = s.chan k) ∧
      keptBut (.filter :: reporting) s t ∧
      (fault = false → t.filter.drift = some c ∧ (t.chan c).cal = some { handle := none, kind := 0, tries := 1, disturbed := false, codes := [], step := .beside (calSettle s.fs) } ∧
        (t.chan c).driftSkip = (s.chan c).driftSkip) ∧
      (fault = true → t.filter.drift = none ∧ (t.chan c).driftSkip = errCount (s.chan c).driftSkip 1 ∧ (t.chan c).status.getLsbD 3 = true)) ∧
  (∀ (s : State) (c : Fin 8) (mean h : Word) (k : ChanCal) (o : LongOp), (s.chan c).cal = some k → k.step = .measure → k.handle = some h → measures s h o →
    let left := some { k with step := .settle (calSettle s.fs) }
    (k.disturbed = false → Does (.ainCalMeasureEnd c mean) s fun t => t.chan c = { (s.chan c) with coef0 := mean, cal := left } ∧
      inFlight t h (fun x => ended x csDone ∧ x.done.map Completion.res = some [mean, (s.chan c).coef1]) ∧
      (∀ j < 44, j ≠ c.val → t.chan j = s.chan j) ∧ keptBut (.filter :: .ops :: reporting) s t) ∧
    (k.disturbed = true → k.tries < 4 → Does (.ainCalMeasureEnd c mean) s fun t =>
      t.chan c = { (s.chan c) with cal := some { k with tries := k.tries + 1, disturbed := false } } ∧ chanOnly s t c ∧
      keptBut (.filter :: reporting) s t) ∧
    (k.disturbed = true → 4 ≤ k.tries → Does (.ainCalMeasureEnd c mean) s fun t => t.chan c = { (s.chan c) with cal := left } ∧
      inFlight t h (fun x => ended x csDisturbed ∧ x.done.map Completion.res = some [(s.chan c).coef0, (s.chan c).coef1]) ∧
      (∀ j < 44, j ≠ c.val → t.chan j = s.chan j) ∧ keptBut (.filter :: .ops :: reporting) s t)) ∧
  (∀ (s : State) (c : Fin 8) (mean : Word) (k : ChanCal), (s.chan c).cal = some k → k.step = .measure → k.handle = none →
    let left := some { k with step := .settle (calSettle s.fs) }
    Does (.ainCalMeasureEnd c mean) s fun t => chanOnly s t c ∧ keptBut (.filter :: reporting) s t ∧ t.chan c = (if k.disturbed = true
      then { (s.chan c) with cal := left, driftSkip := errCount (s.chan c).driftSkip 1, status := (s.chan c).status ||| 8#5 }
      else { (s.chan c) with cal := left, coef0 := mean })) ∧
  (∀ (s : State) (i : Fin 32) (h : Word) (k : ChanCal) (o : LongOp), let c := 8 + i.val
    let ch := s.chan c
    ch.cal = some k → k.step = .measure → k.handle = some h → k.kind = 1 ∨ k.kind = 2 → measures s h o → k.codes.length = 256 → ch.held = false →
    let sum := k.codes.sum
    let m := gRatio (sum : Nat) 256
    let win := if k.kind = 1 then ch.zWin else ch.sWin
    let plausible := 256 * (k.codes.map fun x => x * x).sum - sum * sum ≤ (256 * ch.calNoise.toNat) * (256 * ch.calNoise.toNat) ∧
      256 * (win.toNat % 2 ^ 16) ≤ sum ∧ sum ≤ 256 * (win.toNat / 2 ^ 16) ∧
      gLt (fAbs (gSub m (if k.kind = 1 then ch.coef1 else ch.coef0))) (gOfInt 1024) = false
    Does (.senCalMeasureEnd i) s fun t => (t.chan c).cal = none ∧ chanOnly s t c ∧ keptBut (.filter :: .ops :: reporting) s t ∧
      (t.chan c).coef0 = (if plausible ∧ k.kind = 1 then m else ch.coef0) ∧ (t.chan c).coef1 = (if plausible ∧ k.kind = 2 then m else ch.coef1) ∧
      inFlight t h (fun x => ended x (if plausible then csDone else csImplausible) ∧
        x.done.map Completion.res = some [(t.chan c).coef0, (t.chan c).coef1])) ∧
  ∀ (s : State) (h : Word) (o : LongOp) (r : OutputCal), measures s h o → let cls := (o.args.get 0).toNat % 256
    let n := (o.args.get 0).toNat / 256 % 256
    (cls = 3 → (s.spout.aouts.get n).mute ≠ 64 → exec (.outputCalMeasureEnd h r) s = .next s) ∧
    (cls = 2 → o.args.get 1 ≠ 0#32 → (s.spout.cvs.get n).out ≠ 260096#18 → exec (.outputCalMeasureEnd h r) s = .next s) ∧
    (cls = 3 → n < 16 → (s.spout.aouts.get n).mute = 64 → r.disturbed = false → Does (.outputCalMeasureEnd h r) s fun t => (t.spout.aouts.get n).offset = r.value ∧
      (t.spout.lga.get (n / 4)).cal = none ∧ inFlight t h (fun x => ended x csDone) ∧ (∀ k < 16, k ≠ n → t.spout.aouts.get k = s.spout.aouts.get k) ∧
      t.spout.cvs = s.spout.cvs ∧ keptBut (.spout :: .ops :: reporting) s t) ∧
    (cls = 3 → n < 16 → (s.spout.aouts.get n).mute = 64 → r.disturbed = true → Does (.outputCalMeasureEnd h r) s fun t => t.spout.aouts = s.spout.aouts ∧ t.spout.cvs = s.spout.cvs ∧
      inFlight t h (fun x => if o.retries < 3 then x = { o with retries := o.retries + 1 } else ended x csDisturbed) ∧
      keptBut (.spout :: .ops :: reporting) s t) ∧
    (cls = 2 → n < 16 → o.args.get 1 = 0#32 ∨ (s.spout.cvs.get n).out = 260096#18 → Does (.outputCalMeasureEnd h r) s fun t => t.spout.aouts = s.spout.aouts ∧ (t.spout.lgc.get (n / 8)).cal = none ∧
      (∀ k < 16, k ≠ n → t.spout.cvs.get k = s.spout.cvs.get k) ∧ keptBut (.spout :: .ops :: reporting) s t ∧
      (r.loaded = true → t.spout.cvs = s.spout.cvs ∧ inFlight t h (fun x => ended x csLoaded)) ∧
      (r.loaded = false → inFlight t h (fun x => ended x csDone) ∧ t.spout.cvs.get n = (if o.args.get 1 = 0#32
        then { (s.spout.cvs.get n) with offset := gSub (gOfInt 2048) r.value } else { (s.spout.cvs.get n) with gain := gDiv (gOfInt 258048) r.value })))

/-- An owner's bus gain within ±16 is the target of a ramp of 32 frames from the gain reached; another value raises ES1004. CV_DATA sets the shadow of a host-written channel; on a bus-driven one it only sets WR_IGN. A strobe of a driven group, by its timer, LDAC_N or software as STROBE selects, outputs clamp(round(shadow × gain + offset)) × the owner's fade gain; with SEQ odd it sets HALF, counts and under SKIP_HALF leaves host-written channels. STEP adds 1 to SEQ. The precharge done, the group drives, and its owner's fade gain, if it waits at 0.0 for this, rises over PARK_FADE. Another tenancy's writes are denied. (R92, R309, R313, R317, R318, R320, R321, R328) -/
def Obligations.SpoutAndOutputs : Prop :=
  (∀ (s : State) (t : Fin 8) (b : Fin 64) (v : Word), inRun s t →
    (s.periphOwner pcBus b ≠ some t.val → Does (.spBgainWrite t b v) s fun u => deniedTo s u t (0x310004 + 0x10 * b.val) true false) ∧
    (s.periphOwner pcBus b = some t.val → gainAllowed v = true → Does (.spBgainWrite t b v) s fun u => keptBut (.spout :: accessing) s u ∧
      u.spout = { s.spout with buses := s.spout.buses.upd b fun x => { x with target := v, from_ := x.gain, left := 32 } }) ∧
    (s.periphOwner pcBus b = some t.val → gainAllowed v = false → Does (.spBgainWrite t b v) s fun u => pendingSource u 1004 ∧
      keptBut accessing s u)) ∧
  (∀ (s : State) (t : Fin 8) (h : Fin 2) (k : Fin 8) (v : Word), inRun s t → let i := 8 * h.val + k.val
    (s.groupOwner (4 + h) ≠ some t.val → Does (.cvDataWrite t h k v) s fun u => deniedTo s u t (0x310620 + 0x80 * h.val + 4 * k.val) true false) ∧
    (s.groupOwner (4 + h) = some t.val → s.cvDriven i = false → Does (.cvDataWrite t h k v) s fun u => keptBut (.spout :: accessing) s u ∧
      u.spout = { s.spout with cvs := s.spout.cvs.upd i fun c => { c with shadow := v.setWidth 18 } }) ∧
    (s.groupOwner (4 + h) = some t.val → s.cvDriven i = true → Does (.cvDataWrite t h k v) s fun u => keptBut (.spout :: accessing) s u ∧
      u.spout.cvs = s.spout.cvs ∧ (u.spout.lgc.get h).status.getLsbD 2 = true)) ∧
  (∀ (s : State) (h : Fin 2), s.dev.phase = .running →
    (s.groupOwner (4 + h) ≠ none → Does (.cvStrobeLatch h) s fun t => strobed s t (· == h.val) ∧ keptBut (.spout :: reporting) s t) ∧
    (s.groupOwner (4 + h) = none → exec (.cvStrobeLatch h) s = .next s)) ∧
  (∀ s : State, s.dev.phase = .running → Does .ldacNFall s fun t =>
    strobed s t (fun h => (s.groupOwner (4 + h)).isSome && s.strobeSrc h == .ldac) ∧ keptBut (.spout :: reporting) s t) ∧
  (∀ (s : State) (t : Fin 8) (h : Fin 2) (v : Word), inRun s t → s.groupOwner (4 + h) = some t.val →
    (Does (.cvStrobeWrite t h v) s fun u => strobed s u (fun x => x == h.val && v.getLsbD 0 && s.strobeSrc h == .software) ∧
      keptBut (.spout :: accessing) s u) ∧
    (Does (.cvSeqStep t h v) s fun u => keptBut (.spout :: accessing) s u ∧ u.spout = { s.spout with lgc := s.spout.lgc.upd h fun g =>
      { g with seq := if v.getLsbD 0 = true then g.seq + 1#16 else g.seq } })) ∧
  ∀ (s : State) (g : Fin 4), s.dev.phase = .running → (s.spout.lga.get g).precharge = true → Does (.aoutPrechargeDone g) s fun t =>
    t.spout.lga.get g = { (s.spout.lga.get g) with precharge := false, enabled := true } ∧
    (∀ k < 4, k ≠ g.val → t.spout.lga.get k = s.spout.lga.get k) ∧ keptBut [.spout] s t ∧
    ∀ n : Fin 8, s.groupOwner g = some n.val → s.spawned n = true → let waits : Fade := { from_ := 0#32, target := 0#32, len := 0, pos := 0 }
      (s.spout.fades.get n = waits → t.spout.fades.get n = { waits with target := 0x3F800000#32, len := s.cfg.dev.parkFade } ∧
        (∀ k < 8, k ≠ n.val → t.spout.fades.get k = s.spout.fades.get k)) ∧
      (s.spout.fades.get n ≠ waits → t.spout.fades = s.spout.fades)

/-- A change of EN by the owner clears the port's samples and slip state and starts or stops it; writing the value it has changes nothing. SAP_CFG is taken while EN is 0, and ES1004 with no change while it is 1; a word code of 3, and more slots than a controller may have at Fs, keep their fields with ES1004. At an enabled target a slip sets its bit, counts, and at the next boundary repeats an input and drops an output sample, or the other way for an early FS; two frames without FS set NOCLK and give 0.0 and zeros, and the return of FS clears it. Another tenancy's writes are denied; at a port that is no enabled target these three change nothing. (R8, R92, R322, R323, R324, R327) -/
def Obligations.SerialAudioPorts : Prop :=
  (∀ (s : State) (t p : Fin 8) (v : Word), inRun s t →
    (s.periphOwner pcSap p ≠ some t.val → (Does (.sapCtrlWrite t p v) s fun u => deniedTo s u t (0x320000 + 0x100 * p.val) true false) ∧
      Does (.sapCfgWrite t p v) s fun u => deniedTo s u t (0x320004 + 0x100 * p.val) true false) ∧
    (s.periphOwner pcSap p = some t.val → let x := s.sap.get p
      (v.getLsbD 0 = x.en → Does (.sapCtrlWrite t p v) s fun u => keptBut accessing s u) ∧
      (v.getLsbD 0 ≠ x.en → Does (.sapCtrlWrite t p v) s fun u => keptBut (.sap :: .free :: accessing) s u ∧
        portOnly s u p
          { x with
            en := !x.en, rx := Bank.all 16 0#32, tx := Bank.all 16 0#32, sent := Bank.all 16 0#32, rxq := [], txq := [], repeatIn := false,
            dropIn := false, repeatOut := false, dropOut := false, noFs := false, status := x.status &&& 5#3, phase := (u.sap.get p).phase } ∧
        (x.cfg.getLsbD 5 = false → x.en = false → (u.sap.get p).phase = 0#11) ∧ (x.en = true → (u.sap.get p).phase = x.phase)) ∧
      (x.en = true → Does (.sapCfgWrite t p v) s fun u => pendingSource u 1004 ∧ keptBut accessing s u) ∧
      (x.en = false → let badWord := v.toNat / 8 % 4 = 3
        let badSlots := v.getLsbD 0 = true ∧ v.getLsbD 5 = false ∧
          (if s.fs ≤ 48000 then 3 else if s.fs ≤ 96000 then 2 else 1) < v.toNat / 2 % 4
        Does (.sapCfgWrite t p v) s fun u => keptBut (.sap :: accessing) s u ∧ (badWord ∨ badSlots → pendingSource u 1004) ∧
          portOnly s u p { x with cfg := BitVec.ofNat 32 ((if v.getLsbD 0 = true then 1 else 0) +
            2 * (if badSlots then x.cfg.toNat / 2 % 4 else v.toNat / 2 % 4) + 8 * (if badWord then x.cfg.toNat / 8 % 4 else v.toNat / 8 % 4) +
            (if v.getLsbD 5 = true then 32 else 0)) }))) ∧
  ∀ (s : State) (p : Fin 8) (late : Bool), let x := s.sap.get p
    (x.en = true → x.cfg.getLsbD 5 = true →
      (Does (.sapSlip p late) s fun t => keptBut (.sap :: .free :: reporting) s t ∧ portOnly s t p
        { x with
          repeatIn := late, dropIn := !late, repeatOut := !late, dropOut := late, status := x.status ||| 1#3,
          slipCnt := errCount x.slipCnt 1, phase := (t.sap.get p).phase }) ∧
      (Does (.sapNoclk p) s fun t => keptBut (.sap :: reporting) s t ∧ portOnly s t p
        { x with noFs := true, rx := Bank.all 16 0#32, sent := Bank.all 16 0#32, status := x.status ||| 2#3 }) ∧
      (x.noFs = true → Does (.sapFsReturn p) s fun t => keptBut (.sap :: reporting) s t ∧ portOnly s t p
        { x with noFs := false, status := x.status &&& 5#3 })) ∧
    (x.en = false ∨ x.cfg.getLsbD 5 = false → exec (.sapSlip p late) s = .next s ∧ exec (.sapNoclk p) s = .next s ∧
      exec (.sapFsReturn p) s = .next s)

/-- A port is up while its PHY is linked at 1000 Mb/s with a good receive clock; a change sets LINK_CHG, a link of another speed SPEED; a port that goes down leaves its gPTP domain, which costs the media clock taken from it. The steward's MDIO access goes out, a read leaves the answer. A frame with a bad FCS or above 1,522 bytes counts as an error, one below 64 is ignored; one that neither gPTP nor a listener takes goes to its PKT well, entry by entry, is dropped where that lacks room, or counted without a well. When a transmit well's turn comes its whole frame is sent and consumed, and the turn passes on. A listener's packet of another header sets FORMAT; otherwise a gap in the sequence counts, and its frame is held, or counted as late. A CRF PDU of base Fs gives the boundary times, of another sets FORMAT; a timeout sets LOST and holdover; six stamps make a PDU. (R68, R92, R119, R329, R330, R333, R334, R338, R339, R340, R341, R346) -/
def Obligations.NetworkTraffic : Prop :=
  (∀ (s : State) (p : Fin 2) (reg1 : BitVec 16) (clk giga : Bool), s.dev.phase.networked = true → let x := s.net.ports.get p
    let up := reg1.getLsbD 2 && clk && giga
    let flags := (if up ≠ x.link then 1#4 else 0#4) ||| (if reg1.getLsbD 2 = true ∧ giga = false then 2#4 else 0#4)
    let was := x.asCapable || x.isGm || x.synced || x.gmId != 0#64
    (s.portRec p = none → exec (.phyPoll p reg1 clk giga) s = .next s) ∧
    ∀ r, s.portRec p = some r → Does (.phyPoll p reg1 clk giga) s fun t => keptBut (.net :: .dev :: reporting) s t ∧ heldOver s t ∧
      Output.mdio (BitVec.ofNat 32 (r.mdio % 32 + 32)) ∈ t.outs ∧ netPort s t p (if up = true then { x with link := true, stat := x.stat ||| flags }
        else { x with
          link := false, asCapable := false, isGm := false, synced := false, gmId := 0#64
          gptp := { x.gptp with best := none, fromSync := false, sync := none }
          stat := x.stat ||| flags ||| (if was = true then 4#4 else 0#4) })) ∧
  (∀ (s : State) (t : Fin 8) (v : Word) (a : BitVec 16), inRun s t →
    (t ≠ 0 → Does (.netMdioCmd t v a) s fun u => deniedTo s u t 0x340A00 true false) ∧
    (Does (.netMdioCmd 0 v a) s fun u => Output.mdio v ∈ u.outs ∧ keptBut (.net :: accessing) s u ∧
      u.net = { s.net with mdioEnd := s.now + 2560#64, mdioData := if v.getLsbD 10 = true then s.net.mdioData else a })) ∧
  (∀ (s : State) (p : Fin 2) (f : RxFrame), s.portUp p = true → let n := f.bytes.length + 4
    let x := s.net.ports.get p
    (f.fcsGood = false ∨ 1522 < n → Does (.rxFrame p f) s fun t => netPort s t p { x with rxErr := errCount x.rxErr 1 } ∧ keptBut [.net] s t) ∧
    (f.fcsGood = true → n < 64 → exec (.rxFrame p f) s = .next s) ∧
    (f.fcsGood = true → 64 ≤ n → n ≤ 1522 → gptpTaken f.bytes = false → s.avtpTaken p f.bytes = false →
      (s.steer p f.bytes = none → Does (.rxFrame p f) s fun t => keptBut (.net :: reporting) s t ∧
        netPort s t p { x with rxDrop := errCount x.rxDrop 1, stat := x.stat ||| 8#4 }) ∧
      ∀ w n r, s.steer p f.bytes = some w → w < 256 → s.wellRec w = some (n, r) → quiet s → memoriesWf s → let y := s.wells.get w
        let es := pktEntries p y.lostBefore f.time f.bytes
        (wellCapacity r.k < y.fill + es.length → Does (.rxFrame p f) s fun t => (t.wells.get w).lost = errCount y.lost 1 ∧
          (t.wells.get w).p = y.p ∧ t.mem.cis = s.mem.cis ∧ keptBut reporting s t) ∧
        (y.fill + es.length ≤ wellCapacity r.k → Does (.rxFrame p f) s fun t => (t.wells.get w).p = y.p + BitVec.ofNat 16 es.length ∧
          (∀ k b, es[k]? = some b → t.mem.cis.getBytes (r.entryAt (y.p.toNat + k)) 64 = b) ∧ keptBut (.pair :: reporting) s t))) ∧
  (∀ (s : State) (w : Fin 256), (∀ p < 2, s.portSends p = true → ∀ i, s.txTurn p ≠ some (i, w.val)) → exec (.pktWellTx w) s = .next s) ∧
  (∀ (s : State) (w : Fin 256) (p : Fin 2) (i n : Nat) (r : WellRec) (l : List (List Byte)), s.wellRec w = some (n, r) →
    let x := s.wells.get w
    s.portSends p = true → s.txTurn p = some (i, w.val) → (∀ q < p.val, s.portSends q = true → ∀ j, s.txTurn q ≠ some (j, w.val)) → s.txFrame r x.fill x.c.toNat true [] = (l, true) →
    let len := ((l.headD []).getD 0 0#8).toNat + 256 * ((l.headD []).getD 1 0#8).toNat
    let body := ((l.headD []).drop 16 ++ (l.drop 1).flatMap (fun e => e.drop 8)).take len
    14 ≤ len → len ≤ 1518 → l.length = 1 + ceilDiv (len - 48) 56 → Does (.pktWellTx w) s fun t =>
      (t.wells.get w).c = x.c + BitVec.ofNat 16 l.length ∧ (t.wells.get w).p = x.p ∧ keptBut (.net :: reporting) s t ∧
      t.net = { s.net with txNext := s.net.txNext.put p ((i + 1) % 8) } ∧ Output.netFrame p (body ++ List.replicate (60 - body.length) 0#8) ∈ t.outs) ∧
  (∀ (s : State) (i : Fin 16) (m : AafPacket) (n : Nat) (r : StreamRec), s.streamRec true i = some (n, r) → let x := s.net.listeners.get i
    (x.en = false ∨ s.portUp r.port = false ∨ m.streamId ≠ r.streamId → exec (.listenerPacket i m) s = .next s) ∧
    (x.en = true → s.portUp r.port = true → m.streamId = r.streamId →
      (aafMatches r s.cfg.dev.fs m = false → Does (.listenerPacket i m) s fun t => netListener s t i { x with stat := x.stat ||| 16#5 } ∧
        keptBut (.net :: reporting) s t) ∧
      (aafMatches r s.cfg.dev.fs m = true → r.channels = m.words.length → 0 < r.channels → let now := s.gptpTime r.port s.nowNs
        let last := (s.net.ports.get r.port).gtime.toNat
        let next := last + 1000000000 / s.fs
        let h : HeldFrame := { p := nearestTime now m.timestamp.toNat, j := 0, samples := m.words.map (aafValue r.format) }
        let gap := ∃ q, x.lastSeq = some q ∧ m.seq ≠ q + 1#8
        Does (.listenerPacket i m) s fun t => let y := t.net.listeners.get i
          netListener s t i y ∧ keptBut (.net :: reporting) s t ∧ y.lastSeq = some m.seq ∧
          (gap → y.seqs = errCount x.seqs 1 ∧ y.stat.getLsbD 3 = true) ∧ (¬ gap → y.seqs = x.seqs) ∧
          (h.p ≤ last → y.lates = errCount x.lates 1 ∧ y.stat.getLsbD 0 = true ∧ y.buf = x.buf) ∧
          (next < h.p → h.p * s.fs ≤ next * s.fs + 768 * 1000000000 → x.buf.length < 768 → y.buf = x.buf ++ [h] ∧ y.lates = x.lates)))) ∧
  (∀ (s : State) (m : CrfPdu), s.net.crfCtl.getLsbD 1 = true → m.streamId = s.net.crfLsid →
    s.portUp (if s.net.crfCtl.getLsbD 2 = true then 1 else 0) = true →
    (m.base = s.fs → Does (.crfPduRx m) s fun t => t.net = { s.net with crfTargets := m.stamps, crfLocked := true } ∧ keptBut [.net] s t) ∧
    (m.base ≠ s.fs → Does (.crfPduRx m) s fun t => t.net = { s.net with crfStat := s.net.crfStat ||| 1#2 } ∧ keptBut (.net :: reporting) s t)) ∧
  (∀ s : State, s.net.crfCtl.getLsbD 1 = true → s.mediaPort.isSome = true → s.dev.holdover = false → Does .crfTimeout s fun t =>
    t.net = { s.net with crfLocked := false, crfStat := s.net.crfStat ||| 2#2 } ∧ t.dev = { s.dev with holdover := true, mediaLock := false, lockRun := 0 } ∧
    pendingSource t 1005 ∧ keptBut (.net :: .dev :: reporting) s t) ∧
  ∀ s : State, let p := if s.net.crfCtl.getLsbD 2 = true then 1 else 0
    s.net.crfCtl.getLsbD 0 = true → s.portSends p = true → 6 ≤ s.net.crfStamps.length → Does .crfPduTx s fun t =>
      t.net = { s.net with crfStamps := s.net.crfStamps.drop 6, crfSeq := s.net.crfSeq + 1#8 } ∧ keptBut [.net, .outs] s t ∧
      t.outs = Output.netFrame p (crfFrame (s.net.ports.get p).mac s.net.crfDmac s.net.crfTsid s.net.crfSeq s.fs (s.net.crfStamps.take 6)) :: s.outs

/-- A Sync of the master's port waits for the Follow_Up of its sequence number, which makes the corrected origin time plus the link delay the gPTP time of its receipt, less the receive latency, and the port synchronised. A better Announce becomes the best; the port is grandmaster when it may be and none or a worse one is known. A peer-delay request is answered by response and follow-up; a whole exchange gives half the turnaround less the peer's stay, and asCapable up to 800 ns. A grandmaster port sends Sync with its Follow_Up; every announce interval a peer-delay request goes out, which ends asCapable after nine without an answer (log entry 20), and from it an Announce with its priorities, clock quality and identity. Without Sync the port is no longer synchronised. A change of these sets GPTP_CHG, and a loss of the media clock's port leads to holdover. Time stamps have 8 ns resolution. The wire layout and the algorithm's details are the standard's, which the manual only names (log entry 20). (R331, R332, R345, R346) -/
def Obligations.GptpExchange : Prop :=
  ∀ (s : State) (p : Fin 2), s.gptpRole p ≠ 0 → let x := s.net.ports.get p
    let g := x.gptp
    let changed := fun (t : State) => let y := t.net.ports.get p
      y.asCapable ≠ x.asCapable ∨ y.isGm ≠ x.isGm ∨ y.synced ≠ x.synced ∨ y.gmId ≠ x.gmId → y.stat.getLsbD 2 = true
    (∀ (m : GptpSync) (b : GptpAnnounce), x.isGm = false → x.asCapable = true → g.best = some b → b.source = m.source →
      Does (.gptpSync p m) s fun t => netPort s t p { x with gptp := { g with sync := some m } } ∧ keptBut [.net] s t) ∧
    (∀ (y : GptpSync) (m : GptpFollowUp), g.sync = some y → y.source = m.source → y.seq = m.seq → Does (.gptpFollowUp p m) s fun t =>
      let z := t.net.ports.get p
      z.synced = true ∧ z.gptp.refDev = y.rxTime - x.rxLat.toNat ∧ z.gptp.refTime = (m.origin + m.correction + x.pdelay.toNat).toNat ∧
      z.gptp.sync = none ∧ z.gptp.best = g.best ∧ z.isGm = x.isGm ∧ z.mac = x.mac ∧ (g.fromSync = false → z.gptp.rate = 2 ^ 32) ∧
      changed t ∧ netPort s t p z ∧ keptBut (.net :: reporting) s t) ∧
    (∀ m : GptpAnnounce, m.inPath = false → m.steps.toNat < 255 → m.source ≠ x.identity →
      (g.best = none ∨ (∃ b, g.best = some b ∧ (b.source = m.source ∨ betterRank (announceRank m) (announceRank b) = true)) →
        Does (.gptpAnnounce p m) s fun t => let z := t.net.ports.get p
          heldOver s t ∧ z.gptp.best = some m ∧ (z.isGm = true ↔ ∃ o, s.ownAnnounce p = some o ∧ betterRank (announceRank o) (announceRank m) = true) ∧
          z.gmId = (if z.isGm = true then x.identity else m.gm) ∧ changed t ∧ netPort s t p z ∧ keptBut (.net :: .dev :: reporting) s t) ∧
      (∀ b, g.best = some b → b.source ≠ m.source → betterRank (announceRank m) (announceRank b) = false →
        exec (.gptpAnnounce p m) s = .next s)) ∧
    (∀ (src : DWord) (q : BitVec 16) (rx : Nat), s.portSends p = true → Does (.gptpPdelay p (.request src q rx)) s fun t =>
      t.outs = .gptp p 10 q src (s.nowNs / 8 * 8 + x.txLat.toNat) :: .gptp p 3 q src (rx - x.rxLat.toNat) :: s.outs ∧ keptBut [.outs] s t) ∧
    (∀ (q : BitVec 16) (t2 tx rx t3 : Nat), q = g.seqPdelay →
      (Does (.gptpPdelay p (.response x.identity q t2 tx rx)) s fun t => keptBut [.net] s t ∧ netPort s t p
        { x with gptp := { g with t1 := tx + x.txLat.toNat, t2 := t2, t4 := rx - x.rxLat.toNat } }) ∧
      (g.t4 ≠ 0 → g.peer = none → let d := ((g.t4 - g.t1) * g.ratio / 2 ^ 32 - (t3 - g.t2)) / 2
        Does (.gptpPdelay p (.responseFollowUp x.identity q t3)) s fun t => let z := t.net.ports.get p
          z.pdelay = BitVec.ofNat 32 d ∧ z.asCapable = decide (d ≤ 800) ∧ z.gptp.peer = some (t3, g.t4) ∧ z.gptp.lost = 0 ∧ changed t ∧ netPort s t p z ∧
          keptBut (.net :: reporting) s t)) ∧
    (x.isGm = true → x.asCapable = true → s.portSends p = true → Does (.gptpSyncTx p) s fun t => keptBut [.net, .outs] s t ∧
      netPort s t p { x with gptp := { g with seqSync := g.seqSync + 1#16 } } ∧
      t.outs = .gptp p 8 g.seqSync 0#64 (s.nowNs / 8 * 8 + x.txLat.toNat + s.net.epoch.toNat) :: .gptp p 0 g.seqSync 0#64 0 :: s.outs) ∧
    (s.portSends p = true → Does (.gptpAnnounceTx p) s fun t => let z := t.net.ports.get p
      z.gptp.seqPdelay = g.seqPdelay + 1#16 ∧ .gptp p 2 (g.seqPdelay + 1#16) 0#64 0 ∈ t.outs ∧ z.gptp.lost = g.lost + 1 ∧
      z.asCapable = (x.asCapable && decide (g.lost < 9)) ∧ heldOver s t ∧
      (z.isGm = true ↔ ∃ o, s.ownAnnounce p = some o ∧ ∀ b, g.best = some b → betterRank (announceRank o) (announceRank b) = true) ∧
      (∀ o, z.isGm = true → z.asCapable = true → s.ownAnnounce p = some o → .gptpAnnounce p g.seqAnn o ∈ t.outs ∧
        z.gptp.seqAnn = g.seqAnn + 1#16) ∧ changed t ∧ netPort s t p z ∧ keptBut (.net :: .dev :: reporting) s t) ∧
    (x.isGm = false → Does (.gptpSyncTimeout p) s fun t => let z := t.net.ports.get p
      z.gptp.best = none ∧ z.isGm = (s.ownAnnounce p).isSome ∧ z.synced = z.isGm ∧ heldOver s t ∧ changed t ∧ netPort s t p z ∧
      keptBut (.net :: .dev :: reporting) s t)

/-- The pull-up connects in RUNNING with VBUS, CONNECT and a USB record, and leaves with either. A bus reset gives the default state, suspend and resume set their bits. Each standard request is answered with the data or the state change that the image's descriptors give, and stalls otherwise; a device off the bus or suspended answers none. OUT data is NAKed while the ingress queue is full, otherwise a message goes to the tenancy that MIDI_MAP gives, or is counted as unmapped. USB_TXDATA gathers a message and queues it whole, or drops it whole, counted, when its group is another's or the 64 words lack room; IN sends the next message of the next tenancy, converted under setting 0. Only tenancy n reaches its TXDATA, only the steward USB_CTRL. (R92, R342, R343, R344, R345, R347) -/
def Obligations.UsbDevice : Prop :=
  (∀ (s : State) (b : Bool), s.dev.phase = .running → Does (.usbVbusChange b) s fun t => keptBut [.usb] s t ∧ t.usb.vbus = b ∧
    t.usb.attached = (b && s.usb.connect && s.cfg.dev.usbPresent) ∧
    (s.usb.attached = false → t.usb.attached = true → t.usb.phase = .default_ ∧ t.usb.addr = 0#7 ∧ t.usb.suspended = false) ∧
    (s.usb.attached = true → t.usb.attached = false → t.usb.phase = .detached) ∧ (t.usb.attached = s.usb.attached → t.usb.phase = s.usb.phase)) ∧
  (∀ (s : State) (t : Fin 8) (v : Word), inRun s t →
    (t ≠ 0 → Does (.usbCtrlWrite t v) s fun u => deniedTo s u t 0x360000 true false) ∧
    (Does (.usbCtrlWrite 0 v) s fun u => u.usb.connect = v.getLsbD 0 ∧ u.usb.attached = (s.usb.vbus && v.getLsbD 0 && s.cfg.dev.usbPresent) ∧
      keptBut (.usb :: accessing) s u)) ∧
  (∀ (s : State) (hs : Bool), s.usb.attached = true →
    (Does (.usbBusReset hs) s fun t => t.usb.phase = .default_ ∧ t.usb.highSpeed = hs ∧ t.usb.addr = 0#7 ∧ t.usb.config = 0#8 ∧
      t.usb.evt.getLsbD 0 = true ∧ t.usb.tx = s.usb.tx ∧ keptBut (.usb :: reporting) s t) ∧
    (s.usb.suspended = false → Does .usbSuspend s fun t => t.usb = { s.usb with suspended := true, evt := s.usb.evt ||| 4#5 } ∧
      keptBut (.usb :: reporting) s t) ∧
    (s.usb.suspended = true → Does .usbResume s fun t => t.usb = { s.usb with suspended := false, evt := s.usb.evt ||| 8#5 } ∧
      keptBut (.usb :: reporting) s t)) ∧
  (∀ (s : State) (r : UsbSetup), s.usb.attached = false ∨ s.usb.suspended = true →
    ∀ c ∈ [Instr.getDescriptor r, .setAddress r, .setConfiguration r, .getConfiguration r, .setInterface r, .getInterface r, .getStatus r,
      .setFeature r, .clearFeature r, .usbUnsupportedRequest r], exec c s = .next s) ∧
  (∀ (s : State) (r : UsbSetup), s.usb.attached = true → s.usb.suspended = false → let u := s.usb
    let gives := fun (t : State) (x : UsbState) (a : Option (List Byte)) => t.outs = .usbControl a :: s.outs ∧ t.usb = x ∧ keptBut [.usb, .outs] s t
    let type := r.value.toNat / 256
    let i := r.index.toNat % 256
    let midi := s.midiInterface = some i
    let own := ((s.descriptor 2 0).getD []).getD 5 0#8
    (type ∈ [1, 2, 3, 6, 0x26] → Does (.getDescriptor r) s fun t =>
      gives t u ((s.descriptor type (r.value.toNat % 256)).map fun d => d.take r.length.toNat)) ∧
    (type ∉ [1, 2, 3, 6, 0x26] → Does (.getDescriptor r) s fun t => gives t u none) ∧
    (u.phase ≠ .configured → Does (.setAddress r) s fun t => gives t
      { u with addr := r.value.setWidth 7, phase := if r.value.toNat % 128 = 0 then .default_ else .address } (some [])) ∧
    (u.phase ≠ .default_ → r.value.setWidth 8 = own → own ≠ 0#8 → Does (.setConfiguration r) s fun t => t.usb.config = own ∧
      t.usb.phase = .configured ∧ t.usb.alt = false ∧ t.usb.evt = u.evt ||| 2#5 ∧ Output.usbControl (some []) ∈ t.outs ∧
      keptBut (.usb :: reporting) s t) ∧
    (u.phase = .default_ ∨ (r.value.setWidth 8 ≠ own ∧ r.value.setWidth 8 ≠ 0#8) → Does (.setConfiguration r) s fun t => gives t u none) ∧
    (Does (.getConfiguration r) s fun t => gives t u (some ([u.config].take r.length.toNat))) ∧
    (u.phase = .configured → s.hasInterface i = true → midi → r.value.toNat ≤ 1 → Does (.setInterface r) s fun t => gives t
      { u with alt := r.value.toNat == 1, haltOut := false, haltIn := false, outPart := [] } (some [])) ∧
    (u.phase ≠ .configured ∨ s.hasInterface i = false ∨ 1 < r.value.toNat ∨ (¬ midi ∧ r.value ≠ 0#16) → Does (.setInterface r) s fun t =>
      gives t u none) ∧
    (u.phase = .configured → s.hasInterface i = true → Does (.getInterface r) s fun t => gives t u
      (some ([if midi ∧ u.alt = true then 1#8 else 0#8].take r.length.toNat))) ∧
    (r.requestType.toNat % 32 = 2 → i = 1 → Does (.getStatus r) s fun t => gives t u
      (some ([if u.haltOut = true then 1#8 else 0#8, 0#8].take r.length.toNat))) ∧
    (r.requestType.toNat % 32 = 0 → r.value = 1#16 →
      (Does (.setFeature r) s fun t => gives t { u with remoteWake := true } (some [])) ∧
      (Does (.clearFeature r) s fun t => gives t { u with remoteWake := false } (some []))) ∧
    (Does (.usbUnsupportedRequest r) s fun t => gives t u none)) ∧
  (∀ (s : State) (w : Word) (m : Msg), s.usb.attached = true → s.usb.suspended = false → s.usb.phase = .configured → s.usb.haltOut = false →
    (s.usb.alt = false → 16 ≤ s.front.usb1.length → Does (.usbOutData [w]) s fun t => t.outs = .usbNak :: s.outs ∧ keptBut [.outs] s t) ∧
    (s.usb.alt = false → s.front.usb1.length < 16 → usbMidiMsg w = some m →
      (∀ n, s.midiMap 0 (w.toNat / 16 % 16) = some n → Does (.usbOutData [w]) s fun t => keptBut [.front] s t ∧ t.front =
        { s.front with usb1 := s.front.usb1 ++ [{ msg := m, playAt := 0#64, value := none, mirror := none, ten := n }] }) ∧
      (s.midiMap 0 (w.toNat / 16 % 16) = none → Does (.usbOutData [w]) s fun t => keptBut (.usb :: reporting) s t ∧
        t.usb = { s.usb with unmapped := errCount s.usb.unmapped 1, evt := s.usb.evt ||| 16#5 })) ∧
    (s.usb.alt = true → s.front.usb2.length < 16 → s.usb.outPart = [] → umpMsg [w] = m → umpWords w = 1 →
      ∀ n, (umpGroup w).bind (s.midiMap 1) = some n → Does (.usbOutData [w]) s fun t => keptBut [.front, .usb] s t ∧ t.usb = s.usb ∧ t.front =
        { s.front with usb2 := s.front.usb2 ++ [{ msg := m, playAt := 0#64, value := none, mirror := none, ten := n }] })) ∧
  (∀ (s : State) (t n : Fin 8) (v : Word), inRun s t →
    (t ≠ n → Does (.usbTxdataWrite t n v) s fun u => deniedTo s u t (0x360100 + 0x10 * n.val) true false) ∧
    (t = n → let x := s.usb.tx.get n
      let l := x.asm ++ [v]
      let mine := ∀ g, umpGroup (l.headD 0#32) = some g → s.midiMap (if s.usb.alt = true then 1 else 0) g = some n.val
      let others := fun u : State => (∀ k < 8, k ≠ n.val → u.usb.tx.get k = s.usb.tx.get k) ∧ keptBut (.usb :: accessing) s u
      (l.length < umpWords (l.headD 0#32) → Does (.usbTxdataWrite t n v) s fun u => u.usb.tx.get n = { x with asm := l } ∧ others u) ∧
      (umpWords (l.headD 0#32) ≤ l.length → mine → x.fill + l.length ≤ 64 → Does (.usbTxdataWrite t n v) s fun u =>
        u.usb.tx.get n = { x with asm := [], queue := x.queue ++ [l] } ∧ others u) ∧
      (umpWords (l.headD 0#32) ≤ l.length → ¬ mine ∨ 64 < x.fill + l.length → Does (.usbTxdataWrite t n v) s fun u =>
        (u.usb.tx.get n).queue = x.queue ∧ (u.usb.tx.get n).asm = [] ∧ (u.usb.tx.get n).drops = errCount x.drops 1 ∧ others u))) ∧
  ∀ (s : State) (n : Nat) (m : List Word) (rest : List (List Word)), s.usb.attached = true → s.usb.suspended = false → s.usb.phase = .configured →
    s.usb.haltIn = false → ((List.range 8).map fun i => (s.usb.rr + i) % 8).find? (fun k => !(s.usb.tx.get k).queue.isEmpty) = some n →
    (s.usb.tx.get n).queue = m :: rest → Does .usbInSend s fun t => (t.usb.tx.get n).queue = rest ∧ t.usb.rr = (n + 1) % 8 ∧
      keptBut (.usb :: reporting) s t ∧ (s.usb.alt = true → Output.usbIn m ∈ t.outs) ∧
      (s.usb.alt = false → ∀ p, usbConvert m = some p → Output.usbIn p ∈ t.outs) ∧
      (s.usb.alt = false → usbConvert m = none → (t.usb.tx.get n).drops = errCount (s.usb.tx.get n).drops 1 ∧ (t.usb.tx.get n).stat.getLsbD 2 = true)

/-- A tick counts a running channel up, wrapping into its extension. A match sets CMP, does the pin action and in mode 4 adds ADD to the compare value; its event with EVT enters the timer ingress, or is counted as lost while the last one waits. PWM returns to 0 at its period, where waiting values take effect, and drives its pin below CMP. A single capture keeps the last two counts, a paired one their difference. The owner's CMP and RUN writes; another's are denied. TIMER_START starts every configured channel at 0. A key's B contact closing with A closed gives a note-on of the interval's velocity, A closing none; the last slot presents the scan's events in order. (R92, R349, R350, R351, R352, R353, R354, R356, R357, R358, R375) -/
def Obligations.TimersAndKeybed : Prop :=
  (∀ (s : State) (u : Fin 24) (k : Fin 4), let x := s.tchan u k
    let runs := s.dev.phase.hosted = true ∧ x.started = true ∧ x.run = true
    (¬ runs ∨ x.mode = 0 ∨ 5 < x.mode → exec (.timerTick u k) s = .next s) ∧
    (runs → 1 ≤ x.mode → x.mode ≤ 4 → let c := x.cnt + 1#32
      let y : TimerChan := if c = 0#32 then { x with cnt := c, ext := x.ext + 1#16, stat := x.stat ||| 4#6 ||| (if x.ext + 1#16 = 0#16 then 16#6 else 0#6) }
        else { x with cnt := c }
      (x.mode ≤ 2 ∨ c ≠ x.cmp → Does (.timerTick u k) s fun t => timerOnly s t u k y ∧ keptBut (.timers :: reporting) s t) ∧
      (3 ≤ x.mode → c = x.cmp → let act := x.cfg.toNat / 2 ^ 12 % 4
        let z := { y with
          stat := y.stat ||| 1#6, cmp := if x.mode = 4 then x.cmp + x.add else x.cmp
          pin := if act = 1 then true else if act = 2 then false else if act = 3 then !x.pin else x.pin }
        let e := plainEvent (midiMsg 0 (x.evmsg.setWidth 8) ((x.evmsg >>> 8).setWidth 8) ((x.evmsg >>> 16).setWidth 8))
          ((s.periphOwner pcTimer u).getD 0)
        Does (.timerTick u k) s fun t => keptBut timing s t ∧
          (x.cfg.getLsbD 14 = false → timerOnly s t u k z ∧ t.front = s.front) ∧
          (x.cfg.getLsbD 14 = true → x.msg ≠ none → timerOnly s t u k { z with stat := z.stat ||| 32#6, evLost := errCount x.evLost 1 } ∧
            t.front = s.front) ∧
          (x.cfg.getLsbD 14 = true → x.msg = none → 16 ≤ s.front.timers.length → timerOnly s t u k { z with msg := some e } ∧ t.front = s.front) ∧
          (x.cfg.getLsbD 14 = true → x.msg = none → s.front.timers.length < 16 → timerOnly s t u k z ∧
            t.front = { s.front with timers := s.front.timers ++ [e] }))) ∧
    (runs → x.mode = 5 → Does (.timerTick u k) s fun t => let y := t.tchan u k
      timerOnly s t u k y ∧ keptBut (.timers :: reporting) s t ∧ y.pin = decide (y.cnt.toNat < y.cmp.toNat) ∧
      (x.add.toNat ≤ x.cnt.toNat + 1 → y.cnt = 0#32 ∧ y.cmp = x.cmpNext.getD x.cmp ∧ y.add = x.addNext.getD x.add) ∧
      (x.cnt.toNat + 1 < x.add.toNat → y.cnt = x.cnt + 1#32 ∧ y.cmp = x.cmp ∧ y.add = x.add))) ∧
  (∀ (s : State) (u : Fin 24) (k : Fin 4) (level : Bool), s.dev.phase.hosted = true → let x := s.tchan u k
    let v := if x.run = true then x.cnt - BitVec.ofNat 32 (2 ^ (x.cfg.toNat / 2 ^ 9 % 8) - 1) else x.cnt
    let edge := x.cfg.toNat / 2 ^ 7 % 4
    x.started = true → x.cfg.getLsbD 14 = false → level ≠ x.pin →
    (x.mode = 1 → edge = 2 ∨ (edge = 0 ∧ level = true) ∨ (edge = 1 ∧ level = false) → Does (.captureEdge u k level) s fun t =>
      let y := t.tchan u k
      timerOnly s t u k y ∧ keptBut timing s t ∧ y.capA = v ∧ y.capB = x.capA ∧ y.pin = level ∧ y.stat.getLsbD 1 = true ∧
      y.evLost = (if x.stat.getLsbD 1 = true then errCount x.evLost 1 else x.evLost)) ∧
    (x.mode = 2 → edge = 0 → level = true → x.first = false → Does (.captureEdge u k level) s fun t =>
      timerOnly s t u k { x with pin := true, edge := v, first := true } ∧ keptBut (.timers :: reporting) s t) ∧
    (x.mode = 2 → edge = 0 → level = false → x.first = true → Does (.captureEdge u k level) s fun t => let y := t.tchan u k
      timerOnly s t u k y ∧ keptBut timing s t ∧ y.capA = x.edge ∧ y.capB = v ∧ y.pair = v - x.edge ∧ y.first = false ∧
      y.stat.getLsbD 1 = true)) ∧
  (∀ (s : State) (t : Fin 8) (u : Fin 24) (k : Fin 4) (v : Word), inRun s t → let x := s.tchan u k
    (s.periphOwner pcTimer u ≠ some t.val → (Does (.tuCmpWrite t u k v) s fun w => deniedTo s w t (0x370010 + 0x100 * u.val + 0x40 * k.val) true false) ∧
      Does (.tuCtrlWrite t u k v) s fun w => deniedTo s w t (0x370004 + 0x100 * u.val + 0x40 * k.val) true false) ∧
    (s.periphOwner pcTimer u = some t.val → (Does (.tuCmpWrite t u k v) s fun w => keptBut (.timers :: accessing) s w ∧
        timerOnly s w u k (if x.mode = 5 then { x with cmpNext := some v } else { x with cmp := v })) ∧
      Does (.tuCtrlWrite t u k v) s fun w => keptBut (.timers :: accessing) s w ∧ timerOnly s w u k { x with run := v.getLsbD 0 })) ∧
  (∀ s : State, s.dev.phase = .running → s.time.framesRun = true → Does .timerStart s fun t => keptBut [.timers] s t ∧
    ∀ u < 24, ∀ k < 4, let x := s.tchan u k
      t.tchan u k = if (s.timerRec u k).isSome = true ∧ x.started = false then { x with cnt := 0#32, run := true, started := true } else x) ∧
  ∀ (s : State) (slot : Fin 16) (sense : BitVec 16) (n : Nat) (r : KeybedRec), s.keybedRec = some (n, r) → s.dev.phase.hosted = true →
    s.keybed.en = true → s.keybed.setup = false → s.keybed.missed = [] → slot.val < r.lines → let key := fun i : Nat => slot.val / 2 * 16 + i
    let isB := slot.val % 2 == 1
    let contact := fun i : Nat => if isB = true then (s.keybed.keys.get (key i)).b else (s.keybed.keys.get (key i)).a
    (∀ j < 16, (∀ i < 16, i ≠ j → sense.getLsbD i = true ∧ (contact i).closed = false) → sense.getLsbD j = false → (contact j).closed = false →
      key j < r.keys → key j < 128 → slot.val + 1 < r.lines → s.keybed.buffer.length + s.keybed.scan.length < 64 →
      let x := s.keybed.keys.get (key j)
      x.mute = false → x.sounding = false → (isB = true → x.a.closed = true) → Does (.keybedSlotSample slot sense) s fun t => keptBut [.keybed] s t ∧
        (∀ q < 128, q ≠ key j → t.keybed.keys.get q = s.keybed.keys.get q) ∧
        (isB = false → (t.keybed.keys.get (key j)).a.closed = true ∧ (t.keybed.keys.get (key j)).a.closedAt = s.now ∧ t.keybed.scan = s.keybed.scan) ∧
        (isB = true → (t.keybed.keys.get (key j)).b.closed = true ∧ (t.keybed.keys.get (key j)).sounding = true ∧
          t.keybed.scan = s.keybed.scan ++ 
            [⟨s.now, key j % 16, plainEvent (s.keyMsg (key j) true (s.velOf (s.now.toNat - x.a.closedAt.toNat))) 0⟩])) ∧
    ((∀ i < 16, sense.getLsbD i = true ∧ (contact i).closed = false) → slot.val + 1 = r.lines → s.keybed.buffer = [] → s.front.keybed = [] →
      s.keybed.scan.length ≤ 16 → Does (.keybedSlotSample slot sense) s fun t => keptBut [.keybed, .front] s t ∧
        t.front = { s.front with keybed := (sortScan s.keybed.scan).map ScanEvent.ev } ∧ t.keybed = { s.keybed with scan := [] })

/-- A received character is stored, with TRIGGER when its level is reached, or dropped by a full queue with OVR to follow; PANEL9 with AFILT stores after a matching address; a CARD parity error within RETRY is signalled; a MIDI character goes through the parser to its ingress. A read gives the oldest character with VALID, 0 when empty or in MIDI mode. A written character is queued, or sets TX_OVF; a sent one leaves the queue, or repeats in CARD mode. Clearing EN flushes the port; its format is locked while EN is 1. I2C entries are queued, up to 4 with a count; bytes flow through the 16-byte FIFOs; an entry ends DONE, with a NACK or with its arbitration lost; a timeout discards the queue. The bus clear leaves the controller ready, or stuck and disabled. A flash word is read through FL_RADDR while not released. (R8, R363, R364, R365, R366, R367, R368, R369, R370, R371, R373, R379) -/
def Obligations.CharacterPortsI2cFlash : Prop :=
  (∀ (s : State) (n : Fin 8) (c : RxChar), let u := s.uarts.get n
    (s.dev.phase = .running → u.en = true → (s.uartMode n = some .async ∨ (s.uartMode n = some .panel9 ∧ u.afilt = false)) →
      let e := rxWord (if s.uartMode n = some .panel9 then c.data.toNat else c.data.toNat % 2 ^ (u.fmt.toNat % 16)) c
      Does (.uartRxChar n c) s fun t => let y := t.uarts.get n
        uartOnly s t n y ∧ keptBut (.uarts :: reporting) s t ∧
        (u.rx.length < 16 → y.rx = u.rx ++ [if u.ovr = true then e ||| 0x10000#32 else e] ∧ y.ovr = false ∧
          (s.uartTrigger n ≤ u.rx.length + 1 → y.stat.getLsbD 0 = true)) ∧
        (16 ≤ u.rx.length → y.rx = u.rx ∧ y.ovr = true ∧ y.ovrCnt = errCount u.ovrCnt 1)) ∧
    (s.dev.phase = .running → u.en = true → s.uartMode n = some .panel9 → u.afilt = true → Does (.uartRxChar n c) s fun t => let y := t.uarts.get n
      uartOnly s t n y ∧ keptBut (.uarts :: reporting) s t ∧
      y.addressed = (if c.data.getLsbD 8 = true then c.data.toNat == s.uartMatch n else u.addressed) ∧ (y.addressed = false → y.rx = u.rx) ∧
      (y.addressed = true → u.rx.length < 16 → y.rx.length = u.rx.length + 1)) ∧
    (s.dev.phase = .running → u.en = true → s.uartMode n = some .card → u.tx = [] → c.parity = true → u.rxRun < u.card.toNat / 2 ^ 20 % 8 →
      Does (.uartRxChar n c) s fun t => uartOnly s t n { u with rxRun := u.rxRun + 1 } ∧ Output.uartError n ∈ t.outs ∧
        keptBut (.uarts :: reporting) s t) ∧
    (s.dev.phase = .running → s.time.framesRun = true → u.en = true → s.uartMode n = some .midi → u.rx = [] → (s.front.uarts.get n).length < 16 →
      c.noise = false → c.framing = false → c.parity = false → u.ovr = false → let r := { u with rx := [] }.parse (BitVec.ofNat 32 (c.data.toNat % 256))
      Does (.uartRxChar n c) s fun t => (t.uarts.get n).rx = [] ∧ (t.uarts.get n).parts = r.u.parts ∧ (t.uarts.get n).running = r.u.running ∧
        t.front.uarts.get n = s.front.uarts.get n ++ r.out.map (fun m => plainEvent m 0) ∧ keptBut (.uarts :: .front :: reporting) s t) ∧
    (s.dev.phase = .running → (s.uartMode n = none ∨ u.en = false) → exec (.uartRxChar n c) s = .next s) ∧
    (s.dev.phase = .running → 1 ≤ u.rx.length → u.rx.length < s.uartTrigger n → Does (.uartRxIdle n) s fun t =>
      uartOnly s t n { u with stat := u.stat ||| 2#7 } ∧ keptBut (.uarts :: reporting) s t) ∧
    ∀ (e : Bool) (x : BitVec 9) (rest : List (BitVec 9)) (m : UartMode), s.dev.phase = .running → u.en = true → s.uartMode n = some m → u.tx = x :: rest →
      Does (.uartTxChar n e) s fun t => let y := t.uarts.get n
        uartOnly s t n y ∧ Output.uart n x ∈ t.outs ∧ keptBut (.uarts :: reporting) s t ∧
        (m ≠ .card ∨ e = false → y.tx = rest ∧ y.txRun = 0 ∧ (rest = [] → y.stat.getLsbD 3 = true)) ∧
        (m = .card → e = true → u.txRun < u.card.toNat / 2 ^ 20 % 8 → y = { u with txRun := u.txRun + 1 }) ∧
        (m = .card → e = true → u.card.toNat / 2 ^ 20 % 8 ≤ u.txRun → y.tx = rest ∧ y.stat.getLsbD 4 = true)) ∧
  (∀ (s : State) (t n : Fin 8) (v : Word), inRun s t → s.periphOwner pcUart n = some t.val → let u := s.uarts.get n
    (∀ e rest, s.uartMode n ≠ some .midi → u.rx = e :: rest → Does (.uartRxRead t n) s fun w => uartOnly s w n { u with rx := rest } ∧
      Output.regRead t (e ||| 0x80000000#32) ∈ w.outs ∧ keptBut (.uarts :: accessing) s w) ∧
    (s.uartMode n = some .midi ∨ u.rx = [] → Does (.uartRxRead t n) s fun w => Output.regRead t 0#32 ∈ w.outs ∧ keptBut accessing s w) ∧
    (Does (.uartTxWrite t n v) s fun w => keptBut (.uarts :: accessing) s w ∧ uartOnly s w n
      (if 16 ≤ u.tx.length then { u with stat := u.stat ||| 64#7 } else { u with tx := u.tx ++ [v.setWidth 9] })) ∧
    (Does (.uCtrlWrite t n v) s fun w => let y := w.uarts.get n
      keptBut (.uarts :: accessing) s w ∧ uartOnly s w n y ∧ y.en = v.getLsbD 0 ∧ y.aux = v.getLsbD 1 ∧ y.afilt = v.getLsbD 2 ∧ y.fmt = u.fmt ∧
      (u.en = true → v.getLsbD 0 = false → y.rx = [] ∧ y.tx = []) ∧ (v.getLsbD 0 = true → y.rx = u.rx ∧ y.tx = u.tx)) ∧
    (∀ card, u.en = true → Does (.uFmtWrite t n card v) s fun w => pendingSource w 1004 ∧ keptBut accessing s w) ∧
    (u.en = false → 5 ≤ v.toNat % 16 → v.toNat % 16 ≤ 9 → v.toNat / 16 % 4 ≠ 3 → Does (.uFmtWrite t n false v) s fun w =>
      keptBut (.uarts :: accessing) s w ∧ uartOnly s w n { u with fmt := v.setWidth 7 })) ∧
  (∀ (s : State) (t : Fin 8) (c : Fin 2) (v : Word), inRun s t → s.periphOwner pcI2c c = some t.val → let x := s.i2c.get c
    (v.toNat / 2 ^ 8 % 256 = 0 ∨ 4 ≤ x.cmds.length → Does (.i2cCmdWrite t c v) s fun w => pendingSource w 1004 ∧ keptBut accessing s w) ∧
    (v.toNat / 2 ^ 8 % 256 ≠ 0 → x.cmds ≠ [] → x.cmds.length < 4 → x.txf = [] → Does (.i2cCmdWrite t c v) s fun w =>
      i2cOnly s w c { x with cmds := x.cmds ++ [v &&& 0x1FFFF#32] } ∧ keptBut (.i2c :: accessing) s w) ∧
    (x.cmds = [] → Does (.i2cDataWrite t c v) s fun w => keptBut (.i2c :: accessing) s w ∧
      i2cOnly s w c (if x.txf.length < 16 then { x with txf := x.txf ++ [v.setWidth 8] } else x)) ∧
    (∀ b rest, x.rxf = b :: rest → x.held = [] → x.ending = false → Does (.i2cDataRead t c) s fun w => keptBut (.i2c :: accessing) s w ∧
      i2cOnly s w c { x with rxf := rest } ∧ Output.regRead t (BitVec.ofNat 32 (b.toNat + 2 ^ 31)) ∈ w.outs) ∧
    (x.rxf = [] → Does (.i2cDataRead t c) s fun w => Output.regRead t 0#32 ∈ w.outs ∧ keptBut accessing s w) ∧
    (v.getLsbD 0 = false → ∀ bus, Does (.i2cEnable t c v bus) s fun w => i2cOnly s w c { x with en := false, ready := false } ∧
      keptBut (.i2c :: accessing) s w) ∧
    (v.getLsbD 0 = true → x.cmds = [] →
      (Does (.i2cEnable t c v .idle) s fun w => i2cOnly s w c { x with en := true, ready := true, busHeld := false } ∧
        keptBut (.i2c :: accessing) s w) ∧
      (Does (.i2cEnable t c v .stuck) s fun w => i2cOnly s w c { x with en := false, ready := false, stat := x.stat ||| 16#6 } ∧
        keptBut (.i2c :: accessing) s w))) ∧
  (∀ (s : State) (c : Fin 2) (cmd : Word), let x := s.i2c.get c
    (x.cmds = [cmd] → x.ready = true → x.ending = false →
      let cleared := { x with cmds := [], sent := 0, held := [], ending := false }
      (∀ k, Does (.i2cEntryDone c (.nack k)) s fun t => i2cOnly s t c { cleared with busHeld := false, stat := x.stat ||| 3#6 } ∧
        keptBut (.i2c :: reporting) s t) ∧
      (Does (.i2cEntryDone c .arbLost) s fun t => i2cOnly s t c { cleared with busHeld := false, stat := x.stat ||| 5#6 } ∧
        keptBut (.i2c :: reporting) s t) ∧
      (cmd.getLsbD 7 = false → x.sent = cmd.toNat / 2 ^ 8 % 256 → Does (.i2cEntryDone c (.done [])) s fun t => keptBut (.i2c :: reporting) s t ∧
        i2cOnly s t c { cleared with busHeld := !cmd.getLsbD 16, stat := x.stat ||| 1#6 }) ∧
      ∀ d, cmd.getLsbD 7 = true → d.length = cmd.toNat / 2 ^ 8 % 256 → x.rxf.length + d.length ≤ 16 → Does (.i2cEntryDone c (.done d)) s fun t =>
        i2cOnly s t c { cleared with rxf := x.rxf ++ d, busHeld := !cmd.getLsbD 16, stat := x.stat ||| 1#6 } ∧ keptBut (.i2c :: reporting) s t) ∧
    (x.cmds ≠ [] → x.ready = true → Does (.i2cTimeout c .idle) s fun t => keptBut (.i2c :: reporting) s t ∧ i2cOnly s t c
      { x with cmds := [], sent := 0, held := [], ending := false, busHeld := false, ready := true, en := true, stat := x.stat ||| 8#6 })) ∧
  ∀ (s : State) (v : Word) (d : Option Word), s.dev.phase = .running →
    (Does (.flCtrlWrite 0 v) s fun t => t.flash = { s.flash with released := v.getLsbD 0 } ∧ keptBut (.flash :: accessing) s t) ∧
    (s.flash.released = false → v.toNat % 4 = 0 → Does (.flRaddrWrite 0 v) s fun t => t.flash = { s.flash with busy := true, addr := v } ∧
      Output.flashRead v ∈ t.outs ∧ keptBut (.flash :: accessing) s t) ∧
    (s.flash.released = true ∨ v.toNat % 4 ≠ 0 → Does (.flRaddrWrite 0 v) s fun t => pendingSource t 1004 ∧ keptBut accessing s t) ∧
    (s.flash.busy = true → Does (.flReadDone d) s fun t => keptBut [.flash] s t ∧
      t.flash = { s.flash with busy := false, dsTimeout := d.isNone, rdata := d.getD s.flash.rdata }) ∧
    (s.flash.busy = false → exec (.flReadDone d) s = .next s)

/-- Link-up sends the own digest and takes the partner's, whose difference unsynchronises with cause 7; link-down with cause 1. A packet that is bad or out of sequence is discarded and counted, and unsynchronises with cause 2 if it is EVENT, MIRROR or SYNC; a taken one does its work: FRAME gives the follower its frame index, SAMPLE the words of a switch, EVENT joins the link event queue (full: cause 3), REVERT names an owning standby's hand-back, SYNC gathers, MIRROR writes its 64 bytes (unmarked: cause 8), IDLE nothing. A primary whose own event record finds the mirror queue full ends with cause 3 instead (R278). SP_OWN_IN clears OE, OE_SET sets it. The referee changes SP_SEL by Table 4, with ES0999. At S the forwarder sends the state of R205 and completes; the follower frees its voices and takes it; while the digests differ nothing happens. A state takes its own sync words unchanged. A device outside a pair changes nothing. (R398, R400, R401, R402, R403, R404, R406, R408, R409, R410, R411, R205) -/
def Obligations.StagePairs : Prop :=
  (∀ (s : State) (d : Word), s.inPair = true →
    (s.pair.link = false → s.pair.pdigestKnown = false → Does (.adederLinkUp d) s fun t =>
      let p := { s.pair with link := true, rxSeq := none, status := s.pair.status ||| 0x40#16, pdigest := d, pdigestKnown := true }
      pairIs s t (if d = s.pairCfg.digest then p else lostSync { p with status := p.status ||| 0x4000#16 } 7#4) ∧
      Output.pairDigest s.pairCfg.digest ∈ t.outs) ∧
    (s.pair.link = true → exec (.adederLinkUp d) s = .next s ∧ Does .adederLinkDown s fun t =>
      pairIs s t (lostSync { s.pair with link := false, pdigestKnown := false, status := s.pair.status ||| 0x80#16 } 1#4)) ∧
    (s.pair.link = false → exec .adederLinkDown s = .next s)) ∧
  (∀ (s : State) (c : Instr) (h : LinkHead) (matters : Bool), s.inPair = true → s.pair.link = true → ¬ taken s h →
    ((∃ m : FramePkt, c = .framePacket m ∧ m.head = h ∧ matters = false) ∨ (∃ m : SamplePkt, c = .samplePacket m ∧ m.head = h ∧ matters = false) ∨
      (∃ m : RevertPkt, c = .revertPacket m ∧ m.head = h ∧ matters = false) ∨ (∃ m : EventPkt, c = .eventPacket m ∧ m.head = h ∧ matters = true) ∨
      (∃ m : SyncPkt, c = .syncPacket m ∧ m.head = h ∧ matters = true) ∨ (∃ m : MirrorPkt, c = .mirrorPacket m ∧ m.head = h ∧ matters = true)) →
    Does c s fun t => pairIs s t (if matters = true then lostSync (seqLost s.pair h) 2#4 else seqLost s.pair h)) ∧
  (∀ s : State, s.inPair = true → s.pair.link = true →
    (∀ m : FramePkt, taken s m.head → m.digest = s.pairCfg.digest →
      let p := { seqTaken s.pair m.head with pdigest := m.digest, pdigestKnown := true }
      Does (.framePacket m) s fun t => keptBut [.pair, .time] s t ∧
        (s.pair.forwarder = true → t.pair = p ∧ t.time = s.time) ∧
        (s.pair.forwarder = false → t.pair = { p with partnerFrame := some m.frame, partnerSig := some (m.frame - 1#64, m.signature) } ∧
          t.time = if s.dev.phase.frames = true then { s.time with frameIdx := m.frame } else s.time)) ∧
    (∀ m : SamplePkt, taken s m.head → Does (.samplePacket m) s fun t => keptBut [.pair] s t ∧
      t.pair = { seqTaken s.pair m.head with sampleIn := m.words }) ∧
    (∀ m : EventPkt, taken s m.head → Does (.eventPacket m) s fun t => keptBut (.front :: .pair :: reporting) s t ∧
      (s.pair.forwarder = true → t.pair = seqTaken s.pair m.head ∧ t.front = s.front) ∧
      (s.pair.forwarder = false → s.front.adeder.length < 256 → t.pair = seqTaken s.pair m.head ∧
        t.front = { s.front with adeder := s.front.adeder ++ [mirroredEvent m] }) ∧
      (s.pair.forwarder = false → 256 ≤ s.front.adeder.length → t.pair = lostSync (seqTaken s.pair m.head) 3#4 ∧ t.front = s.front)) ∧
    (∀ m : RevertPkt, taken s m.head → Does (.revertPacket m) s fun t => keptBut [.pair] s t ∧
      t.pair = if s.role = .standby ∧ s.dev.phase.frames = true ∧ s.pair.own = true ∧ s.time.frameIdx.toNat < m.frame.toNat then
        { seqTaken s.pair m.head with revertAt := some m.frame } else seqTaken s.pair m.head) ∧
    (∀ m : SyncPkt, taken s m.head → Does (.syncPacket m) s fun t => keptBut [.pair] s t ∧
      t.pair = if s.pair.forwarder = true then seqTaken s.pair m.head
        else { seqTaken s.pair m.head with syncWords := s.pair.syncWords ++ m.words }) ∧
    (∀ m : MirrorPkt, taken s m.head → let x := m.cistern.val * cisBytes + m.ofs
      (s.pair.forwarder = true → Does (.mirrorPacket m) s fun t => keptBut [.pair] s t ∧ t.pair = seqTaken s.pair m.head) ∧
      (s.pair.forwarder = false → m.ofs + 64 ≤ cisBytes → (∀ i < 64, s.mirrored (x + i) = true) → m.data.length = 64 → quiet s → memoriesWf s →
        Does (.mirrorPacket m) s fun t => keptBut (.pair :: reporting) s t ∧
          ∀ a, t.mem.cis.get a = if x ≤ a ∧ a < x + 64 then m.data.getD (a - x) 0#8 else s.mem.cis.get a) ∧
      (s.pair.forwarder = false → (∃ i < 64, s.mirrored (x + i) = false) → Does (.mirrorPacket m) s fun t =>
        pairIs s t (lostSync (seqTaken s.pair m.head) 8#4) ∧ (quiet s → t.mem = s.mem))) ∧
    Does .idlePacket s fun t => keptBut [.pair] s t ∧ t.pair = { s.pair with rxSeq := some (s.pair.rxSeq.getD 0#16 + 1#16) }) ∧
  (∀ s : State,
    (s.inPair = true → s.pair.forwarder = false → (Does .spFramePulse s fun t => keptBut [.pair] s t ∧
        t.pair = { s.pair with framePulse := true, holdover := false }) ∧
      (s.dev.phase.frames = true → Does .spFrameMissing s fun t => keptBut [.pair] s t ∧ t.pair = { s.pair with holdover := true })) ∧
    (s.inPair = true → Does .spOwnInRise s fun t => keptBut [.pair] s t ∧ t.pair.own = false ∧ t.pair.ownIn = true ∧ t.pair.req = s.pair.req ∧
      (∀ k, s.pair.switch = some (.incoming k) → t.pair.switch = s.pair.switch) ∧ (s.pair.switch = some .frozen → t.pair.switch = none)) ∧
    (s.inPair = true → s.dev.phase.frames = true → s.pair.req = true → Does .oeSet s fun t => keptBut [.pair] s t ∧
      t.pair = { s.pair with own := true, ownIn := false }) ∧
    (s.inPair = false → ∀ c ∈ [Instr.adederLinkDown, .idlePacket, .spFramePulse, .spFrameMissing, .spOwnInRise, .oeSet, .pairSyncCommit],
      exec c s = .next s)) ∧
  (∀ (s : State) (i : RefereeIn), (s.role ≠ .referee → exec (.refereeEvaluate i) s = .next s) ∧
    (s.role = .referee → Does (.refereeEvaluate i) s fun t =>
      pairIs s t { s.pair with
        selOut := t.pair.selOut, status := if t.pair.selOut = s.pair.selOut then s.pair.status else s.pair.status ||| 0x8000#16 } ∧
      (s.pair.selOut = true → (t.pair.selOut = false ↔ i.frameRecent = false ∧ i.hbPulsing = true)) ∧
      (s.pair.selOut = false → (t.pair.selOut = true ↔ (i.standbyReq = false ∧ i.frameRecent = false ∧ i.hbPulsing = true) ∨
        (i.standbyReq = true ∧ i.matchHeld = true))))) ∧
  (∀ s : State, s.inPair = true → s.dev.phase.frames = true → s.pair.link = true →
    let agree := s.pair.pdigestKnown = true ∧ s.pair.pdigest = s.pairCfg.digest
    (¬ agree → exec .pairSyncCommit s = .next s) ∧
    (∀ (f : DWord) (o : LongOp), s.pair.forwarder = true → s.pair.syncAt = some f → s.syncOp = some o → s.findOp o.handle = some o → o.done = none → agree →
      (s.time.frameIdx.toNat < f.toNat → exec .pairSyncCommit s = .next s) ∧
      (f.toNat ≤ s.time.frameIdx.toNat → Does .pairSyncCommit s fun t => keptBut (.pair :: .ops :: reporting) s t ∧
        pairAfter s t { s.pair with
          txSeq := t.pair.txSeq, synced := true, syncedOnce := true, syncLo := lo32 f, syncHi := hi32 f, syncAt := none, syncWords := []
          matchRun := 0#32, status := s.pair.status ||| 0x200#16 } ∧
        Output.adeder 5 (w32 s.pair.txSeq.toNat :: s.syncState.take 64) ∈ t.outs ∧ inFlight t o.handle (fun q => ended q csDone))) ∧
    (s.pair.forwarder = false → s.pair.syncWords = [] → exec .pairSyncCommit s = .next s) ∧
    (s.pair.forwarder = false → s.pair.syncWords ≠ [] → agree → Does .pairSyncCommit s fun t =>
      let freed := s.freeAllVoices
      keptBut ([.pair, .pools, .gills, .myc, .pumps] ++ reporting) s t ∧ t.gills = freed.gills ∧ t.pumps = freed.pumps ∧
      t.pools = (freed.takeSync s.pair.syncWords).pools ∧ t.myc = (freed.takeSync s.pair.syncWords).myc ∧
      pairAfter s t { s.pair with
        synced := true, syncedOnce := true, syncLo := lo32 s.time.frameIdx, syncHi := hi32 s.time.frameIdx, syncAt := none, syncWords := []
        matchRun := 0#32, status := s.pair.status ||| 0x200#16 })) ∧
  ∀ s : State, s.takeSync s.syncState = s

/-- Tj is the highest reading of the TMONs that pass their self-check and lie within 15 °C of the median; the others set their bits. Warn, Reduce and Critical are entered at 95, 100 and 110 °C, or while fewer than 2 are valid, and left below 92, 97 and 95 °C; entering Warn revokes the permits of jobs, entering Reduce steps the cap down, Critical is a park cause. A step moves the cap down by 1 while Reduce or Critical holds, else up, within 1 to 8. VMON readings under their limits set their bits, one of VMON0 to 5 is the rail cause, which clears once all six read above. The process band is the mean of the PMONs'; pairs out of 0.80 to 1.20 set their bits. (R381, R384, R385, R386, R387, R388, R396) -/
def Obligations.MonitorsAndStages : Prop :=
  (∀ (s : State) (r : List (BitVec 32 × Bool)) (x : F32) (l : List F32), s.dev.phase.monitors = true →
    let rs := (List.range 12).map fun k => r.getD k (0#32, false)
    let med := medianF ((rs.filter Prod.snd).map Prod.fst)
    let ok := fun y : BitVec 32 × Bool => y.2 && gLe (fAbs (gSub y.1 med)) (gOfInt 15)
    (rs.filter ok).map Prod.fst = x :: l → let tj := l.foldl gMax x
    let stage := fun (on : Bool) (enter leave : Int) => decide (l = []) || gLe (gOfInt enter) tj || (on && !gLt tj (gOfInt leave))
    let w := s.windlass
    Does (.tmonSample r) s fun t => let u := t.windlass
      u.tj = tj ∧ u.tmon = Bank.make 12 (fun k => (r.getD k (0#32, false)).1) ∧ u.warn = stage w.warn 95 92 ∧ u.reduce = stage w.reduce 100 97 ∧
      u.crit = stage w.crit 110 95 ∧ t.supply = { s.supply with thermPark := u.crit } ∧
      u.cap = (if u.reduce = true ∧ w.reduce = false then max 1 (w.cap - 1) else w.cap) ∧
      (∀ k < 12, u.monStat.getLsbD k = (w.monStat.getLsbD k || !ok (r.getD k (0#32, false)))) ∧
      (u.warn = true → w.warn = false → u.status.getLsbD 0 = true ∧ ∀ o ∈ t.ops, o.code = .truffleJob → o.permit ≠ .granted) ∧
      (u.crit = true → w.crit = false → u.status.getLsbD 2 = true) ∧ keptBut shedding s t) ∧
  (∀ s : State, s.dev.phase.monitors = true →
    let k := if (s.windlass.reduce || s.windlass.crit) = true then max 1 (s.windlass.cap - 1) else min 8 (s.windlass.cap + 1)
    Does .capStep s fun t => t.windlass.cap = k ∧ (k ≠ s.windlass.cap → t.windlass.status.getLsbD 3 = true ∧ t.windlass.capFlag = true) ∧
      keptBut (.windlass :: reporting) s t) ∧
  (∀ (s : State) (v : List (BitVec 32)), s.dev.phase.monitors = true → let low := fun i => gLt (v.getD i 0#32) (s.vmonLimit i)
    Does (.vmonSample v) s fun t => t.windlass.vmon = Bank.make 16 (fun i => v.getD i 0#32) ∧
      (∀ i < 16, t.windlass.monStat.getLsbD (12 + i) = (s.windlass.monStat.getLsbD (12 + i) || low i)) ∧
      t.supply = { s.supply with railPark := s.supply.railPark || (List.range 6).any low } ∧ keptBut (.windlass :: .supply :: reporting) s t) ∧
  (∀ s : State, ((∀ i < 6, gLt (s.vmonLimit i) (s.windlass.vmon.get i) = true) → Does .railCauseClear s fun t =>
      t.supply = { s.supply with railPark := false } ∧ keptBut [.supply] s t) ∧
    ((∃ i < 6, gLt (s.vmonLimit i) (s.windlass.vmon.get i) = false) → exec .railCauseClear s = .next s)) ∧
  ∀ (s : State) (v : List (BitVec 32)), s.dev.phase.monitors = true → let p := fun i => v.getD i 0#32
    let mean := gDiv (((List.range 8).map p).foldl gAdd 0#32) (gOfInt 8)
    let off := fun x => gLt x (gRatio 80 100) || gLt (gRatio 120 100) x
    Does (.pmonSample v) s fun t => t.windlass.pmon = Bank.make 8 p ∧
      t.windlass.band = (if gLt mean (gRatio 95 100) = true then 0#2 else if gLe mean (gRatio 105 100) = true then 1#2 else 2#2) ∧
      (∀ k < 4, t.windlass.monStat.getLsbD (28 + k) = (s.windlass.monStat.getLsbD (28 + k) || off (p (2 * k)) || off (p (2 * k + 1)))) ∧
      keptBut (.windlass :: reporting) s t

/-- A window gives rms, maximum and minimum of its values; a SAG, SURGE or RIPPLE detector with a record counts the windows that meet its criterion and becomes active after the record's number of them; the hold-off makes it inactive. The level is the highest of the active detectors, 2 under PFAIL_N; leaving 0 revokes every permit. In LOADING and UNSPAWNED PFAIL_N is only recorded, in OFF and AON ignored. A park from RUNNING revokes the permits, ends what is not committed ABORTED but POWER_PARK, and starts every fade; its fade run, outputs go to high impedance, frames stop and every voice is freed; then committed operations and stores complete, the aquifer enters self-refresh, PARK_ACK rises and the device is PARKED. SUP_CTRL.UNPARK of the steward clears the POWER_PARK cause when no other cause stands; other tenancies are denied. With every cause cleared the device leaves PARKED for RUNNING: the aquifer leaves self-refresh, frames go on from the index reached, and the outputs return, AOUT groups over their precharge, each fade gain of a tenancy without one rising over PARK_FADE. (R24, R92, R320, R389, R390, R391, R392, R393, R397) -/
def Obligations.SupplyWatchAndPark : Prop :=
  (∀ (s : State) (c : Fin 4), s.dev.phase = .running → let q := s.supply.chans.get c
    let v := q.values.reverse
    v ≠ [] → let hi := v.foldl gMax (v.headD 0#32)
    let lo := v.foldl gMin (v.headD 0#32)
    let rms := gSqrt (gDiv (v.foldl (fun a x => gAdd a (gMul x x)) 0#32) (gOfInt v.length))
    Does (.supWindowEnd c) s fun t => let u := t.supply.chans.get c
      u.rms = rms ∧ u.max = hi ∧ u.min = lo ∧ u.values = [] ∧
      (∀ k ∈ [(0, fun x => gLt rms x), (2, fun x => gLt x hi), (3, fun x => gLt x (gSub hi lo))], ∀ r, s.detRec c k.1 = some r →
        let x := q.dets.get k.1
        let met := k.2 r.threshold
        u.dets.get k.1 = ⟨x.active || (met && decide (r.windows ≤ x.run + 1)), if met = true then x.run + 1 else 0, met⟩) ∧
      (∀ d < 4, d = 1 ∨ s.detRec c d = none → u.dets.get d = q.dets.get d) ∧ t.supply.level = t.levelNow ∧
      (s.supply.level = 0 → 0 < t.supply.level → noPermits t) ∧ (∀ k < 4, k ≠ c.val → t.supply.chans.get k = s.supply.chans.get k) ∧
      keptBut shedding s t) ∧
  (∀ (s : State) (c d : Fin 4), let x := (s.supply.chans.get c).dets.get d
    (x.active = true ∧ x.criterion = false → Does (.supDetectorHoldoffEnd c d) s fun t =>
      (t.supply.chans.get c).dets.get d = { x with active := false } ∧ t.supply.level = t.levelNow ∧ keptBut shedding s t) ∧
    (x.active = false ∨ x.criterion = true → exec (.supDetectorHoldoffEnd c d) s = .next s)) ∧
  (∀ s : State, s.supply.pfail = false →
    (s.dev.phase = .running ∨ s.dev.phase = .parked ∨ s.dev.phase = .safe → Does .pfailAssert s fun t => t.supply.pfail = true ∧ t.supply.level = 2 ∧
      t.supply.status.getLsbD 2 = true ∧ t.windlass.shed = true ∧ (s.supply.level = 0 → noPermits t) ∧ keptBut shedding s t) ∧
    (s.dev.phase = .loading ∨ s.dev.phase = .unspawned → Does .pfailAssert s fun t => t.supply = { s.supply with pfail := true } ∧
      keptBut [.supply] s t) ∧
    (s.dev.phase = .off ∨ s.dev.phase = .aon → exec .pfailAssert s = .next s)) ∧
  (∀ s : State, s.supply.pfail = true → s.dev.phase = .running → Does .pfailRelease s fun t => t.supply.pfail = false ∧
    t.supply.level = t.levelNow ∧ t.supply.chans = s.supply.chans ∧ keptBut shedding s t) ∧
  (∀ s : State,
    (s.dev.phase = .running → s.parkCause = true → s.supply.parking = none → Does .parkStart s fun t =>
      t.supply.parking = some (.fade s.parkLength) ∧ noPermits t ∧ (∀ o ∈ t.ops, o.committed = true ∨ o.done ≠ none) ∧
      (∀ n < 8, (t.spout.fades.get n).target = 0#32 ∧ (t.spout.fades.get n).len = s.parkLength) ∧ t.dev.phase = .running ∧
      t.dev.dormEntry = none) ∧
    (s.dev.phase = .running → s.supply.parking = some (.fade 0) → Does .parkFadeEnd s fun t => t.supply.parking = some .drain ∧
      t.time = { s.time with framesRun := false } ∧ (∀ g < 4, (t.spout.lga.get g).enabled = false) ∧ (∀ h < 2, (t.spout.lgc.get h).enabled = false) ∧
      (∀ g < 48, t.gills.get g = (s.gills.get g).freed) ∧ t.pair = { s.pair with req := false, own := false } ∧
      keptBut [.supply, .time, .spout, .gills, .pools, .pumps, .pair] s t) ∧
    (s.parkCause = false → s.supply.parkHandle = none → exec .parkStart s = .next s) ∧
    (s.dev.phase = .running → s.supply.parking = some .drain → Does .parkComplete s fun t => t.dev = { s.dev with phase := .parked } ∧
      t.aq.selfRefresh = true ∧ t.supply.parkAck = true ∧ t.supply.parking = none ∧ t.supply.parkCnt = errCount s.supply.parkCnt 1 ∧
      t.supply.status.getLsbD 3 = true ∧ t.time = s.time ∧ t.host.wcb = [] ∧ (quiet s → t.mem.mirrorQ = []) ∧
      (∀ o ∈ t.ops, o.code = .powerPark → o.done ≠ none) ∧
      ∀ o ∈ t.ops, o.committed = true → o.code ∉ [LongCode.cisternHandover, .cisternWipe] → o.done ≠ none) ∧
    (s.dev.phase ≠ .running ∨ s.supply.parking ≠ some .drain → exec .parkComplete s = .next s)) ∧
  (∀ s : State,
    (s.dev.phase = .parked → s.parkCause = false → s.supply.level = 0 → Does .unpark s fun t => t.dev = { s.dev with phase := .running } ∧
      t.time = { s.time with framesRun := true } ∧ t.aq.selfRefresh = false ∧ t.supply.parkAck = false ∧ t.supply.status.getLsbD 4 = true ∧
      (∀ g < 4, (t.spout.lga.get g).precharge = (s.groupOwner g).isSome ∧ (t.spout.lga.get g).enabled = false) ∧
      (∀ h < 2, (t.spout.lgc.get h).enabled = (s.groupOwner (4 + h)).isSome) ∧
      (∀ n < 8, s.spawned n = true → s.ownsLga n = false → t.spout.fades.get n = (Fade.at_ 0#32).start fOne s.cfg.dev.parkFade) ∧
      keptBut (.dev :: .time :: .aq :: .supply :: .spout :: .filter :: .free :: reporting) s t) ∧
    (s.dev.phase ≠ .parked ∨ s.parkCause = true ∨ s.supply.level ≠ 0 → exec .unpark s = .next s)) ∧
  ∀ (s : State) (t : Fin 8) (v : Word), s.opens .supply = true → s.seen t = true →
    (t ≠ 0 → Does (.supCtrlUnpark t v) s fun u => deniedTo s u t 0x3C0004 true false) ∧
    (s.supply.level = 0 → s.supply.pfail = false → s.supply.railPark = false → s.supply.thermPark = false → v.getLsbD 0 = true →
      Does (.supCtrlUnpark 0 v) s fun u => u.supply = { s.supply with swPark := false } ∧ keptBut (.supply :: accessing) s u) ∧
    (s.supply.level ≠ 0 ∨ s.supply.pfail = true ∨ s.supply.railPark = true ∨ s.supply.thermPark = true ∨ v.getLsbD 0 = false →
      Does (.supCtrlUnpark 0 v) s fun u => u.supply = s.supply ∧ keptBut accessing s u)

/-- The owner's write of EVS_CFGi takes MASK, OUT, WELL and VECTOR, and PIN where it is a pin of the owner or OUT is 0 (else ES1004), and clears PEND with bit 1 unless the request is still 1; another tenancy's is denied. EVS_PENDk clears the tenancy's own pending bits only. A pulse end lowers its pin. SNAP copies the 64 counters and SAT bits of the tenancy and clears them; CLEAR clears them. Emission takes the oldest occurrence, and queues its packet if the port is on, the filters pass it and it fits 4,088 bytes, or counts it lost; a due SYNC goes first. The TAP presents IDCODE 0x28480A6B, the signal levels with 0 for analogue balls, or 0 for BYPASS, in every state but OFF. (R10, R92, R414, R415, R416, R418, R421, R424, R426, R427, R428, R430) -/
def Obligations.SourcesCountersTraceTap : Prop :=
  (∀ (s : State) (t : Fin 8) (i : Fin 1024) (v : Word), inRun s t → let c := s.evs.src.get i
    let pinOk := v.getLsbD 4 = false ∨ s.periphOwner pcEvtOut (v.toNat / 2 ^ 16 % 4) = some t.val
    (s.sourceOwner i ≠ some t.val → Does (.evsCfgWrite t i v) s fun w => deniedTo s w t (0x4000 + 4 * i.val) true false) ∧
    (s.sourceOwner i = some t.val → sourceReserved i = true → Does (.evsCfgWrite t i v) s fun w =>
      keptBut accessing s w ∧ (s.host.wcb = [] → w = s)) ∧
    (s.sourceOwner i = some t.val → sourceReserved i = false → Does (.evsCfgWrite t i v) s fun w => let d := w.evs.src.get i
      keptBut accessing s w ∧ d.mask = v.getLsbD 0 ∧ d.out = v.getLsbD 4 ∧ d.well = v.getLsbD 5 ∧ d.vector.toNat = v.toNat / 2 ^ 8 % 64 ∧
      (pinOk → d.pin.toNat = v.toNat / 2 ^ 16 % 4) ∧ (¬ pinOk → d.pin = c.pin ∧ (i.val ≠ 1004 → pendingSource w 1004)) ∧
      (s.host.wcb = [] → i.val < 384 ∨ 640 ≤ i.val → i.val ≠ 1004 → c.req = false → v.getLsbD 1 = true → d.pend = false) ∧
      (c.req = true → c.pend = true → d.pend = true) ∧ (v.getLsbD 1 = false → c.pend = true → d.pend = true))) ∧
  (∀ (s : State) (t : Fin 8) (k : Fin 32) (v : Word), inRun s t →
    Does (.evsPendWrite t k v) s fun w => keptBut accessing s w ∧ (quiet s → s.host.wcb = [] → ∀ i < 1024,
      let c := s.evs.src.get i
      let own := i / 32 = k.val ∧ v.getLsbD (i % 32) = true ∧ s.sourceOwner i = some t.val
      (own → (w.evs.src.get i).pend = (c.pend && c.req)) ∧ (¬ own → w.evs.src.get i = c))) ∧
  (∀ (s : State) (p : Fin 4), Does (.evtOutPulseEnd p) s fun w => keptBut [.evs] s w ∧ w.evs.src = s.evs.src ∧ w.evs.pulse.get p = false ∧
    ∀ q < 4, q ≠ p.val → w.evs.pulse.get q = s.evs.pulse.get q) ∧
  (∀ (s : State) (t n : Fin 8) (v : Word), inRun s t →
    (t ≠ n → ∀ c ∈ [Instr.pcSnap t n v, .pcClear t n v], Does c s fun w => deniedTo s w t (0x3E2000 + 0x20 * n.val) true false) ∧
    (t = n → s.host.wcb = [] → ∀ c ∈ [Instr.pcSnap t n v, .pcClear t n v], Does c s fun w => keptBut [.obs] s w ∧
      w.obs = { s.obs with perf := w.obs.perf } ∧ (∀ m < 8, m ≠ n.val → w.obs.perf.get m = s.obs.perf.get m) ∧
      ∀ j < 64, let x := (s.obs.perf.get n).get j
        let y := (w.obs.perf.get n).get j
        (v.getLsbD 0 = true → y = { x with shot := x.cnt, shotSat := x.sat, cnt := 0#32, sat := false }) ∧
        (v.getLsbD 0 = false → v.getLsbD 1 = true → y = { x with cnt := 0#32, sat := false }) ∧
        (v.getLsbD 0 = false → v.getLsbD 1 = false → y = x))) ∧
  (∀ s : State, (s.obs.traceQ = [] → exec .tracePacketEmit s = .next s) ∧
    ∀ (x : TraceItem) (rest : List TraceItem), s.obs.traceQ = x :: rest →
      let passes := x.cls = 4 ∨ ((∀ n, x.ten = some n → s.obs.allow.get n = true) ∧ (s.cfg.dev.traceFilters = [] ∨
        ∃ f ∈ s.cfg.dev.traceFilters, f.classes.testBit x.cls = true ∧ (x.cls = 1 → f.first ≤ x.source ∧ x.source ≤ f.last)))
      Does .tracePacketEmit s fun w => keptBut [.obs] s w ∧ w.obs.traceQ = rest ∧
        (s.cfg.dev.traceOn = false ∨ ¬ passes → w.obs = { s.obs with traceQ := rest }) ∧
        (s.cfg.dev.traceOn = true → passes → let pkt := packetBytes x.cls x.words
          (s.obs.syncSent = true → s.obs.sinceSync < 4096 → s.obs.lostRun = 0 → s.obs.fifo.length + pkt.length ≤ 4088 →
            w.obs.fifo = s.obs.fifo ++ pkt ∧ w.obs.lostCnt = s.obs.lostCnt) ∧
          (s.obs.syncSent = true → s.obs.sinceSync < 4096 → s.obs.lostRun ≠ 0 → s.obs.fifo.length + pkt.length ≤ 4088 →
            w.obs.fifo = s.obs.fifo ++ packetBytes 14 [w32 s.obs.lostRun] ++ pkt ∧ w.obs.lostRun = 0) ∧
          (s.obs.syncSent = true → s.obs.sinceSync < 4096 → 4088 < s.obs.fifo.length + pkt.length →
            w.obs.fifo = s.obs.fifo ∧ w.obs.lostRun = errCount s.obs.lostRun 1 ∧ w.obs.lostCnt = errCount s.obs.lostCnt 1) ∧
          (s.obs.syncSent = false ∨ 4096 ≤ s.obs.sinceSync → s.obs.lostRun = 0 → s.obs.fifo.length + 13 + pkt.length ≤ 4088 →
            w.obs.fifo = s.obs.fifo ++ packetBytes 15 [lo32 s.now, hi32 s.now, 0x4B585452#32] ++ pkt ∧ w.obs.syncSent = true))) ∧
  ∀ (s : State) (levels : List Bool), (s.dev.phase = .off → ∀ c ∈ [Instr.tapIdcode, .tapSample levels, .tapBypass], exec c s = .next s) ∧
    (s.dev.phase ≠ .off →
      (Does .tapIdcode s fun w => w = (s.modObs (fun o => { o with tapIr := 1#4, tapDr := w.obs.tapDr })).emit (.tap w.obs.tapDr) ∧
        w.obs.tapDr.length = 32 ∧ ∀ j < 32, w.obs.tapDr.getD j false = (0x28480A6B#32).getLsbD j) ∧
      (Does (.tapSample levels) s fun w => w = (s.modObs (fun o => { o with tapIr := 2#4, tapDr := w.obs.tapDr })).emit (.tap w.obs.tapDr) ∧
        w.obs.tapDr.length = 411 ∧ ∀ j < 411, w.obs.tapDr.getD j false = (!analogBall j && levels.getD j false)) ∧
      Does .tapBypass s fun w => w = (s.modObs (fun o => { o with tapIr := 15#4, tapDr := [false] })).emit (.tap [false]))
end

