-- ==== Sys2Proof/Laws/Bank.lean ====
section
/-! SUPPORT. What reading a bank after each way of writing it gives. -/

namespace Sys2Proof

theorem Bank.ext_cells {α : Type} {n : Nat} {a b : Bank α n} (h : a.cells = b.cells) : a = b := by
  cases a; cases b; simp_all

theorem Bank.get_eq {α : Type} {n : Nat} [Inhabited α] (b : Bank α n) {i : Nat} (h : i < n) : b.get i = b.cells[i] := by
  simp [Bank.get, List.getD, h]

theorem Bank.get_out {α : Type} {n : Nat} [Inhabited α] (b : Bank α n) {i : Nat} (h : n ≤ i) : b.get i = default := by
  simp [Bank.get, List.getD, h]

@[simp] theorem Bank.get_all {α : Type} {n : Nat} [Inhabited α] (v : α) {i : Nat} (h : i < n) : (Bank.all n v).get i = v := by
  rw [Bank.get_eq _ h]; simp [Bank.all]

theorem Bank.get_put {α : Type} {n : Nat} [Inhabited α] (b : Bank α n) (i j : Nat) (v : α) :
    (b.put i v).get j = if i = j ∧ j < n then v else b.get j := by
  by_cases h : j < n
  · rw [Bank.get_eq _ h, Bank.get_eq _ h]
    simp [Bank.put, Vector.getElem_setIfInBounds, h]
  · have h2 : n ≤ j := by omega
    rw [Bank.get_out _ h2, Bank.get_out _ h2]
    simp [h]

theorem Bank.get_put_same {α : Type} {n : Nat} [Inhabited α] (b : Bank α n) {i : Nat} (v : α) (h : i < n) : (b.put i v).get i = v := by
  simp [Bank.get_put, h]

theorem Bank.get_put_other {α : Type} {n : Nat} [Inhabited α] (b : Bank α n) {i j : Nat} (v : α) (h : j ≠ i) : (b.put i v).get j = b.get j := by
  rw [Bank.get_put, if_neg]; intro k; exact h k.1.symm

theorem Bank.get_upd {α : Type} {n : Nat} [Inhabited α] (b : Bank α n) (i j : Nat) (f : α → α) :
    (b.upd i f).get j = if i = j ∧ j < n then f (b.get j) else b.get j := by
  unfold Bank.upd
  rw [Bank.get_put]
  by_cases h : i = j ∧ j < n
  · rw [if_pos h, if_pos h, h.1]
  · rw [if_neg h, if_neg h]

theorem Bank.get_upd_same {α : Type} {n : Nat} [Inhabited α] (b : Bank α n) {i : Nat} (f : α → α) (h : i < n) :
    (b.upd i f).get i = f (b.get i) := by
  simp [Bank.get_upd, h]

theorem Bank.get_upd_other {α : Type} {n : Nat} [Inhabited α] (b : Bank α n) {i j : Nat} (f : α → α) (h : j ≠ i) :
    (b.upd i f).get j = b.get j := by
  rw [Bank.get_upd, if_neg]; intro k; exact h k.1.symm

theorem Bank.get_make {α : Type} {n : Nat} [Inhabited α] (f : Nat → α) {i : Nat} (h : i < n) : (Bank.make n f).get i = f i := by
  simp [Bank.get, Bank.make, List.getD, h]

theorem Bank.get_mapi {α β : Type} {n : Nat} [Inhabited α] [Inhabited β] (b : Bank α n) (f : Nat → α → β) {i : Nat} (h : i < n) :
    (b.mapi f).get i = f i (b.get i) := by
  simp [Bank.get, Bank.mapi, List.getD, h]

@[simp] theorem Bank.toList_length {α : Type} {n : Nat} (b : Bank α n) : b.toList.length = n := by
  simp [Bank.toList]

theorem Bank.toList_get {α : Type} {n : Nat} [Inhabited α] (b : Bank α n) {i : Nat} (h : i < n) : b.toList[i]? = some (b.get i) := by
  simp [Bank.toList, Bank.get, List.getD, h]

/-- Two banks with the same entries are the same. -/
theorem Bank.ext_get {α : Type} {n : Nat} [Inhabited α] {a b : Bank α n} (h : ∀ i < n, a.get i = b.get i) : a = b := by
  apply Bank.ext_cells
  apply Vector.ext
  intro i hi
  have := h i hi
  rwa [Bank.get_eq _ hi, Bank.get_eq _ hi] at this

/-- An error counter stays a 16-bit number. -/
theorem errCount_le (c k : Nat) : errCount c k ≤ 65535 := Nat.min_le_left _ _

end Sys2Proof
end

