-- ==== Sys2Proof/Laws/Memory.lean ====
section
/-! SUPPORT. The sparse memories: reading after writing, and every operation keeps the canonical form. -/

namespace Sys2Proof.Machine

theorem Memory.wfFrom_mono {lo hi : Nat} (h : lo ≤ hi) {m : Memory} (w : m.wfFrom hi = true) : m.wfFrom lo = true := by
  cases m with
  | nil => rfl
  | cons c m =>
    obtain ⟨a, b⟩ := c
    simp only [Memory.wfFrom, Bool.and_eq_true, decide_eq_true_eq] at w ⊢
    exact ⟨⟨by omega, w.1.2⟩, w.2⟩

theorem Memory.cons_wf {lo a : Nat} {b : Byte} {m : Memory} (h : lo ≤ a) (w : m.wfFrom (a + 1) = true) : (Memory.cons a b m).wfFrom lo = true := by
  unfold Memory.cons
  split
  · exact Memory.wfFrom_mono (by omega) w
  · rename_i hb
    simp [Memory.wfFrom, h, w, hb]

theorem Memory.put_wfFrom {m : Memory} {lo x : Nat} (v : Byte) (h : lo ≤ x) (w : m.wfFrom lo = true) : (m.put x v).wfFrom lo = true := by
  induction m generalizing lo with
  | nil => exact Memory.cons_wf h rfl
  | cons c m ih =>
    obtain ⟨a, b⟩ := c
    simp only [Memory.wfFrom, Bool.and_eq_true, decide_eq_true_eq] at w
    simp only [Memory.put]
    split
    · rename_i e; subst e; exact Memory.cons_wf h w.2
    · split
      · rename_i hx
        refine Memory.cons_wf h ?_
        simp only [Memory.wfFrom, Bool.and_eq_true, decide_eq_true_eq]
        exact ⟨⟨by omega, w.1.2⟩, w.2⟩
      · simp only [Memory.wfFrom, Bool.and_eq_true, decide_eq_true_eq]
        exact ⟨w.1, ih (by omega) w.2⟩

theorem Memory.put_wf {m : Memory} (x : Nat) (v : Byte) (w : m.wf = true) : (m.put x v).wf = true := Memory.put_wfFrom v (Nat.zero_le _) w

theorem Memory.putBytes_wf {m : Memory} (bs : List Byte) (x : Nat) (w : m.wf = true) : (m.putBytes x bs).wf = true := by
  induction bs generalizing m x with
  | nil => exact w
  | cons b bs ih => exact ih _ (Memory.put_wf x b w)

theorem Memory.putWord_wf {m : Memory} (x : Nat) (v : Word) (w : m.wf = true) : (m.putWord x v).wf = true := Memory.putBytes_wf _ _ w

theorem Memory.filter_wfFrom {m : Memory} {lo : Nat} (p : Host.Cell → Bool) (w : m.wfFrom lo = true) :
    Memory.wfFrom lo (m.filter p) = true := by
  induction m generalizing lo with
  | nil => rfl
  | cons c m ih =>
    obtain ⟨a, b⟩ := c
    simp only [Memory.wfFrom, Bool.and_eq_true, decide_eq_true_eq] at w
    simp only [List.filter]
    split
    · simp only [Memory.wfFrom, Bool.and_eq_true, decide_eq_true_eq]
      exact ⟨w.1, ih w.2⟩
    · exact Memory.wfFrom_mono (by omega) (ih w.2)

theorem Memory.wipe_wf {m : Memory} (x n : Nat) (w : m.wf = true) : (m.wipe x n).wf = true := Memory.filter_wfFrom _ w

@[simp] theorem Memory.nil_wf : Memory.wf [] = true := rfl

/-- Below its first address a canonical memory reads as blank. -/
theorem Memory.get_low {m : Memory} {lo x : Nat} (w : m.wfFrom lo = true) (h : x < lo) : m.get x = Memory.blank := by
  cases m with
  | nil => rfl
  | cons c m =>
    obtain ⟨a, b⟩ := c
    simp only [Memory.wfFrom, Bool.and_eq_true, decide_eq_true_eq] at w
    have h1 : x ≠ a := by omega
    have h2 : x < a := by omega
    simp [Memory.get, h1, h2]

theorem Memory.get_cons {lo a x : Nat} {b : Byte} {m : Memory} (_ : lo ≤ a) (w : m.wfFrom (a + 1) = true) :
    (Memory.cons a b m).get x = if x = a then b else m.get x := by
  unfold Memory.cons
  split
  · rename_i hb
    by_cases e : x = a
    · subst e; rw [if_pos rfl, Memory.get_low w (by omega), hb]
    · rw [if_neg e]
  · by_cases e : x = a
    · simp [Memory.get, e]
    · by_cases l : x < a
      · simp [Memory.get, e, l, Memory.get_low w (show x < a + 1 by omega)]
      · simp [Memory.get, e, l]

theorem Memory.get_put_from {m : Memory} {lo x : Nat} (v : Byte) (y : Nat) (h : lo ≤ x) (w : m.wfFrom lo = true) :
    (m.put x v).get y = if y = x then v else m.get y := by
  induction m generalizing lo with
  | nil => exact Memory.get_cons (lo := lo) h rfl
  | cons c m ih =>
    obtain ⟨a, b⟩ := c
    simp only [Memory.wfFrom, Bool.and_eq_true, decide_eq_true_eq] at w
    simp only [Memory.put]
    split
    · rename_i e
      subst e
      rw [Memory.get_cons h w.2]
      by_cases e2 : y = x
      · simp [e2]
      · by_cases l : y < x
        · simp [Memory.get, e2, l, Memory.get_low w.2 (show y < x + 1 by omega)]
        · simp [Memory.get, e2, l]
    · split
      · rename_i hx
        have w2 : Memory.wfFrom (x + 1) ((a, b) :: m) = true := by
          simp only [Memory.wfFrom, Bool.and_eq_true, decide_eq_true_eq]
          exact ⟨⟨by omega, w.1.2⟩, w.2⟩
        exact Memory.get_cons h w2
      · rename_i h1 h2
        have hi := ih (lo := a + 1) (by omega) w.2
        by_cases e : y = a
        · have : y ≠ x := by omega
          simp [Memory.get, e, show a ≠ x by omega]
        · by_cases l : y < a
          · simp [Memory.get, e, l, show y ≠ x by omega]
          · simp [Memory.get, e, l, hi]

/-- Reading a byte after writing one. -/
theorem Memory.get_put {m : Memory} (x : Nat) (v : Byte) (y : Nat) (w : m.wf = true) :
    (m.put x v).get y = if y = x then v else m.get y := Memory.get_put_from v y (Nat.zero_le _) w

/-- Reading a byte after writing consecutive ones. -/
theorem Memory.get_putBytes {m : Memory} (bs : List Byte) (x y : Nat) (w : m.wf = true) :
    (m.putBytes x bs).get y = if x ≤ y ∧ y < x + bs.length then bs.getD (y - x) 0#8 else m.get y := by
  induction bs generalizing m x with
  | nil => simp [Memory.putBytes] <;> omega
  | cons b bs ih =>
    simp only [Memory.putBytes]
    rw [ih (x + 1) (Memory.put_wf x b w), Memory.get_put x b y w]
    by_cases e : y = x
    · subst e; simp <;> omega
    · by_cases l : x + 1 ≤ y
      · have : y - x = (y - (x + 1)) + 1 := by omega
        simp only [l, true_and, e, if_false, List.length_cons, this, List.getD_cons_succ]
        by_cases u : y < x + 1 + bs.length
        · rw [if_pos u, if_pos ⟨by omega, by omega⟩]
        · rw [if_neg u, if_neg (by omega)]
      · rw [if_neg (by omega), if_neg e, if_neg (by omega)]

/-- Filtering a canonical memory by address keeps or blanks each byte. -/
theorem Memory.get_filter {m : Memory} {lo : Nat} (p : Nat → Bool) (y : Nat) (w : m.wfFrom lo = true) :
    Memory.get (m.filter fun c => p c.1) y = if p y then m.get y else Memory.blank := by
  induction m generalizing lo with
  | nil => simp [Memory.get]
  | cons c m ih =>
    obtain ⟨a, b⟩ := c
    simp only [Memory.wfFrom, Bool.and_eq_true, decide_eq_true_eq] at w
    have hi := ih w.2
    simp only [List.filter]
    split
    · rename_i hp
      by_cases e : y = a
      · subst e; simp [Memory.get, hp]
      · by_cases l : y < a
        · simp [Memory.get, e, l]
        · simp [Memory.get, e, l, hi]
    · rename_i hp
      rw [hi]
      by_cases e : y = a
      · subst e; simp [hp]
      · by_cases l : y < a
        · simp [Memory.get, e, l, Memory.get_low w.2 (show y < a + 1 by omega)]
        · simp [Memory.get, e, l]

/-- Reading a byte after wiping a range. -/
theorem Memory.get_wipe {m : Memory} (x n y : Nat) (w : m.wf = true) :
    (m.wipe x n).get y = if x ≤ y ∧ y < x + n then 0#8 else m.get y := by
  unfold Memory.wipe
  rw [Memory.get_filter (fun a => decide (a < x) || decide (x + n ≤ a)) y w]
  by_cases h : x ≤ y ∧ y < x + n
  · rw [if_pos h, if_neg (by simp; omega)]; rfl
  · rw [if_neg h, if_pos (by simp; omega)]

@[simp] theorem Memory.getBytes_length (m : Memory) (x n : Nat) : (m.getBytes x n).length = n := by simp [Memory.getBytes]

end Sys2Proof.Machine
end

