-- ==== Sys2Proof/Laws/State.lean ====
section
/-! SUPPORT. What each update of State does to each field. -/

namespace Sys2Proof.Machine

@[simp] theorem State.modDev_dev (s : State) (f : DevState → DevState) : (s.modDev f).dev = f s.dev := rfl
@[simp] theorem State.modDev_time (s : State) (f : DevState → DevState) : (s.modDev f).time = s.time := rfl
@[simp] theorem State.modDev_fuses (s : State) (f : DevState → DevState) : (s.modDev f).fuses = s.fuses := rfl
@[simp] theorem State.modDev_spawn (s : State) (f : DevState → DevState) : (s.modDev f).spawn = s.spawn := rfl
@[simp] theorem State.modDev_ten (s : State) (f : DevState → DevState) : (s.modDev f).ten = s.ten := rfl
@[simp] theorem State.modDev_deny (s : State) (f : DevState → DevState) : (s.modDev f).deny = s.deny := rfl
@[simp] theorem State.modDev_host (s : State) (f : DevState → DevState) : (s.modDev f).host = s.host := rfl
@[simp] theorem State.modDev_wells (s : State) (f : DevState → DevState) : (s.modDev f).wells = s.wells := rfl
@[simp] theorem State.modDev_qports (s : State) (f : DevState → DevState) : (s.modDev f).qports = s.qports := rfl
@[simp] theorem State.modDev_ops (s : State) (f : DevState → DevState) : (s.modDev f).ops = s.ops := rfl
@[simp] theorem State.modDev_front (s : State) (f : DevState → DevState) : (s.modDev f).front = s.front := rfl
@[simp] theorem State.modDev_pools (s : State) (f : DevState → DevState) : (s.modDev f).pools = s.pools := rfl
@[simp] theorem State.modDev_gills (s : State) (f : DevState → DevState) : (s.modDev f).gills = s.gills := rfl
@[simp] theorem State.modDev_myc (s : State) (f : DevState → DevState) : (s.modDev f).myc = s.myc := rfl
@[simp] theorem State.modDev_engines (s : State) (f : DevState → DevState) : (s.modDev f).engines = s.engines := rfl
@[simp] theorem State.modDev_mem (s : State) (f : DevState → DevState) : (s.modDev f).mem = s.mem := rfl
@[simp] theorem State.modDev_aq (s : State) (f : DevState → DevState) : (s.modDev f).aq = s.aq := rfl
@[simp] theorem State.modDev_pumps (s : State) (f : DevState → DevState) : (s.modDev f).pumps = s.pumps := rfl
@[simp] theorem State.modDev_filter (s : State) (f : DevState → DevState) : (s.modDev f).filter = s.filter := rfl
@[simp] theorem State.modDev_spout (s : State) (f : DevState → DevState) : (s.modDev f).spout = s.spout := rfl
@[simp] theorem State.modDev_sap (s : State) (f : DevState → DevState) : (s.modDev f).sap = s.sap := rfl
@[simp] theorem State.modDev_net (s : State) (f : DevState → DevState) : (s.modDev f).net = s.net := rfl
@[simp] theorem State.modDev_usb (s : State) (f : DevState → DevState) : (s.modDev f).usb = s.usb := rfl
@[simp] theorem State.modDev_timers (s : State) (f : DevState → DevState) : (s.modDev f).timers = s.timers := rfl
@[simp] theorem State.modDev_keybed (s : State) (f : DevState → DevState) : (s.modDev f).keybed = s.keybed := rfl
@[simp] theorem State.modDev_uarts (s : State) (f : DevState → DevState) : (s.modDev f).uarts = s.uarts := rfl
@[simp] theorem State.modDev_i2c (s : State) (f : DevState → DevState) : (s.modDev f).i2c = s.i2c := rfl
@[simp] theorem State.modDev_flash (s : State) (f : DevState → DevState) : (s.modDev f).flash = s.flash := rfl
@[simp] theorem State.modDev_windlass (s : State) (f : DevState → DevState) : (s.modDev f).windlass = s.windlass := rfl
@[simp] theorem State.modDev_supply (s : State) (f : DevState → DevState) : (s.modDev f).supply = s.supply := rfl
@[simp] theorem State.modDev_pair (s : State) (f : DevState → DevState) : (s.modDev f).pair = s.pair := rfl
@[simp] theorem State.modDev_evs (s : State) (f : DevState → DevState) : (s.modDev f).evs = s.evs := rfl
@[simp] theorem State.modDev_obs (s : State) (f : DevState → DevState) : (s.modDev f).obs = s.obs := rfl
@[simp] theorem State.modDev_outs (s : State) (f : DevState → DevState) : (s.modDev f).outs = s.outs := rfl
@[simp] theorem State.modDev_free (s : State) (f : DevState → DevState) : (s.modDev f).free = s.free := rfl
@[simp] theorem State.modDev_pending (s : State) (f : DevState → DevState) : (s.modDev f).pending = s.pending := rfl
@[simp] theorem State.modTime_dev (s : State) (f : TimeState → TimeState) : (s.modTime f).dev = s.dev := rfl
@[simp] theorem State.modTime_time (s : State) (f : TimeState → TimeState) : (s.modTime f).time = f s.time := rfl
@[simp] theorem State.modTime_fuses (s : State) (f : TimeState → TimeState) : (s.modTime f).fuses = s.fuses := rfl
@[simp] theorem State.modTime_spawn (s : State) (f : TimeState → TimeState) : (s.modTime f).spawn = s.spawn := rfl
@[simp] theorem State.modTime_ten (s : State) (f : TimeState → TimeState) : (s.modTime f).ten = s.ten := rfl
@[simp] theorem State.modTime_deny (s : State) (f : TimeState → TimeState) : (s.modTime f).deny = s.deny := rfl
@[simp] theorem State.modTime_host (s : State) (f : TimeState → TimeState) : (s.modTime f).host = s.host := rfl
@[simp] theorem State.modTime_wells (s : State) (f : TimeState → TimeState) : (s.modTime f).wells = s.wells := rfl
@[simp] theorem State.modTime_qports (s : State) (f : TimeState → TimeState) : (s.modTime f).qports = s.qports := rfl
@[simp] theorem State.modTime_ops (s : State) (f : TimeState → TimeState) : (s.modTime f).ops = s.ops := rfl
@[simp] theorem State.modTime_front (s : State) (f : TimeState → TimeState) : (s.modTime f).front = s.front := rfl
@[simp] theorem State.modTime_pools (s : State) (f : TimeState → TimeState) : (s.modTime f).pools = s.pools := rfl
@[simp] theorem State.modTime_gills (s : State) (f : TimeState → TimeState) : (s.modTime f).gills = s.gills := rfl
@[simp] theorem State.modTime_myc (s : State) (f : TimeState → TimeState) : (s.modTime f).myc = s.myc := rfl
@[simp] theorem State.modTime_engines (s : State) (f : TimeState → TimeState) : (s.modTime f).engines = s.engines := rfl
@[simp] theorem State.modTime_mem (s : State) (f : TimeState → TimeState) : (s.modTime f).mem = s.mem := rfl
@[simp] theorem State.modTime_aq (s : State) (f : TimeState → TimeState) : (s.modTime f).aq = s.aq := rfl
@[simp] theorem State.modTime_pumps (s : State) (f : TimeState → TimeState) : (s.modTime f).pumps = s.pumps := rfl
@[simp] theorem State.modTime_filter (s : State) (f : TimeState → TimeState) : (s.modTime f).filter = s.filter := rfl
@[simp] theorem State.modTime_spout (s : State) (f : TimeState → TimeState) : (s.modTime f).spout = s.spout := rfl
@[simp] theorem State.modTime_sap (s : State) (f : TimeState → TimeState) : (s.modTime f).sap = s.sap := rfl
@[simp] theorem State.modTime_net (s : State) (f : TimeState → TimeState) : (s.modTime f).net = s.net := rfl
@[simp] theorem State.modTime_usb (s : State) (f : TimeState → TimeState) : (s.modTime f).usb = s.usb := rfl
@[simp] theorem State.modTime_timers (s : State) (f : TimeState → TimeState) : (s.modTime f).timers = s.timers := rfl
@[simp] theorem State.modTime_keybed (s : State) (f : TimeState → TimeState) : (s.modTime f).keybed = s.keybed := rfl
@[simp] theorem State.modTime_uarts (s : State) (f : TimeState → TimeState) : (s.modTime f).uarts = s.uarts := rfl
@[simp] theorem State.modTime_i2c (s : State) (f : TimeState → TimeState) : (s.modTime f).i2c = s.i2c := rfl
@[simp] theorem State.modTime_flash (s : State) (f : TimeState → TimeState) : (s.modTime f).flash = s.flash := rfl
@[simp] theorem State.modTime_windlass (s : State) (f : TimeState → TimeState) : (s.modTime f).windlass = s.windlass := rfl
@[simp] theorem State.modTime_supply (s : State) (f : TimeState → TimeState) : (s.modTime f).supply = s.supply := rfl
@[simp] theorem State.modTime_pair (s : State) (f : TimeState → TimeState) : (s.modTime f).pair = s.pair := rfl
@[simp] theorem State.modTime_evs (s : State) (f : TimeState → TimeState) : (s.modTime f).evs = s.evs := rfl
@[simp] theorem State.modTime_obs (s : State) (f : TimeState → TimeState) : (s.modTime f).obs = s.obs := rfl
@[simp] theorem State.modTime_outs (s : State) (f : TimeState → TimeState) : (s.modTime f).outs = s.outs := rfl
@[simp] theorem State.modTime_free (s : State) (f : TimeState → TimeState) : (s.modTime f).free = s.free := rfl
@[simp] theorem State.modTime_pending (s : State) (f : TimeState → TimeState) : (s.modTime f).pending = s.pending := rfl
@[simp] theorem State.modFuses_dev (s : State) (f : FuseState → FuseState) : (s.modFuses f).dev = s.dev := rfl
@[simp] theorem State.modFuses_time (s : State) (f : FuseState → FuseState) : (s.modFuses f).time = s.time := rfl
@[simp] theorem State.modFuses_fuses (s : State) (f : FuseState → FuseState) : (s.modFuses f).fuses = f s.fuses := rfl
@[simp] theorem State.modFuses_spawn (s : State) (f : FuseState → FuseState) : (s.modFuses f).spawn = s.spawn := rfl
@[simp] theorem State.modFuses_ten (s : State) (f : FuseState → FuseState) : (s.modFuses f).ten = s.ten := rfl
@[simp] theorem State.modFuses_deny (s : State) (f : FuseState → FuseState) : (s.modFuses f).deny = s.deny := rfl
@[simp] theorem State.modFuses_host (s : State) (f : FuseState → FuseState) : (s.modFuses f).host = s.host := rfl
@[simp] theorem State.modFuses_wells (s : State) (f : FuseState → FuseState) : (s.modFuses f).wells = s.wells := rfl
@[simp] theorem State.modFuses_qports (s : State) (f : FuseState → FuseState) : (s.modFuses f).qports = s.qports := rfl
@[simp] theorem State.modFuses_ops (s : State) (f : FuseState → FuseState) : (s.modFuses f).ops = s.ops := rfl
@[simp] theorem State.modFuses_front (s : State) (f : FuseState → FuseState) : (s.modFuses f).front = s.front := rfl
@[simp] theorem State.modFuses_pools (s : State) (f : FuseState → FuseState) : (s.modFuses f).pools = s.pools := rfl
@[simp] theorem State.modFuses_gills (s : State) (f : FuseState → FuseState) : (s.modFuses f).gills = s.gills := rfl
@[simp] theorem State.modFuses_myc (s : State) (f : FuseState → FuseState) : (s.modFuses f).myc = s.myc := rfl
@[simp] theorem State.modFuses_engines (s : State) (f : FuseState → FuseState) : (s.modFuses f).engines = s.engines := rfl
@[simp] theorem State.modFuses_mem (s : State) (f : FuseState → FuseState) : (s.modFuses f).mem = s.mem := rfl
@[simp] theorem State.modFuses_aq (s : State) (f : FuseState → FuseState) : (s.modFuses f).aq = s.aq := rfl
@[simp] theorem State.modFuses_pumps (s : State) (f : FuseState → FuseState) : (s.modFuses f).pumps = s.pumps := rfl
@[simp] theorem State.modFuses_filter (s : State) (f : FuseState → FuseState) : (s.modFuses f).filter = s.filter := rfl
@[simp] theorem State.modFuses_spout (s : State) (f : FuseState → FuseState) : (s.modFuses f).spout = s.spout := rfl
@[simp] theorem State.modFuses_sap (s : State) (f : FuseState → FuseState) : (s.modFuses f).sap = s.sap := rfl
@[simp] theorem State.modFuses_net (s : State) (f : FuseState → FuseState) : (s.modFuses f).net = s.net := rfl
@[simp] theorem State.modFuses_usb (s : State) (f : FuseState → FuseState) : (s.modFuses f).usb = s.usb := rfl
@[simp] theorem State.modFuses_timers (s : State) (f : FuseState → FuseState) : (s.modFuses f).timers = s.timers := rfl
@[simp] theorem State.modFuses_keybed (s : State) (f : FuseState → FuseState) : (s.modFuses f).keybed = s.keybed := rfl
@[simp] theorem State.modFuses_uarts (s : State) (f : FuseState → FuseState) : (s.modFuses f).uarts = s.uarts := rfl
@[simp] theorem State.modFuses_i2c (s : State) (f : FuseState → FuseState) : (s.modFuses f).i2c = s.i2c := rfl
@[simp] theorem State.modFuses_flash (s : State) (f : FuseState → FuseState) : (s.modFuses f).flash = s.flash := rfl
@[simp] theorem State.modFuses_windlass (s : State) (f : FuseState → FuseState) : (s.modFuses f).windlass = s.windlass := rfl
@[simp] theorem State.modFuses_supply (s : State) (f : FuseState → FuseState) : (s.modFuses f).supply = s.supply := rfl
@[simp] theorem State.modFuses_pair (s : State) (f : FuseState → FuseState) : (s.modFuses f).pair = s.pair := rfl
@[simp] theorem State.modFuses_evs (s : State) (f : FuseState → FuseState) : (s.modFuses f).evs = s.evs := rfl
@[simp] theorem State.modFuses_obs (s : State) (f : FuseState → FuseState) : (s.modFuses f).obs = s.obs := rfl
@[simp] theorem State.modFuses_outs (s : State) (f : FuseState → FuseState) : (s.modFuses f).outs = s.outs := rfl
@[simp] theorem State.modFuses_free (s : State) (f : FuseState → FuseState) : (s.modFuses f).free = s.free := rfl
@[simp] theorem State.modFuses_pending (s : State) (f : FuseState → FuseState) : (s.modFuses f).pending = s.pending := rfl
@[simp] theorem State.modSpawn_dev (s : State) (f : SpawnState → SpawnState) : (s.modSpawn f).dev = s.dev := rfl
@[simp] theorem State.modSpawn_time (s : State) (f : SpawnState → SpawnState) : (s.modSpawn f).time = s.time := rfl
@[simp] theorem State.modSpawn_fuses (s : State) (f : SpawnState → SpawnState) : (s.modSpawn f).fuses = s.fuses := rfl
@[simp] theorem State.modSpawn_spawn (s : State) (f : SpawnState → SpawnState) : (s.modSpawn f).spawn = f s.spawn := rfl
@[simp] theorem State.modSpawn_ten (s : State) (f : SpawnState → SpawnState) : (s.modSpawn f).ten = s.ten := rfl
@[simp] theorem State.modSpawn_deny (s : State) (f : SpawnState → SpawnState) : (s.modSpawn f).deny = s.deny := rfl
@[simp] theorem State.modSpawn_host (s : State) (f : SpawnState → SpawnState) : (s.modSpawn f).host = s.host := rfl
@[simp] theorem State.modSpawn_wells (s : State) (f : SpawnState → SpawnState) : (s.modSpawn f).wells = s.wells := rfl
@[simp] theorem State.modSpawn_qports (s : State) (f : SpawnState → SpawnState) : (s.modSpawn f).qports = s.qports := rfl
@[simp] theorem State.modSpawn_ops (s : State) (f : SpawnState → SpawnState) : (s.modSpawn f).ops = s.ops := rfl
@[simp] theorem State.modSpawn_front (s : State) (f : SpawnState → SpawnState) : (s.modSpawn f).front = s.front := rfl
@[simp] theorem State.modSpawn_pools (s : State) (f : SpawnState → SpawnState) : (s.modSpawn f).pools = s.pools := rfl
@[simp] theorem State.modSpawn_gills (s : State) (f : SpawnState → SpawnState) : (s.modSpawn f).gills = s.gills := rfl
@[simp] theorem State.modSpawn_myc (s : State) (f : SpawnState → SpawnState) : (s.modSpawn f).myc = s.myc := rfl
@[simp] theorem State.modSpawn_engines (s : State) (f : SpawnState → SpawnState) : (s.modSpawn f).engines = s.engines := rfl
@[simp] theorem State.modSpawn_mem (s : State) (f : SpawnState → SpawnState) : (s.modSpawn f).mem = s.mem := rfl
@[simp] theorem State.modSpawn_aq (s : State) (f : SpawnState → SpawnState) : (s.modSpawn f).aq = s.aq := rfl
@[simp] theorem State.modSpawn_pumps (s : State) (f : SpawnState → SpawnState) : (s.modSpawn f).pumps = s.pumps := rfl
@[simp] theorem State.modSpawn_filter (s : State) (f : SpawnState → SpawnState) : (s.modSpawn f).filter = s.filter := rfl
@[simp] theorem State.modSpawn_spout (s : State) (f : SpawnState → SpawnState) : (s.modSpawn f).spout = s.spout := rfl
@[simp] theorem State.modSpawn_sap (s : State) (f : SpawnState → SpawnState) : (s.modSpawn f).sap = s.sap := rfl
@[simp] theorem State.modSpawn_net (s : State) (f : SpawnState → SpawnState) : (s.modSpawn f).net = s.net := rfl
@[simp] theorem State.modSpawn_usb (s : State) (f : SpawnState → SpawnState) : (s.modSpawn f).usb = s.usb := rfl
@[simp] theorem State.modSpawn_timers (s : State) (f : SpawnState → SpawnState) : (s.modSpawn f).timers = s.timers := rfl
@[simp] theorem State.modSpawn_keybed (s : State) (f : SpawnState → SpawnState) : (s.modSpawn f).keybed = s.keybed := rfl
@[simp] theorem State.modSpawn_uarts (s : State) (f : SpawnState → SpawnState) : (s.modSpawn f).uarts = s.uarts := rfl
@[simp] theorem State.modSpawn_i2c (s : State) (f : SpawnState → SpawnState) : (s.modSpawn f).i2c = s.i2c := rfl
@[simp] theorem State.modSpawn_flash (s : State) (f : SpawnState → SpawnState) : (s.modSpawn f).flash = s.flash := rfl
@[simp] theorem State.modSpawn_windlass (s : State) (f : SpawnState → SpawnState) : (s.modSpawn f).windlass = s.windlass := rfl
@[simp] theorem State.modSpawn_supply (s : State) (f : SpawnState → SpawnState) : (s.modSpawn f).supply = s.supply := rfl
@[simp] theorem State.modSpawn_pair (s : State) (f : SpawnState → SpawnState) : (s.modSpawn f).pair = s.pair := rfl
@[simp] theorem State.modSpawn_evs (s : State) (f : SpawnState → SpawnState) : (s.modSpawn f).evs = s.evs := rfl
@[simp] theorem State.modSpawn_obs (s : State) (f : SpawnState → SpawnState) : (s.modSpawn f).obs = s.obs := rfl
@[simp] theorem State.modSpawn_outs (s : State) (f : SpawnState → SpawnState) : (s.modSpawn f).outs = s.outs := rfl
@[simp] theorem State.modSpawn_free (s : State) (f : SpawnState → SpawnState) : (s.modSpawn f).free = s.free := rfl
@[simp] theorem State.modSpawn_pending (s : State) (f : SpawnState → SpawnState) : (s.modSpawn f).pending = s.pending := rfl
@[simp] theorem State.modTen_dev (s : State) (f : Bank TenancyState 8 → Bank TenancyState 8) : (s.modTen f).dev = s.dev := rfl
@[simp] theorem State.modTen_time (s : State) (f : Bank TenancyState 8 → Bank TenancyState 8) : (s.modTen f).time = s.time := rfl
@[simp] theorem State.modTen_fuses (s : State) (f : Bank TenancyState 8 → Bank TenancyState 8) : (s.modTen f).fuses = s.fuses := rfl
@[simp] theorem State.modTen_spawn (s : State) (f : Bank TenancyState 8 → Bank TenancyState 8) : (s.modTen f).spawn = s.spawn := rfl
@[simp] theorem State.modTen_ten (s : State) (f : Bank TenancyState 8 → Bank TenancyState 8) : (s.modTen f).ten = f s.ten := rfl
@[simp] theorem State.modTen_deny (s : State) (f : Bank TenancyState 8 → Bank TenancyState 8) : (s.modTen f).deny = s.deny := rfl
@[simp] theorem State.modTen_host (s : State) (f : Bank TenancyState 8 → Bank TenancyState 8) : (s.modTen f).host = s.host := rfl
@[simp] theorem State.modTen_wells (s : State) (f : Bank TenancyState 8 → Bank TenancyState 8) : (s.modTen f).wells = s.wells := rfl
@[simp] theorem State.modTen_qports (s : State) (f : Bank TenancyState 8 → Bank TenancyState 8) : (s.modTen f).qports = s.qports := rfl
@[simp] theorem State.modTen_ops (s : State) (f : Bank TenancyState 8 → Bank TenancyState 8) : (s.modTen f).ops = s.ops := rfl
@[simp] theorem State.modTen_front (s : State) (f : Bank TenancyState 8 → Bank TenancyState 8) : (s.modTen f).front = s.front := rfl
@[simp] theorem State.modTen_pools (s : State) (f : Bank TenancyState 8 → Bank TenancyState 8) : (s.modTen f).pools = s.pools := rfl
@[simp] theorem State.modTen_gills (s : State) (f : Bank TenancyState 8 → Bank TenancyState 8) : (s.modTen f).gills = s.gills := rfl
@[simp] theorem State.modTen_myc (s : State) (f : Bank TenancyState 8 → Bank TenancyState 8) : (s.modTen f).myc = s.myc := rfl
@[simp] theorem State.modTen_engines (s : State) (f : Bank TenancyState 8 → Bank TenancyState 8) : (s.modTen f).engines = s.engines := rfl
@[simp] theorem State.modTen_mem (s : State) (f : Bank TenancyState 8 → Bank TenancyState 8) : (s.modTen f).mem = s.mem := rfl
@[simp] theorem State.modTen_aq (s : State) (f : Bank TenancyState 8 → Bank TenancyState 8) : (s.modTen f).aq = s.aq := rfl
@[simp] theorem State.modTen_pumps (s : State) (f : Bank TenancyState 8 → Bank TenancyState 8) : (s.modTen f).pumps = s.pumps := rfl
@[simp] theorem State.modTen_filter (s : State) (f : Bank TenancyState 8 → Bank TenancyState 8) : (s.modTen f).filter = s.filter := rfl
@[simp] theorem State.modTen_spout (s : State) (f : Bank TenancyState 8 → Bank TenancyState 8) : (s.modTen f).spout = s.spout := rfl
@[simp] theorem State.modTen_sap (s : State) (f : Bank TenancyState 8 → Bank TenancyState 8) : (s.modTen f).sap = s.sap := rfl
@[simp] theorem State.modTen_net (s : State) (f : Bank TenancyState 8 → Bank TenancyState 8) : (s.modTen f).net = s.net := rfl
@[simp] theorem State.modTen_usb (s : State) (f : Bank TenancyState 8 → Bank TenancyState 8) : (s.modTen f).usb = s.usb := rfl
@[simp] theorem State.modTen_timers (s : State) (f : Bank TenancyState 8 → Bank TenancyState 8) : (s.modTen f).timers = s.timers := rfl
@[simp] theorem State.modTen_keybed (s : State) (f : Bank TenancyState 8 → Bank TenancyState 8) : (s.modTen f).keybed = s.keybed := rfl
@[simp] theorem State.modTen_uarts (s : State) (f : Bank TenancyState 8 → Bank TenancyState 8) : (s.modTen f).uarts = s.uarts := rfl
@[simp] theorem State.modTen_i2c (s : State) (f : Bank TenancyState 8 → Bank TenancyState 8) : (s.modTen f).i2c = s.i2c := rfl
@[simp] theorem State.modTen_flash (s : State) (f : Bank TenancyState 8 → Bank TenancyState 8) : (s.modTen f).flash = s.flash := rfl
@[simp] theorem State.modTen_windlass (s : State) (f : Bank TenancyState 8 → Bank TenancyState 8) : (s.modTen f).windlass = s.windlass := rfl
@[simp] theorem State.modTen_supply (s : State) (f : Bank TenancyState 8 → Bank TenancyState 8) : (s.modTen f).supply = s.supply := rfl
@[simp] theorem State.modTen_pair (s : State) (f : Bank TenancyState 8 → Bank TenancyState 8) : (s.modTen f).pair = s.pair := rfl
@[simp] theorem State.modTen_evs (s : State) (f : Bank TenancyState 8 → Bank TenancyState 8) : (s.modTen f).evs = s.evs := rfl
@[simp] theorem State.modTen_obs (s : State) (f : Bank TenancyState 8 → Bank TenancyState 8) : (s.modTen f).obs = s.obs := rfl
@[simp] theorem State.modTen_outs (s : State) (f : Bank TenancyState 8 → Bank TenancyState 8) : (s.modTen f).outs = s.outs := rfl
@[simp] theorem State.modTen_free (s : State) (f : Bank TenancyState 8 → Bank TenancyState 8) : (s.modTen f).free = s.free := rfl
@[simp] theorem State.modTen_pending (s : State) (f : Bank TenancyState 8 → Bank TenancyState 8) : (s.modTen f).pending = s.pending := rfl
@[simp] theorem State.modDeny_dev (s : State) (f : DenyLog → DenyLog) : (s.modDeny f).dev = s.dev := rfl
@[simp] theorem State.modDeny_time (s : State) (f : DenyLog → DenyLog) : (s.modDeny f).time = s.time := rfl
@[simp] theorem State.modDeny_fuses (s : State) (f : DenyLog → DenyLog) : (s.modDeny f).fuses = s.fuses := rfl
@[simp] theorem State.modDeny_spawn (s : State) (f : DenyLog → DenyLog) : (s.modDeny f).spawn = s.spawn := rfl
@[simp] theorem State.modDeny_ten (s : State) (f : DenyLog → DenyLog) : (s.modDeny f).ten = s.ten := rfl
@[simp] theorem State.modDeny_deny (s : State) (f : DenyLog → DenyLog) : (s.modDeny f).deny = f s.deny := rfl
@[simp] theorem State.modDeny_host (s : State) (f : DenyLog → DenyLog) : (s.modDeny f).host = s.host := rfl
@[simp] theorem State.modDeny_wells (s : State) (f : DenyLog → DenyLog) : (s.modDeny f).wells = s.wells := rfl
@[simp] theorem State.modDeny_qports (s : State) (f : DenyLog → DenyLog) : (s.modDeny f).qports = s.qports := rfl
@[simp] theorem State.modDeny_ops (s : State) (f : DenyLog → DenyLog) : (s.modDeny f).ops = s.ops := rfl
@[simp] theorem State.modDeny_front (s : State) (f : DenyLog → DenyLog) : (s.modDeny f).front = s.front := rfl
@[simp] theorem State.modDeny_pools (s : State) (f : DenyLog → DenyLog) : (s.modDeny f).pools = s.pools := rfl
@[simp] theorem State.modDeny_gills (s : State) (f : DenyLog → DenyLog) : (s.modDeny f).gills = s.gills := rfl
@[simp] theorem State.modDeny_myc (s : State) (f : DenyLog → DenyLog) : (s.modDeny f).myc = s.myc := rfl
@[simp] theorem State.modDeny_engines (s : State) (f : DenyLog → DenyLog) : (s.modDeny f).engines = s.engines := rfl
@[simp] theorem State.modDeny_mem (s : State) (f : DenyLog → DenyLog) : (s.modDeny f).mem = s.mem := rfl
@[simp] theorem State.modDeny_aq (s : State) (f : DenyLog → DenyLog) : (s.modDeny f).aq = s.aq := rfl
@[simp] theorem State.modDeny_pumps (s : State) (f : DenyLog → DenyLog) : (s.modDeny f).pumps = s.pumps := rfl
@[simp] theorem State.modDeny_filter (s : State) (f : DenyLog → DenyLog) : (s.modDeny f).filter = s.filter := rfl
@[simp] theorem State.modDeny_spout (s : State) (f : DenyLog → DenyLog) : (s.modDeny f).spout = s.spout := rfl
@[simp] theorem State.modDeny_sap (s : State) (f : DenyLog → DenyLog) : (s.modDeny f).sap = s.sap := rfl
@[simp] theorem State.modDeny_net (s : State) (f : DenyLog → DenyLog) : (s.modDeny f).net = s.net := rfl
@[simp] theorem State.modDeny_usb (s : State) (f : DenyLog → DenyLog) : (s.modDeny f).usb = s.usb := rfl
@[simp] theorem State.modDeny_timers (s : State) (f : DenyLog → DenyLog) : (s.modDeny f).timers = s.timers := rfl
@[simp] theorem State.modDeny_keybed (s : State) (f : DenyLog → DenyLog) : (s.modDeny f).keybed = s.keybed := rfl
@[simp] theorem State.modDeny_uarts (s : State) (f : DenyLog → DenyLog) : (s.modDeny f).uarts = s.uarts := rfl
@[simp] theorem State.modDeny_i2c (s : State) (f : DenyLog → DenyLog) : (s.modDeny f).i2c = s.i2c := rfl
@[simp] theorem State.modDeny_flash (s : State) (f : DenyLog → DenyLog) : (s.modDeny f).flash = s.flash := rfl
@[simp] theorem State.modDeny_windlass (s : State) (f : DenyLog → DenyLog) : (s.modDeny f).windlass = s.windlass := rfl
@[simp] theorem State.modDeny_supply (s : State) (f : DenyLog → DenyLog) : (s.modDeny f).supply = s.supply := rfl
@[simp] theorem State.modDeny_pair (s : State) (f : DenyLog → DenyLog) : (s.modDeny f).pair = s.pair := rfl
@[simp] theorem State.modDeny_evs (s : State) (f : DenyLog → DenyLog) : (s.modDeny f).evs = s.evs := rfl
@[simp] theorem State.modDeny_obs (s : State) (f : DenyLog → DenyLog) : (s.modDeny f).obs = s.obs := rfl
@[simp] theorem State.modDeny_outs (s : State) (f : DenyLog → DenyLog) : (s.modDeny f).outs = s.outs := rfl
@[simp] theorem State.modDeny_free (s : State) (f : DenyLog → DenyLog) : (s.modDeny f).free = s.free := rfl
@[simp] theorem State.modDeny_pending (s : State) (f : DenyLog → DenyLog) : (s.modDeny f).pending = s.pending := rfl
@[simp] theorem State.modHost_dev (s : State) (f : HostState → HostState) : (s.modHost f).dev = s.dev := rfl
@[simp] theorem State.modHost_time (s : State) (f : HostState → HostState) : (s.modHost f).time = s.time := rfl
@[simp] theorem State.modHost_fuses (s : State) (f : HostState → HostState) : (s.modHost f).fuses = s.fuses := rfl
@[simp] theorem State.modHost_spawn (s : State) (f : HostState → HostState) : (s.modHost f).spawn = s.spawn := rfl
@[simp] theorem State.modHost_ten (s : State) (f : HostState → HostState) : (s.modHost f).ten = s.ten := rfl
@[simp] theorem State.modHost_deny (s : State) (f : HostState → HostState) : (s.modHost f).deny = s.deny := rfl
@[simp] theorem State.modHost_host (s : State) (f : HostState → HostState) : (s.modHost f).host = f s.host := rfl
@[simp] theorem State.modHost_wells (s : State) (f : HostState → HostState) : (s.modHost f).wells = s.wells := rfl
@[simp] theorem State.modHost_qports (s : State) (f : HostState → HostState) : (s.modHost f).qports = s.qports := rfl
@[simp] theorem State.modHost_ops (s : State) (f : HostState → HostState) : (s.modHost f).ops = s.ops := rfl
@[simp] theorem State.modHost_front (s : State) (f : HostState → HostState) : (s.modHost f).front = s.front := rfl
@[simp] theorem State.modHost_pools (s : State) (f : HostState → HostState) : (s.modHost f).pools = s.pools := rfl
@[simp] theorem State.modHost_gills (s : State) (f : HostState → HostState) : (s.modHost f).gills = s.gills := rfl
@[simp] theorem State.modHost_myc (s : State) (f : HostState → HostState) : (s.modHost f).myc = s.myc := rfl
@[simp] theorem State.modHost_engines (s : State) (f : HostState → HostState) : (s.modHost f).engines = s.engines := rfl
@[simp] theorem State.modHost_mem (s : State) (f : HostState → HostState) : (s.modHost f).mem = s.mem := rfl
@[simp] theorem State.modHost_aq (s : State) (f : HostState → HostState) : (s.modHost f).aq = s.aq := rfl
@[simp] theorem State.modHost_pumps (s : State) (f : HostState → HostState) : (s.modHost f).pumps = s.pumps := rfl
@[simp] theorem State.modHost_filter (s : State) (f : HostState → HostState) : (s.modHost f).filter = s.filter := rfl
@[simp] theorem State.modHost_spout (s : State) (f : HostState → HostState) : (s.modHost f).spout = s.spout := rfl
@[simp] theorem State.modHost_sap (s : State) (f : HostState → HostState) : (s.modHost f).sap = s.sap := rfl
@[simp] theorem State.modHost_net (s : State) (f : HostState → HostState) : (s.modHost f).net = s.net := rfl
@[simp] theorem State.modHost_usb (s : State) (f : HostState → HostState) : (s.modHost f).usb = s.usb := rfl
@[simp] theorem State.modHost_timers (s : State) (f : HostState → HostState) : (s.modHost f).timers = s.timers := rfl
@[simp] theorem State.modHost_keybed (s : State) (f : HostState → HostState) : (s.modHost f).keybed = s.keybed := rfl
@[simp] theorem State.modHost_uarts (s : State) (f : HostState → HostState) : (s.modHost f).uarts = s.uarts := rfl
@[simp] theorem State.modHost_i2c (s : State) (f : HostState → HostState) : (s.modHost f).i2c = s.i2c := rfl
@[simp] theorem State.modHost_flash (s : State) (f : HostState → HostState) : (s.modHost f).flash = s.flash := rfl
@[simp] theorem State.modHost_windlass (s : State) (f : HostState → HostState) : (s.modHost f).windlass = s.windlass := rfl
@[simp] theorem State.modHost_supply (s : State) (f : HostState → HostState) : (s.modHost f).supply = s.supply := rfl
@[simp] theorem State.modHost_pair (s : State) (f : HostState → HostState) : (s.modHost f).pair = s.pair := rfl
@[simp] theorem State.modHost_evs (s : State) (f : HostState → HostState) : (s.modHost f).evs = s.evs := rfl
@[simp] theorem State.modHost_obs (s : State) (f : HostState → HostState) : (s.modHost f).obs = s.obs := rfl
@[simp] theorem State.modHost_outs (s : State) (f : HostState → HostState) : (s.modHost f).outs = s.outs := rfl
@[simp] theorem State.modHost_free (s : State) (f : HostState → HostState) : (s.modHost f).free = s.free := rfl
@[simp] theorem State.modHost_pending (s : State) (f : HostState → HostState) : (s.modHost f).pending = s.pending := rfl
@[simp] theorem State.modWells_dev (s : State) (f : Bank Well 256 → Bank Well 256) : (s.modWells f).dev = s.dev := rfl
@[simp] theorem State.modWells_time (s : State) (f : Bank Well 256 → Bank Well 256) : (s.modWells f).time = s.time := rfl
@[simp] theorem State.modWells_fuses (s : State) (f : Bank Well 256 → Bank Well 256) : (s.modWells f).fuses = s.fuses := rfl
@[simp] theorem State.modWells_spawn (s : State) (f : Bank Well 256 → Bank Well 256) : (s.modWells f).spawn = s.spawn := rfl
@[simp] theorem State.modWells_ten (s : State) (f : Bank Well 256 → Bank Well 256) : (s.modWells f).ten = s.ten := rfl
@[simp] theorem State.modWells_deny (s : State) (f : Bank Well 256 → Bank Well 256) : (s.modWells f).deny = s.deny := rfl
@[simp] theorem State.modWells_host (s : State) (f : Bank Well 256 → Bank Well 256) : (s.modWells f).host = s.host := rfl
@[simp] theorem State.modWells_wells (s : State) (f : Bank Well 256 → Bank Well 256) : (s.modWells f).wells = f s.wells := rfl
@[simp] theorem State.modWells_qports (s : State) (f : Bank Well 256 → Bank Well 256) : (s.modWells f).qports = s.qports := rfl
@[simp] theorem State.modWells_ops (s : State) (f : Bank Well 256 → Bank Well 256) : (s.modWells f).ops = s.ops := rfl
@[simp] theorem State.modWells_front (s : State) (f : Bank Well 256 → Bank Well 256) : (s.modWells f).front = s.front := rfl
@[simp] theorem State.modWells_pools (s : State) (f : Bank Well 256 → Bank Well 256) : (s.modWells f).pools = s.pools := rfl
@[simp] theorem State.modWells_gills (s : State) (f : Bank Well 256 → Bank Well 256) : (s.modWells f).gills = s.gills := rfl
@[simp] theorem State.modWells_myc (s : State) (f : Bank Well 256 → Bank Well 256) : (s.modWells f).myc = s.myc := rfl
@[simp] theorem State.modWells_engines (s : State) (f : Bank Well 256 → Bank Well 256) : (s.modWells f).engines = s.engines := rfl
@[simp] theorem State.modWells_mem (s : State) (f : Bank Well 256 → Bank Well 256) : (s.modWells f).mem = s.mem := rfl
@[simp] theorem State.modWells_aq (s : State) (f : Bank Well 256 → Bank Well 256) : (s.modWells f).aq = s.aq := rfl
@[simp] theorem State.modWells_pumps (s : State) (f : Bank Well 256 → Bank Well 256) : (s.modWells f).pumps = s.pumps := rfl
@[simp] theorem State.modWells_filter (s : State) (f : Bank Well 256 → Bank Well 256) : (s.modWells f).filter = s.filter := rfl
@[simp] theorem State.modWells_spout (s : State) (f : Bank Well 256 → Bank Well 256) : (s.modWells f).spout = s.spout := rfl
@[simp] theorem State.modWells_sap (s : State) (f : Bank Well 256 → Bank Well 256) : (s.modWells f).sap = s.sap := rfl
@[simp] theorem State.modWells_net (s : State) (f : Bank Well 256 → Bank Well 256) : (s.modWells f).net = s.net := rfl
@[simp] theorem State.modWells_usb (s : State) (f : Bank Well 256 → Bank Well 256) : (s.modWells f).usb = s.usb := rfl
@[simp] theorem State.modWells_timers (s : State) (f : Bank Well 256 → Bank Well 256) : (s.modWells f).timers = s.timers := rfl
@[simp] theorem State.modWells_keybed (s : State) (f : Bank Well 256 → Bank Well 256) : (s.modWells f).keybed = s.keybed := rfl
@[simp] theorem State.modWells_uarts (s : State) (f : Bank Well 256 → Bank Well 256) : (s.modWells f).uarts = s.uarts := rfl
@[simp] theorem State.modWells_i2c (s : State) (f : Bank Well 256 → Bank Well 256) : (s.modWells f).i2c = s.i2c := rfl
@[simp] theorem State.modWells_flash (s : State) (f : Bank Well 256 → Bank Well 256) : (s.modWells f).flash = s.flash := rfl
@[simp] theorem State.modWells_windlass (s : State) (f : Bank Well 256 → Bank Well 256) : (s.modWells f).windlass = s.windlass := rfl
@[simp] theorem State.modWells_supply (s : State) (f : Bank Well 256 → Bank Well 256) : (s.modWells f).supply = s.supply := rfl
@[simp] theorem State.modWells_pair (s : State) (f : Bank Well 256 → Bank Well 256) : (s.modWells f).pair = s.pair := rfl
@[simp] theorem State.modWells_evs (s : State) (f : Bank Well 256 → Bank Well 256) : (s.modWells f).evs = s.evs := rfl
@[simp] theorem State.modWells_obs (s : State) (f : Bank Well 256 → Bank Well 256) : (s.modWells f).obs = s.obs := rfl
@[simp] theorem State.modWells_outs (s : State) (f : Bank Well 256 → Bank Well 256) : (s.modWells f).outs = s.outs := rfl
@[simp] theorem State.modWells_free (s : State) (f : Bank Well 256 → Bank Well 256) : (s.modWells f).free = s.free := rfl
@[simp] theorem State.modWells_pending (s : State) (f : Bank Well 256 → Bank Well 256) : (s.modWells f).pending = s.pending := rfl
@[simp] theorem State.modQports_dev (s : State) (f : Bank QPort 8 → Bank QPort 8) : (s.modQports f).dev = s.dev := rfl
@[simp] theorem State.modQports_time (s : State) (f : Bank QPort 8 → Bank QPort 8) : (s.modQports f).time = s.time := rfl
@[simp] theorem State.modQports_fuses (s : State) (f : Bank QPort 8 → Bank QPort 8) : (s.modQports f).fuses = s.fuses := rfl
@[simp] theorem State.modQports_spawn (s : State) (f : Bank QPort 8 → Bank QPort 8) : (s.modQports f).spawn = s.spawn := rfl
@[simp] theorem State.modQports_ten (s : State) (f : Bank QPort 8 → Bank QPort 8) : (s.modQports f).ten = s.ten := rfl
@[simp] theorem State.modQports_deny (s : State) (f : Bank QPort 8 → Bank QPort 8) : (s.modQports f).deny = s.deny := rfl
@[simp] theorem State.modQports_host (s : State) (f : Bank QPort 8 → Bank QPort 8) : (s.modQports f).host = s.host := rfl
@[simp] theorem State.modQports_wells (s : State) (f : Bank QPort 8 → Bank QPort 8) : (s.modQports f).wells = s.wells := rfl
@[simp] theorem State.modQports_qports (s : State) (f : Bank QPort 8 → Bank QPort 8) : (s.modQports f).qports = f s.qports := rfl
@[simp] theorem State.modQports_ops (s : State) (f : Bank QPort 8 → Bank QPort 8) : (s.modQports f).ops = s.ops := rfl
@[simp] theorem State.modQports_front (s : State) (f : Bank QPort 8 → Bank QPort 8) : (s.modQports f).front = s.front := rfl
@[simp] theorem State.modQports_pools (s : State) (f : Bank QPort 8 → Bank QPort 8) : (s.modQports f).pools = s.pools := rfl
@[simp] theorem State.modQports_gills (s : State) (f : Bank QPort 8 → Bank QPort 8) : (s.modQports f).gills = s.gills := rfl
@[simp] theorem State.modQports_myc (s : State) (f : Bank QPort 8 → Bank QPort 8) : (s.modQports f).myc = s.myc := rfl
@[simp] theorem State.modQports_engines (s : State) (f : Bank QPort 8 → Bank QPort 8) : (s.modQports f).engines = s.engines := rfl
@[simp] theorem State.modQports_mem (s : State) (f : Bank QPort 8 → Bank QPort 8) : (s.modQports f).mem = s.mem := rfl
@[simp] theorem State.modQports_aq (s : State) (f : Bank QPort 8 → Bank QPort 8) : (s.modQports f).aq = s.aq := rfl
@[simp] theorem State.modQports_pumps (s : State) (f : Bank QPort 8 → Bank QPort 8) : (s.modQports f).pumps = s.pumps := rfl
@[simp] theorem State.modQports_filter (s : State) (f : Bank QPort 8 → Bank QPort 8) : (s.modQports f).filter = s.filter := rfl
@[simp] theorem State.modQports_spout (s : State) (f : Bank QPort 8 → Bank QPort 8) : (s.modQports f).spout = s.spout := rfl
@[simp] theorem State.modQports_sap (s : State) (f : Bank QPort 8 → Bank QPort 8) : (s.modQports f).sap = s.sap := rfl
@[simp] theorem State.modQports_net (s : State) (f : Bank QPort 8 → Bank QPort 8) : (s.modQports f).net = s.net := rfl
@[simp] theorem State.modQports_usb (s : State) (f : Bank QPort 8 → Bank QPort 8) : (s.modQports f).usb = s.usb := rfl
@[simp] theorem State.modQports_timers (s : State) (f : Bank QPort 8 → Bank QPort 8) : (s.modQports f).timers = s.timers := rfl
@[simp] theorem State.modQports_keybed (s : State) (f : Bank QPort 8 → Bank QPort 8) : (s.modQports f).keybed = s.keybed := rfl
@[simp] theorem State.modQports_uarts (s : State) (f : Bank QPort 8 → Bank QPort 8) : (s.modQports f).uarts = s.uarts := rfl
@[simp] theorem State.modQports_i2c (s : State) (f : Bank QPort 8 → Bank QPort 8) : (s.modQports f).i2c = s.i2c := rfl
@[simp] theorem State.modQports_flash (s : State) (f : Bank QPort 8 → Bank QPort 8) : (s.modQports f).flash = s.flash := rfl
@[simp] theorem State.modQports_windlass (s : State) (f : Bank QPort 8 → Bank QPort 8) : (s.modQports f).windlass = s.windlass := rfl
@[simp] theorem State.modQports_supply (s : State) (f : Bank QPort 8 → Bank QPort 8) : (s.modQports f).supply = s.supply := rfl
@[simp] theorem State.modQports_pair (s : State) (f : Bank QPort 8 → Bank QPort 8) : (s.modQports f).pair = s.pair := rfl
@[simp] theorem State.modQports_evs (s : State) (f : Bank QPort 8 → Bank QPort 8) : (s.modQports f).evs = s.evs := rfl
@[simp] theorem State.modQports_obs (s : State) (f : Bank QPort 8 → Bank QPort 8) : (s.modQports f).obs = s.obs := rfl
@[simp] theorem State.modQports_outs (s : State) (f : Bank QPort 8 → Bank QPort 8) : (s.modQports f).outs = s.outs := rfl
@[simp] theorem State.modQports_free (s : State) (f : Bank QPort 8 → Bank QPort 8) : (s.modQports f).free = s.free := rfl
@[simp] theorem State.modQports_pending (s : State) (f : Bank QPort 8 → Bank QPort 8) : (s.modQports f).pending = s.pending := rfl
@[simp] theorem State.modOps_dev (s : State) (f : List LongOp → List LongOp) : (s.modOps f).dev = s.dev := rfl
@[simp] theorem State.modOps_time (s : State) (f : List LongOp → List LongOp) : (s.modOps f).time = s.time := rfl
@[simp] theorem State.modOps_fuses (s : State) (f : List LongOp → List LongOp) : (s.modOps f).fuses = s.fuses := rfl
@[simp] theorem State.modOps_spawn (s : State) (f : List LongOp → List LongOp) : (s.modOps f).spawn = s.spawn := rfl
@[simp] theorem State.modOps_ten (s : State) (f : List LongOp → List LongOp) : (s.modOps f).ten = s.ten := rfl
@[simp] theorem State.modOps_deny (s : State) (f : List LongOp → List LongOp) : (s.modOps f).deny = s.deny := rfl
@[simp] theorem State.modOps_host (s : State) (f : List LongOp → List LongOp) : (s.modOps f).host = s.host := rfl
@[simp] theorem State.modOps_wells (s : State) (f : List LongOp → List LongOp) : (s.modOps f).wells = s.wells := rfl
@[simp] theorem State.modOps_qports (s : State) (f : List LongOp → List LongOp) : (s.modOps f).qports = s.qports := rfl
@[simp] theorem State.modOps_ops (s : State) (f : List LongOp → List LongOp) : (s.modOps f).ops = f s.ops := rfl
@[simp] theorem State.modOps_front (s : State) (f : List LongOp → List LongOp) : (s.modOps f).front = s.front := rfl
@[simp] theorem State.modOps_pools (s : State) (f : List LongOp → List LongOp) : (s.modOps f).pools = s.pools := rfl
@[simp] theorem State.modOps_gills (s : State) (f : List LongOp → List LongOp) : (s.modOps f).gills = s.gills := rfl
@[simp] theorem State.modOps_myc (s : State) (f : List LongOp → List LongOp) : (s.modOps f).myc = s.myc := rfl
@[simp] theorem State.modOps_engines (s : State) (f : List LongOp → List LongOp) : (s.modOps f).engines = s.engines := rfl
@[simp] theorem State.modOps_mem (s : State) (f : List LongOp → List LongOp) : (s.modOps f).mem = s.mem := rfl
@[simp] theorem State.modOps_aq (s : State) (f : List LongOp → List LongOp) : (s.modOps f).aq = s.aq := rfl
@[simp] theorem State.modOps_pumps (s : State) (f : List LongOp → List LongOp) : (s.modOps f).pumps = s.pumps := rfl
@[simp] theorem State.modOps_filter (s : State) (f : List LongOp → List LongOp) : (s.modOps f).filter = s.filter := rfl
@[simp] theorem State.modOps_spout (s : State) (f : List LongOp → List LongOp) : (s.modOps f).spout = s.spout := rfl
@[simp] theorem State.modOps_sap (s : State) (f : List LongOp → List LongOp) : (s.modOps f).sap = s.sap := rfl
@[simp] theorem State.modOps_net (s : State) (f : List LongOp → List LongOp) : (s.modOps f).net = s.net := rfl
@[simp] theorem State.modOps_usb (s : State) (f : List LongOp → List LongOp) : (s.modOps f).usb = s.usb := rfl
@[simp] theorem State.modOps_timers (s : State) (f : List LongOp → List LongOp) : (s.modOps f).timers = s.timers := rfl
@[simp] theorem State.modOps_keybed (s : State) (f : List LongOp → List LongOp) : (s.modOps f).keybed = s.keybed := rfl
@[simp] theorem State.modOps_uarts (s : State) (f : List LongOp → List LongOp) : (s.modOps f).uarts = s.uarts := rfl
@[simp] theorem State.modOps_i2c (s : State) (f : List LongOp → List LongOp) : (s.modOps f).i2c = s.i2c := rfl
@[simp] theorem State.modOps_flash (s : State) (f : List LongOp → List LongOp) : (s.modOps f).flash = s.flash := rfl
@[simp] theorem State.modOps_windlass (s : State) (f : List LongOp → List LongOp) : (s.modOps f).windlass = s.windlass := rfl
@[simp] theorem State.modOps_supply (s : State) (f : List LongOp → List LongOp) : (s.modOps f).supply = s.supply := rfl
@[simp] theorem State.modOps_pair (s : State) (f : List LongOp → List LongOp) : (s.modOps f).pair = s.pair := rfl
@[simp] theorem State.modOps_evs (s : State) (f : List LongOp → List LongOp) : (s.modOps f).evs = s.evs := rfl
@[simp] theorem State.modOps_obs (s : State) (f : List LongOp → List LongOp) : (s.modOps f).obs = s.obs := rfl
@[simp] theorem State.modOps_outs (s : State) (f : List LongOp → List LongOp) : (s.modOps f).outs = s.outs := rfl
@[simp] theorem State.modOps_free (s : State) (f : List LongOp → List LongOp) : (s.modOps f).free = s.free := rfl
@[simp] theorem State.modOps_pending (s : State) (f : List LongOp → List LongOp) : (s.modOps f).pending = s.pending := rfl
@[simp] theorem State.modFront_dev (s : State) (f : FrontState → FrontState) : (s.modFront f).dev = s.dev := rfl
@[simp] theorem State.modFront_time (s : State) (f : FrontState → FrontState) : (s.modFront f).time = s.time := rfl
@[simp] theorem State.modFront_fuses (s : State) (f : FrontState → FrontState) : (s.modFront f).fuses = s.fuses := rfl
@[simp] theorem State.modFront_spawn (s : State) (f : FrontState → FrontState) : (s.modFront f).spawn = s.spawn := rfl
@[simp] theorem State.modFront_ten (s : State) (f : FrontState → FrontState) : (s.modFront f).ten = s.ten := rfl
@[simp] theorem State.modFront_deny (s : State) (f : FrontState → FrontState) : (s.modFront f).deny = s.deny := rfl
@[simp] theorem State.modFront_host (s : State) (f : FrontState → FrontState) : (s.modFront f).host = s.host := rfl
@[simp] theorem State.modFront_wells (s : State) (f : FrontState → FrontState) : (s.modFront f).wells = s.wells := rfl
@[simp] theorem State.modFront_qports (s : State) (f : FrontState → FrontState) : (s.modFront f).qports = s.qports := rfl
@[simp] theorem State.modFront_ops (s : State) (f : FrontState → FrontState) : (s.modFront f).ops = s.ops := rfl
@[simp] theorem State.modFront_front (s : State) (f : FrontState → FrontState) : (s.modFront f).front = f s.front := rfl
@[simp] theorem State.modFront_pools (s : State) (f : FrontState → FrontState) : (s.modFront f).pools = s.pools := rfl
@[simp] theorem State.modFront_gills (s : State) (f : FrontState → FrontState) : (s.modFront f).gills = s.gills := rfl
@[simp] theorem State.modFront_myc (s : State) (f : FrontState → FrontState) : (s.modFront f).myc = s.myc := rfl
@[simp] theorem State.modFront_engines (s : State) (f : FrontState → FrontState) : (s.modFront f).engines = s.engines := rfl
@[simp] theorem State.modFront_mem (s : State) (f : FrontState → FrontState) : (s.modFront f).mem = s.mem := rfl
@[simp] theorem State.modFront_aq (s : State) (f : FrontState → FrontState) : (s.modFront f).aq = s.aq := rfl
@[simp] theorem State.modFront_pumps (s : State) (f : FrontState → FrontState) : (s.modFront f).pumps = s.pumps := rfl
@[simp] theorem State.modFront_filter (s : State) (f : FrontState → FrontState) : (s.modFront f).filter = s.filter := rfl
@[simp] theorem State.modFront_spout (s : State) (f : FrontState → FrontState) : (s.modFront f).spout = s.spout := rfl
@[simp] theorem State.modFront_sap (s : State) (f : FrontState → FrontState) : (s.modFront f).sap = s.sap := rfl
@[simp] theorem State.modFront_net (s : State) (f : FrontState → FrontState) : (s.modFront f).net = s.net := rfl
@[simp] theorem State.modFront_usb (s : State) (f : FrontState → FrontState) : (s.modFront f).usb = s.usb := rfl
@[simp] theorem State.modFront_timers (s : State) (f : FrontState → FrontState) : (s.modFront f).timers = s.timers := rfl
@[simp] theorem State.modFront_keybed (s : State) (f : FrontState → FrontState) : (s.modFront f).keybed = s.keybed := rfl
@[simp] theorem State.modFront_uarts (s : State) (f : FrontState → FrontState) : (s.modFront f).uarts = s.uarts := rfl
@[simp] theorem State.modFront_i2c (s : State) (f : FrontState → FrontState) : (s.modFront f).i2c = s.i2c := rfl
@[simp] theorem State.modFront_flash (s : State) (f : FrontState → FrontState) : (s.modFront f).flash = s.flash := rfl
@[simp] theorem State.modFront_windlass (s : State) (f : FrontState → FrontState) : (s.modFront f).windlass = s.windlass := rfl
@[simp] theorem State.modFront_supply (s : State) (f : FrontState → FrontState) : (s.modFront f).supply = s.supply := rfl
@[simp] theorem State.modFront_pair (s : State) (f : FrontState → FrontState) : (s.modFront f).pair = s.pair := rfl
@[simp] theorem State.modFront_evs (s : State) (f : FrontState → FrontState) : (s.modFront f).evs = s.evs := rfl
@[simp] theorem State.modFront_obs (s : State) (f : FrontState → FrontState) : (s.modFront f).obs = s.obs := rfl
@[simp] theorem State.modFront_outs (s : State) (f : FrontState → FrontState) : (s.modFront f).outs = s.outs := rfl
@[simp] theorem State.modFront_free (s : State) (f : FrontState → FrontState) : (s.modFront f).free = s.free := rfl
@[simp] theorem State.modFront_pending (s : State) (f : FrontState → FrontState) : (s.modFront f).pending = s.pending := rfl
@[simp] theorem State.modPools_dev (s : State) (f : Bank Pool 32 → Bank Pool 32) : (s.modPools f).dev = s.dev := rfl
@[simp] theorem State.modPools_time (s : State) (f : Bank Pool 32 → Bank Pool 32) : (s.modPools f).time = s.time := rfl
@[simp] theorem State.modPools_fuses (s : State) (f : Bank Pool 32 → Bank Pool 32) : (s.modPools f).fuses = s.fuses := rfl
@[simp] theorem State.modPools_spawn (s : State) (f : Bank Pool 32 → Bank Pool 32) : (s.modPools f).spawn = s.spawn := rfl
@[simp] theorem State.modPools_ten (s : State) (f : Bank Pool 32 → Bank Pool 32) : (s.modPools f).ten = s.ten := rfl
@[simp] theorem State.modPools_deny (s : State) (f : Bank Pool 32 → Bank Pool 32) : (s.modPools f).deny = s.deny := rfl
@[simp] theorem State.modPools_host (s : State) (f : Bank Pool 32 → Bank Pool 32) : (s.modPools f).host = s.host := rfl
@[simp] theorem State.modPools_wells (s : State) (f : Bank Pool 32 → Bank Pool 32) : (s.modPools f).wells = s.wells := rfl
@[simp] theorem State.modPools_qports (s : State) (f : Bank Pool 32 → Bank Pool 32) : (s.modPools f).qports = s.qports := rfl
@[simp] theorem State.modPools_ops (s : State) (f : Bank Pool 32 → Bank Pool 32) : (s.modPools f).ops = s.ops := rfl
@[simp] theorem State.modPools_front (s : State) (f : Bank Pool 32 → Bank Pool 32) : (s.modPools f).front = s.front := rfl
@[simp] theorem State.modPools_pools (s : State) (f : Bank Pool 32 → Bank Pool 32) : (s.modPools f).pools = f s.pools := rfl
@[simp] theorem State.modPools_gills (s : State) (f : Bank Pool 32 → Bank Pool 32) : (s.modPools f).gills = s.gills := rfl
@[simp] theorem State.modPools_myc (s : State) (f : Bank Pool 32 → Bank Pool 32) : (s.modPools f).myc = s.myc := rfl
@[simp] theorem State.modPools_engines (s : State) (f : Bank Pool 32 → Bank Pool 32) : (s.modPools f).engines = s.engines := rfl
@[simp] theorem State.modPools_mem (s : State) (f : Bank Pool 32 → Bank Pool 32) : (s.modPools f).mem = s.mem := rfl
@[simp] theorem State.modPools_aq (s : State) (f : Bank Pool 32 → Bank Pool 32) : (s.modPools f).aq = s.aq := rfl
@[simp] theorem State.modPools_pumps (s : State) (f : Bank Pool 32 → Bank Pool 32) : (s.modPools f).pumps = s.pumps := rfl
@[simp] theorem State.modPools_filter (s : State) (f : Bank Pool 32 → Bank Pool 32) : (s.modPools f).filter = s.filter := rfl
@[simp] theorem State.modPools_spout (s : State) (f : Bank Pool 32 → Bank Pool 32) : (s.modPools f).spout = s.spout := rfl
@[simp] theorem State.modPools_sap (s : State) (f : Bank Pool 32 → Bank Pool 32) : (s.modPools f).sap = s.sap := rfl
@[simp] theorem State.modPools_net (s : State) (f : Bank Pool 32 → Bank Pool 32) : (s.modPools f).net = s.net := rfl
@[simp] theorem State.modPools_usb (s : State) (f : Bank Pool 32 → Bank Pool 32) : (s.modPools f).usb = s.usb := rfl
@[simp] theorem State.modPools_timers (s : State) (f : Bank Pool 32 → Bank Pool 32) : (s.modPools f).timers = s.timers := rfl
@[simp] theorem State.modPools_keybed (s : State) (f : Bank Pool 32 → Bank Pool 32) : (s.modPools f).keybed = s.keybed := rfl
@[simp] theorem State.modPools_uarts (s : State) (f : Bank Pool 32 → Bank Pool 32) : (s.modPools f).uarts = s.uarts := rfl
@[simp] theorem State.modPools_i2c (s : State) (f : Bank Pool 32 → Bank Pool 32) : (s.modPools f).i2c = s.i2c := rfl
@[simp] theorem State.modPools_flash (s : State) (f : Bank Pool 32 → Bank Pool 32) : (s.modPools f).flash = s.flash := rfl
@[simp] theorem State.modPools_windlass (s : State) (f : Bank Pool 32 → Bank Pool 32) : (s.modPools f).windlass = s.windlass := rfl
@[simp] theorem State.modPools_supply (s : State) (f : Bank Pool 32 → Bank Pool 32) : (s.modPools f).supply = s.supply := rfl
@[simp] theorem State.modPools_pair (s : State) (f : Bank Pool 32 → Bank Pool 32) : (s.modPools f).pair = s.pair := rfl
@[simp] theorem State.modPools_evs (s : State) (f : Bank Pool 32 → Bank Pool 32) : (s.modPools f).evs = s.evs := rfl
@[simp] theorem State.modPools_obs (s : State) (f : Bank Pool 32 → Bank Pool 32) : (s.modPools f).obs = s.obs := rfl
@[simp] theorem State.modPools_outs (s : State) (f : Bank Pool 32 → Bank Pool 32) : (s.modPools f).outs = s.outs := rfl
@[simp] theorem State.modPools_free (s : State) (f : Bank Pool 32 → Bank Pool 32) : (s.modPools f).free = s.free := rfl
@[simp] theorem State.modPools_pending (s : State) (f : Bank Pool 32 → Bank Pool 32) : (s.modPools f).pending = s.pending := rfl
@[simp] theorem State.modGills_dev (s : State) (f : Bank Gill 48 → Bank Gill 48) : (s.modGills f).dev = s.dev := rfl
@[simp] theorem State.modGills_time (s : State) (f : Bank Gill 48 → Bank Gill 48) : (s.modGills f).time = s.time := rfl
@[simp] theorem State.modGills_fuses (s : State) (f : Bank Gill 48 → Bank Gill 48) : (s.modGills f).fuses = s.fuses := rfl
@[simp] theorem State.modGills_spawn (s : State) (f : Bank Gill 48 → Bank Gill 48) : (s.modGills f).spawn = s.spawn := rfl
@[simp] theorem State.modGills_ten (s : State) (f : Bank Gill 48 → Bank Gill 48) : (s.modGills f).ten = s.ten := rfl
@[simp] theorem State.modGills_deny (s : State) (f : Bank Gill 48 → Bank Gill 48) : (s.modGills f).deny = s.deny := rfl
@[simp] theorem State.modGills_host (s : State) (f : Bank Gill 48 → Bank Gill 48) : (s.modGills f).host = s.host := rfl
@[simp] theorem State.modGills_wells (s : State) (f : Bank Gill 48 → Bank Gill 48) : (s.modGills f).wells = s.wells := rfl
@[simp] theorem State.modGills_qports (s : State) (f : Bank Gill 48 → Bank Gill 48) : (s.modGills f).qports = s.qports := rfl
@[simp] theorem State.modGills_ops (s : State) (f : Bank Gill 48 → Bank Gill 48) : (s.modGills f).ops = s.ops := rfl
@[simp] theorem State.modGills_front (s : State) (f : Bank Gill 48 → Bank Gill 48) : (s.modGills f).front = s.front := rfl
@[simp] theorem State.modGills_pools (s : State) (f : Bank Gill 48 → Bank Gill 48) : (s.modGills f).pools = s.pools := rfl
@[simp] theorem State.modGills_gills (s : State) (f : Bank Gill 48 → Bank Gill 48) : (s.modGills f).gills = f s.gills := rfl
@[simp] theorem State.modGills_myc (s : State) (f : Bank Gill 48 → Bank Gill 48) : (s.modGills f).myc = s.myc := rfl
@[simp] theorem State.modGills_engines (s : State) (f : Bank Gill 48 → Bank Gill 48) : (s.modGills f).engines = s.engines := rfl
@[simp] theorem State.modGills_mem (s : State) (f : Bank Gill 48 → Bank Gill 48) : (s.modGills f).mem = s.mem := rfl
@[simp] theorem State.modGills_aq (s : State) (f : Bank Gill 48 → Bank Gill 48) : (s.modGills f).aq = s.aq := rfl
@[simp] theorem State.modGills_pumps (s : State) (f : Bank Gill 48 → Bank Gill 48) : (s.modGills f).pumps = s.pumps := rfl
@[simp] theorem State.modGills_filter (s : State) (f : Bank Gill 48 → Bank Gill 48) : (s.modGills f).filter = s.filter := rfl
@[simp] theorem State.modGills_spout (s : State) (f : Bank Gill 48 → Bank Gill 48) : (s.modGills f).spout = s.spout := rfl
@[simp] theorem State.modGills_sap (s : State) (f : Bank Gill 48 → Bank Gill 48) : (s.modGills f).sap = s.sap := rfl
@[simp] theorem State.modGills_net (s : State) (f : Bank Gill 48 → Bank Gill 48) : (s.modGills f).net = s.net := rfl
@[simp] theorem State.modGills_usb (s : State) (f : Bank Gill 48 → Bank Gill 48) : (s.modGills f).usb = s.usb := rfl
@[simp] theorem State.modGills_timers (s : State) (f : Bank Gill 48 → Bank Gill 48) : (s.modGills f).timers = s.timers := rfl
@[simp] theorem State.modGills_keybed (s : State) (f : Bank Gill 48 → Bank Gill 48) : (s.modGills f).keybed = s.keybed := rfl
@[simp] theorem State.modGills_uarts (s : State) (f : Bank Gill 48 → Bank Gill 48) : (s.modGills f).uarts = s.uarts := rfl
@[simp] theorem State.modGills_i2c (s : State) (f : Bank Gill 48 → Bank Gill 48) : (s.modGills f).i2c = s.i2c := rfl
@[simp] theorem State.modGills_flash (s : State) (f : Bank Gill 48 → Bank Gill 48) : (s.modGills f).flash = s.flash := rfl
@[simp] theorem State.modGills_windlass (s : State) (f : Bank Gill 48 → Bank Gill 48) : (s.modGills f).windlass = s.windlass := rfl
@[simp] theorem State.modGills_supply (s : State) (f : Bank Gill 48 → Bank Gill 48) : (s.modGills f).supply = s.supply := rfl
@[simp] theorem State.modGills_pair (s : State) (f : Bank Gill 48 → Bank Gill 48) : (s.modGills f).pair = s.pair := rfl
@[simp] theorem State.modGills_evs (s : State) (f : Bank Gill 48 → Bank Gill 48) : (s.modGills f).evs = s.evs := rfl
@[simp] theorem State.modGills_obs (s : State) (f : Bank Gill 48 → Bank Gill 48) : (s.modGills f).obs = s.obs := rfl
@[simp] theorem State.modGills_outs (s : State) (f : Bank Gill 48 → Bank Gill 48) : (s.modGills f).outs = s.outs := rfl
@[simp] theorem State.modGills_free (s : State) (f : Bank Gill 48 → Bank Gill 48) : (s.modGills f).free = s.free := rfl
@[simp] theorem State.modGills_pending (s : State) (f : Bank Gill 48 → Bank Gill 48) : (s.modGills f).pending = s.pending := rfl
@[simp] theorem State.modMyc_dev (s : State) (f : Bank MycTen 8 → Bank MycTen 8) : (s.modMyc f).dev = s.dev := rfl
@[simp] theorem State.modMyc_time (s : State) (f : Bank MycTen 8 → Bank MycTen 8) : (s.modMyc f).time = s.time := rfl
@[simp] theorem State.modMyc_fuses (s : State) (f : Bank MycTen 8 → Bank MycTen 8) : (s.modMyc f).fuses = s.fuses := rfl
@[simp] theorem State.modMyc_spawn (s : State) (f : Bank MycTen 8 → Bank MycTen 8) : (s.modMyc f).spawn = s.spawn := rfl
@[simp] theorem State.modMyc_ten (s : State) (f : Bank MycTen 8 → Bank MycTen 8) : (s.modMyc f).ten = s.ten := rfl
@[simp] theorem State.modMyc_deny (s : State) (f : Bank MycTen 8 → Bank MycTen 8) : (s.modMyc f).deny = s.deny := rfl
@[simp] theorem State.modMyc_host (s : State) (f : Bank MycTen 8 → Bank MycTen 8) : (s.modMyc f).host = s.host := rfl
@[simp] theorem State.modMyc_wells (s : State) (f : Bank MycTen 8 → Bank MycTen 8) : (s.modMyc f).wells = s.wells := rfl
@[simp] theorem State.modMyc_qports (s : State) (f : Bank MycTen 8 → Bank MycTen 8) : (s.modMyc f).qports = s.qports := rfl
@[simp] theorem State.modMyc_ops (s : State) (f : Bank MycTen 8 → Bank MycTen 8) : (s.modMyc f).ops = s.ops := rfl
@[simp] theorem State.modMyc_front (s : State) (f : Bank MycTen 8 → Bank MycTen 8) : (s.modMyc f).front = s.front := rfl
@[simp] theorem State.modMyc_pools (s : State) (f : Bank MycTen 8 → Bank MycTen 8) : (s.modMyc f).pools = s.pools := rfl
@[simp] theorem State.modMyc_gills (s : State) (f : Bank MycTen 8 → Bank MycTen 8) : (s.modMyc f).gills = s.gills := rfl
@[simp] theorem State.modMyc_myc (s : State) (f : Bank MycTen 8 → Bank MycTen 8) : (s.modMyc f).myc = f s.myc := rfl
@[simp] theorem State.modMyc_engines (s : State) (f : Bank MycTen 8 → Bank MycTen 8) : (s.modMyc f).engines = s.engines := rfl
@[simp] theorem State.modMyc_mem (s : State) (f : Bank MycTen 8 → Bank MycTen 8) : (s.modMyc f).mem = s.mem := rfl
@[simp] theorem State.modMyc_aq (s : State) (f : Bank MycTen 8 → Bank MycTen 8) : (s.modMyc f).aq = s.aq := rfl
@[simp] theorem State.modMyc_pumps (s : State) (f : Bank MycTen 8 → Bank MycTen 8) : (s.modMyc f).pumps = s.pumps := rfl
@[simp] theorem State.modMyc_filter (s : State) (f : Bank MycTen 8 → Bank MycTen 8) : (s.modMyc f).filter = s.filter := rfl
@[simp] theorem State.modMyc_spout (s : State) (f : Bank MycTen 8 → Bank MycTen 8) : (s.modMyc f).spout = s.spout := rfl
@[simp] theorem State.modMyc_sap (s : State) (f : Bank MycTen 8 → Bank MycTen 8) : (s.modMyc f).sap = s.sap := rfl
@[simp] theorem State.modMyc_net (s : State) (f : Bank MycTen 8 → Bank MycTen 8) : (s.modMyc f).net = s.net := rfl
@[simp] theorem State.modMyc_usb (s : State) (f : Bank MycTen 8 → Bank MycTen 8) : (s.modMyc f).usb = s.usb := rfl
@[simp] theorem State.modMyc_timers (s : State) (f : Bank MycTen 8 → Bank MycTen 8) : (s.modMyc f).timers = s.timers := rfl
@[simp] theorem State.modMyc_keybed (s : State) (f : Bank MycTen 8 → Bank MycTen 8) : (s.modMyc f).keybed = s.keybed := rfl
@[simp] theorem State.modMyc_uarts (s : State) (f : Bank MycTen 8 → Bank MycTen 8) : (s.modMyc f).uarts = s.uarts := rfl
@[simp] theorem State.modMyc_i2c (s : State) (f : Bank MycTen 8 → Bank MycTen 8) : (s.modMyc f).i2c = s.i2c := rfl
@[simp] theorem State.modMyc_flash (s : State) (f : Bank MycTen 8 → Bank MycTen 8) : (s.modMyc f).flash = s.flash := rfl
@[simp] theorem State.modMyc_windlass (s : State) (f : Bank MycTen 8 → Bank MycTen 8) : (s.modMyc f).windlass = s.windlass := rfl
@[simp] theorem State.modMyc_supply (s : State) (f : Bank MycTen 8 → Bank MycTen 8) : (s.modMyc f).supply = s.supply := rfl
@[simp] theorem State.modMyc_pair (s : State) (f : Bank MycTen 8 → Bank MycTen 8) : (s.modMyc f).pair = s.pair := rfl
@[simp] theorem State.modMyc_evs (s : State) (f : Bank MycTen 8 → Bank MycTen 8) : (s.modMyc f).evs = s.evs := rfl
@[simp] theorem State.modMyc_obs (s : State) (f : Bank MycTen 8 → Bank MycTen 8) : (s.modMyc f).obs = s.obs := rfl
@[simp] theorem State.modMyc_outs (s : State) (f : Bank MycTen 8 → Bank MycTen 8) : (s.modMyc f).outs = s.outs := rfl
@[simp] theorem State.modMyc_free (s : State) (f : Bank MycTen 8 → Bank MycTen 8) : (s.modMyc f).free = s.free := rfl
@[simp] theorem State.modMyc_pending (s : State) (f : Bank MycTen 8 → Bank MycTen 8) : (s.modMyc f).pending = s.pending := rfl
@[simp] theorem State.modEngines_dev (s : State) (f : Bank Engine 4 → Bank Engine 4) : (s.modEngines f).dev = s.dev := rfl
@[simp] theorem State.modEngines_time (s : State) (f : Bank Engine 4 → Bank Engine 4) : (s.modEngines f).time = s.time := rfl
@[simp] theorem State.modEngines_fuses (s : State) (f : Bank Engine 4 → Bank Engine 4) : (s.modEngines f).fuses = s.fuses := rfl
@[simp] theorem State.modEngines_spawn (s : State) (f : Bank Engine 4 → Bank Engine 4) : (s.modEngines f).spawn = s.spawn := rfl
@[simp] theorem State.modEngines_ten (s : State) (f : Bank Engine 4 → Bank Engine 4) : (s.modEngines f).ten = s.ten := rfl
@[simp] theorem State.modEngines_deny (s : State) (f : Bank Engine 4 → Bank Engine 4) : (s.modEngines f).deny = s.deny := rfl
@[simp] theorem State.modEngines_host (s : State) (f : Bank Engine 4 → Bank Engine 4) : (s.modEngines f).host = s.host := rfl
@[simp] theorem State.modEngines_wells (s : State) (f : Bank Engine 4 → Bank Engine 4) : (s.modEngines f).wells = s.wells := rfl
@[simp] theorem State.modEngines_qports (s : State) (f : Bank Engine 4 → Bank Engine 4) : (s.modEngines f).qports = s.qports := rfl
@[simp] theorem State.modEngines_ops (s : State) (f : Bank Engine 4 → Bank Engine 4) : (s.modEngines f).ops = s.ops := rfl
@[simp] theorem State.modEngines_front (s : State) (f : Bank Engine 4 → Bank Engine 4) : (s.modEngines f).front = s.front := rfl
@[simp] theorem State.modEngines_pools (s : State) (f : Bank Engine 4 → Bank Engine 4) : (s.modEngines f).pools = s.pools := rfl
@[simp] theorem State.modEngines_gills (s : State) (f : Bank Engine 4 → Bank Engine 4) : (s.modEngines f).gills = s.gills := rfl
@[simp] theorem State.modEngines_myc (s : State) (f : Bank Engine 4 → Bank Engine 4) : (s.modEngines f).myc = s.myc := rfl
@[simp] theorem State.modEngines_engines (s : State) (f : Bank Engine 4 → Bank Engine 4) : (s.modEngines f).engines = f s.engines := rfl
@[simp] theorem State.modEngines_mem (s : State) (f : Bank Engine 4 → Bank Engine 4) : (s.modEngines f).mem = s.mem := rfl
@[simp] theorem State.modEngines_aq (s : State) (f : Bank Engine 4 → Bank Engine 4) : (s.modEngines f).aq = s.aq := rfl
@[simp] theorem State.modEngines_pumps (s : State) (f : Bank Engine 4 → Bank Engine 4) : (s.modEngines f).pumps = s.pumps := rfl
@[simp] theorem State.modEngines_filter (s : State) (f : Bank Engine 4 → Bank Engine 4) : (s.modEngines f).filter = s.filter := rfl
@[simp] theorem State.modEngines_spout (s : State) (f : Bank Engine 4 → Bank Engine 4) : (s.modEngines f).spout = s.spout := rfl
@[simp] theorem State.modEngines_sap (s : State) (f : Bank Engine 4 → Bank Engine 4) : (s.modEngines f).sap = s.sap := rfl
@[simp] theorem State.modEngines_net (s : State) (f : Bank Engine 4 → Bank Engine 4) : (s.modEngines f).net = s.net := rfl
@[simp] theorem State.modEngines_usb (s : State) (f : Bank Engine 4 → Bank Engine 4) : (s.modEngines f).usb = s.usb := rfl
@[simp] theorem State.modEngines_timers (s : State) (f : Bank Engine 4 → Bank Engine 4) : (s.modEngines f).timers = s.timers := rfl
@[simp] theorem State.modEngines_keybed (s : State) (f : Bank Engine 4 → Bank Engine 4) : (s.modEngines f).keybed = s.keybed := rfl
@[simp] theorem State.modEngines_uarts (s : State) (f : Bank Engine 4 → Bank Engine 4) : (s.modEngines f).uarts = s.uarts := rfl
@[simp] theorem State.modEngines_i2c (s : State) (f : Bank Engine 4 → Bank Engine 4) : (s.modEngines f).i2c = s.i2c := rfl
@[simp] theorem State.modEngines_flash (s : State) (f : Bank Engine 4 → Bank Engine 4) : (s.modEngines f).flash = s.flash := rfl
@[simp] theorem State.modEngines_windlass (s : State) (f : Bank Engine 4 → Bank Engine 4) : (s.modEngines f).windlass = s.windlass := rfl
@[simp] theorem State.modEngines_supply (s : State) (f : Bank Engine 4 → Bank Engine 4) : (s.modEngines f).supply = s.supply := rfl
@[simp] theorem State.modEngines_pair (s : State) (f : Bank Engine 4 → Bank Engine 4) : (s.modEngines f).pair = s.pair := rfl
@[simp] theorem State.modEngines_evs (s : State) (f : Bank Engine 4 → Bank Engine 4) : (s.modEngines f).evs = s.evs := rfl
@[simp] theorem State.modEngines_obs (s : State) (f : Bank Engine 4 → Bank Engine 4) : (s.modEngines f).obs = s.obs := rfl
@[simp] theorem State.modEngines_outs (s : State) (f : Bank Engine 4 → Bank Engine 4) : (s.modEngines f).outs = s.outs := rfl
@[simp] theorem State.modEngines_free (s : State) (f : Bank Engine 4 → Bank Engine 4) : (s.modEngines f).free = s.free := rfl
@[simp] theorem State.modEngines_pending (s : State) (f : Bank Engine 4 → Bank Engine 4) : (s.modEngines f).pending = s.pending := rfl
@[simp] theorem State.modMem_dev (s : State) (f : MemState → MemState) : (s.modMem f).dev = s.dev := rfl
@[simp] theorem State.modMem_time (s : State) (f : MemState → MemState) : (s.modMem f).time = s.time := rfl
@[simp] theorem State.modMem_fuses (s : State) (f : MemState → MemState) : (s.modMem f).fuses = s.fuses := rfl
@[simp] theorem State.modMem_spawn (s : State) (f : MemState → MemState) : (s.modMem f).spawn = s.spawn := rfl
@[simp] theorem State.modMem_ten (s : State) (f : MemState → MemState) : (s.modMem f).ten = s.ten := rfl
@[simp] theorem State.modMem_deny (s : State) (f : MemState → MemState) : (s.modMem f).deny = s.deny := rfl
@[simp] theorem State.modMem_host (s : State) (f : MemState → MemState) : (s.modMem f).host = s.host := rfl
@[simp] theorem State.modMem_wells (s : State) (f : MemState → MemState) : (s.modMem f).wells = s.wells := rfl
@[simp] theorem State.modMem_qports (s : State) (f : MemState → MemState) : (s.modMem f).qports = s.qports := rfl
@[simp] theorem State.modMem_ops (s : State) (f : MemState → MemState) : (s.modMem f).ops = s.ops := rfl
@[simp] theorem State.modMem_front (s : State) (f : MemState → MemState) : (s.modMem f).front = s.front := rfl
@[simp] theorem State.modMem_pools (s : State) (f : MemState → MemState) : (s.modMem f).pools = s.pools := rfl
@[simp] theorem State.modMem_gills (s : State) (f : MemState → MemState) : (s.modMem f).gills = s.gills := rfl
@[simp] theorem State.modMem_myc (s : State) (f : MemState → MemState) : (s.modMem f).myc = s.myc := rfl
@[simp] theorem State.modMem_engines (s : State) (f : MemState → MemState) : (s.modMem f).engines = s.engines := rfl
@[simp] theorem State.modMem_mem (s : State) (f : MemState → MemState) : (s.modMem f).mem = f s.mem := rfl
@[simp] theorem State.modMem_aq (s : State) (f : MemState → MemState) : (s.modMem f).aq = s.aq := rfl
@[simp] theorem State.modMem_pumps (s : State) (f : MemState → MemState) : (s.modMem f).pumps = s.pumps := rfl
@[simp] theorem State.modMem_filter (s : State) (f : MemState → MemState) : (s.modMem f).filter = s.filter := rfl
@[simp] theorem State.modMem_spout (s : State) (f : MemState → MemState) : (s.modMem f).spout = s.spout := rfl
@[simp] theorem State.modMem_sap (s : State) (f : MemState → MemState) : (s.modMem f).sap = s.sap := rfl
@[simp] theorem State.modMem_net (s : State) (f : MemState → MemState) : (s.modMem f).net = s.net := rfl
@[simp] theorem State.modMem_usb (s : State) (f : MemState → MemState) : (s.modMem f).usb = s.usb := rfl
@[simp] theorem State.modMem_timers (s : State) (f : MemState → MemState) : (s.modMem f).timers = s.timers := rfl
@[simp] theorem State.modMem_keybed (s : State) (f : MemState → MemState) : (s.modMem f).keybed = s.keybed := rfl
@[simp] theorem State.modMem_uarts (s : State) (f : MemState → MemState) : (s.modMem f).uarts = s.uarts := rfl
@[simp] theorem State.modMem_i2c (s : State) (f : MemState → MemState) : (s.modMem f).i2c = s.i2c := rfl
@[simp] theorem State.modMem_flash (s : State) (f : MemState → MemState) : (s.modMem f).flash = s.flash := rfl
@[simp] theorem State.modMem_windlass (s : State) (f : MemState → MemState) : (s.modMem f).windlass = s.windlass := rfl
@[simp] theorem State.modMem_supply (s : State) (f : MemState → MemState) : (s.modMem f).supply = s.supply := rfl
@[simp] theorem State.modMem_pair (s : State) (f : MemState → MemState) : (s.modMem f).pair = s.pair := rfl
@[simp] theorem State.modMem_evs (s : State) (f : MemState → MemState) : (s.modMem f).evs = s.evs := rfl
@[simp] theorem State.modMem_obs (s : State) (f : MemState → MemState) : (s.modMem f).obs = s.obs := rfl
@[simp] theorem State.modMem_outs (s : State) (f : MemState → MemState) : (s.modMem f).outs = s.outs := rfl
@[simp] theorem State.modMem_free (s : State) (f : MemState → MemState) : (s.modMem f).free = s.free := rfl
@[simp] theorem State.modMem_pending (s : State) (f : MemState → MemState) : (s.modMem f).pending = s.pending := rfl
@[simp] theorem State.modAq_dev (s : State) (f : AqState → AqState) : (s.modAq f).dev = s.dev := rfl
@[simp] theorem State.modAq_time (s : State) (f : AqState → AqState) : (s.modAq f).time = s.time := rfl
@[simp] theorem State.modAq_fuses (s : State) (f : AqState → AqState) : (s.modAq f).fuses = s.fuses := rfl
@[simp] theorem State.modAq_spawn (s : State) (f : AqState → AqState) : (s.modAq f).spawn = s.spawn := rfl
@[simp] theorem State.modAq_ten (s : State) (f : AqState → AqState) : (s.modAq f).ten = s.ten := rfl
@[simp] theorem State.modAq_deny (s : State) (f : AqState → AqState) : (s.modAq f).deny = s.deny := rfl
@[simp] theorem State.modAq_host (s : State) (f : AqState → AqState) : (s.modAq f).host = s.host := rfl
@[simp] theorem State.modAq_wells (s : State) (f : AqState → AqState) : (s.modAq f).wells = s.wells := rfl
@[simp] theorem State.modAq_qports (s : State) (f : AqState → AqState) : (s.modAq f).qports = s.qports := rfl
@[simp] theorem State.modAq_ops (s : State) (f : AqState → AqState) : (s.modAq f).ops = s.ops := rfl
@[simp] theorem State.modAq_front (s : State) (f : AqState → AqState) : (s.modAq f).front = s.front := rfl
@[simp] theorem State.modAq_pools (s : State) (f : AqState → AqState) : (s.modAq f).pools = s.pools := rfl
@[simp] theorem State.modAq_gills (s : State) (f : AqState → AqState) : (s.modAq f).gills = s.gills := rfl
@[simp] theorem State.modAq_myc (s : State) (f : AqState → AqState) : (s.modAq f).myc = s.myc := rfl
@[simp] theorem State.modAq_engines (s : State) (f : AqState → AqState) : (s.modAq f).engines = s.engines := rfl
@[simp] theorem State.modAq_mem (s : State) (f : AqState → AqState) : (s.modAq f).mem = s.mem := rfl
@[simp] theorem State.modAq_aq (s : State) (f : AqState → AqState) : (s.modAq f).aq = f s.aq := rfl
@[simp] theorem State.modAq_pumps (s : State) (f : AqState → AqState) : (s.modAq f).pumps = s.pumps := rfl
@[simp] theorem State.modAq_filter (s : State) (f : AqState → AqState) : (s.modAq f).filter = s.filter := rfl
@[simp] theorem State.modAq_spout (s : State) (f : AqState → AqState) : (s.modAq f).spout = s.spout := rfl
@[simp] theorem State.modAq_sap (s : State) (f : AqState → AqState) : (s.modAq f).sap = s.sap := rfl
@[simp] theorem State.modAq_net (s : State) (f : AqState → AqState) : (s.modAq f).net = s.net := rfl
@[simp] theorem State.modAq_usb (s : State) (f : AqState → AqState) : (s.modAq f).usb = s.usb := rfl
@[simp] theorem State.modAq_timers (s : State) (f : AqState → AqState) : (s.modAq f).timers = s.timers := rfl
@[simp] theorem State.modAq_keybed (s : State) (f : AqState → AqState) : (s.modAq f).keybed = s.keybed := rfl
@[simp] theorem State.modAq_uarts (s : State) (f : AqState → AqState) : (s.modAq f).uarts = s.uarts := rfl
@[simp] theorem State.modAq_i2c (s : State) (f : AqState → AqState) : (s.modAq f).i2c = s.i2c := rfl
@[simp] theorem State.modAq_flash (s : State) (f : AqState → AqState) : (s.modAq f).flash = s.flash := rfl
@[simp] theorem State.modAq_windlass (s : State) (f : AqState → AqState) : (s.modAq f).windlass = s.windlass := rfl
@[simp] theorem State.modAq_supply (s : State) (f : AqState → AqState) : (s.modAq f).supply = s.supply := rfl
@[simp] theorem State.modAq_pair (s : State) (f : AqState → AqState) : (s.modAq f).pair = s.pair := rfl
@[simp] theorem State.modAq_evs (s : State) (f : AqState → AqState) : (s.modAq f).evs = s.evs := rfl
@[simp] theorem State.modAq_obs (s : State) (f : AqState → AqState) : (s.modAq f).obs = s.obs := rfl
@[simp] theorem State.modAq_outs (s : State) (f : AqState → AqState) : (s.modAq f).outs = s.outs := rfl
@[simp] theorem State.modAq_free (s : State) (f : AqState → AqState) : (s.modAq f).free = s.free := rfl
@[simp] theorem State.modAq_pending (s : State) (f : AqState → AqState) : (s.modAq f).pending = s.pending := rfl
@[simp] theorem State.modPumps_dev (s : State) (f : Bank Pump 32 → Bank Pump 32) : (s.modPumps f).dev = s.dev := rfl
@[simp] theorem State.modPumps_time (s : State) (f : Bank Pump 32 → Bank Pump 32) : (s.modPumps f).time = s.time := rfl
@[simp] theorem State.modPumps_fuses (s : State) (f : Bank Pump 32 → Bank Pump 32) : (s.modPumps f).fuses = s.fuses := rfl
@[simp] theorem State.modPumps_spawn (s : State) (f : Bank Pump 32 → Bank Pump 32) : (s.modPumps f).spawn = s.spawn := rfl
@[simp] theorem State.modPumps_ten (s : State) (f : Bank Pump 32 → Bank Pump 32) : (s.modPumps f).ten = s.ten := rfl
@[simp] theorem State.modPumps_deny (s : State) (f : Bank Pump 32 → Bank Pump 32) : (s.modPumps f).deny = s.deny := rfl
@[simp] theorem State.modPumps_host (s : State) (f : Bank Pump 32 → Bank Pump 32) : (s.modPumps f).host = s.host := rfl
@[simp] theorem State.modPumps_wells (s : State) (f : Bank Pump 32 → Bank Pump 32) : (s.modPumps f).wells = s.wells := rfl
@[simp] theorem State.modPumps_qports (s : State) (f : Bank Pump 32 → Bank Pump 32) : (s.modPumps f).qports = s.qports := rfl
@[simp] theorem State.modPumps_ops (s : State) (f : Bank Pump 32 → Bank Pump 32) : (s.modPumps f).ops = s.ops := rfl
@[simp] theorem State.modPumps_front (s : State) (f : Bank Pump 32 → Bank Pump 32) : (s.modPumps f).front = s.front := rfl
@[simp] theorem State.modPumps_pools (s : State) (f : Bank Pump 32 → Bank Pump 32) : (s.modPumps f).pools = s.pools := rfl
@[simp] theorem State.modPumps_gills (s : State) (f : Bank Pump 32 → Bank Pump 32) : (s.modPumps f).gills = s.gills := rfl
@[simp] theorem State.modPumps_myc (s : State) (f : Bank Pump 32 → Bank Pump 32) : (s.modPumps f).myc = s.myc := rfl
@[simp] theorem State.modPumps_engines (s : State) (f : Bank Pump 32 → Bank Pump 32) : (s.modPumps f).engines = s.engines := rfl
@[simp] theorem State.modPumps_mem (s : State) (f : Bank Pump 32 → Bank Pump 32) : (s.modPumps f).mem = s.mem := rfl
@[simp] theorem State.modPumps_aq (s : State) (f : Bank Pump 32 → Bank Pump 32) : (s.modPumps f).aq = s.aq := rfl
@[simp] theorem State.modPumps_pumps (s : State) (f : Bank Pump 32 → Bank Pump 32) : (s.modPumps f).pumps = f s.pumps := rfl
@[simp] theorem State.modPumps_filter (s : State) (f : Bank Pump 32 → Bank Pump 32) : (s.modPumps f).filter = s.filter := rfl
@[simp] theorem State.modPumps_spout (s : State) (f : Bank Pump 32 → Bank Pump 32) : (s.modPumps f).spout = s.spout := rfl
@[simp] theorem State.modPumps_sap (s : State) (f : Bank Pump 32 → Bank Pump 32) : (s.modPumps f).sap = s.sap := rfl
@[simp] theorem State.modPumps_net (s : State) (f : Bank Pump 32 → Bank Pump 32) : (s.modPumps f).net = s.net := rfl
@[simp] theorem State.modPumps_usb (s : State) (f : Bank Pump 32 → Bank Pump 32) : (s.modPumps f).usb = s.usb := rfl
@[simp] theorem State.modPumps_timers (s : State) (f : Bank Pump 32 → Bank Pump 32) : (s.modPumps f).timers = s.timers := rfl
@[simp] theorem State.modPumps_keybed (s : State) (f : Bank Pump 32 → Bank Pump 32) : (s.modPumps f).keybed = s.keybed := rfl
@[simp] theorem State.modPumps_uarts (s : State) (f : Bank Pump 32 → Bank Pump 32) : (s.modPumps f).uarts = s.uarts := rfl
@[simp] theorem State.modPumps_i2c (s : State) (f : Bank Pump 32 → Bank Pump 32) : (s.modPumps f).i2c = s.i2c := rfl
@[simp] theorem State.modPumps_flash (s : State) (f : Bank Pump 32 → Bank Pump 32) : (s.modPumps f).flash = s.flash := rfl
@[simp] theorem State.modPumps_windlass (s : State) (f : Bank Pump 32 → Bank Pump 32) : (s.modPumps f).windlass = s.windlass := rfl
@[simp] theorem State.modPumps_supply (s : State) (f : Bank Pump 32 → Bank Pump 32) : (s.modPumps f).supply = s.supply := rfl
@[simp] theorem State.modPumps_pair (s : State) (f : Bank Pump 32 → Bank Pump 32) : (s.modPumps f).pair = s.pair := rfl
@[simp] theorem State.modPumps_evs (s : State) (f : Bank Pump 32 → Bank Pump 32) : (s.modPumps f).evs = s.evs := rfl
@[simp] theorem State.modPumps_obs (s : State) (f : Bank Pump 32 → Bank Pump 32) : (s.modPumps f).obs = s.obs := rfl
@[simp] theorem State.modPumps_outs (s : State) (f : Bank Pump 32 → Bank Pump 32) : (s.modPumps f).outs = s.outs := rfl
@[simp] theorem State.modPumps_free (s : State) (f : Bank Pump 32 → Bank Pump 32) : (s.modPumps f).free = s.free := rfl
@[simp] theorem State.modPumps_pending (s : State) (f : Bank Pump 32 → Bank Pump 32) : (s.modPumps f).pending = s.pending := rfl
@[simp] theorem State.modFilter_dev (s : State) (f : FilterState → FilterState) : (s.modFilter f).dev = s.dev := rfl
@[simp] theorem State.modFilter_time (s : State) (f : FilterState → FilterState) : (s.modFilter f).time = s.time := rfl
@[simp] theorem State.modFilter_fuses (s : State) (f : FilterState → FilterState) : (s.modFilter f).fuses = s.fuses := rfl
@[simp] theorem State.modFilter_spawn (s : State) (f : FilterState → FilterState) : (s.modFilter f).spawn = s.spawn := rfl
@[simp] theorem State.modFilter_ten (s : State) (f : FilterState → FilterState) : (s.modFilter f).ten = s.ten := rfl
@[simp] theorem State.modFilter_deny (s : State) (f : FilterState → FilterState) : (s.modFilter f).deny = s.deny := rfl
@[simp] theorem State.modFilter_host (s : State) (f : FilterState → FilterState) : (s.modFilter f).host = s.host := rfl
@[simp] theorem State.modFilter_wells (s : State) (f : FilterState → FilterState) : (s.modFilter f).wells = s.wells := rfl
@[simp] theorem State.modFilter_qports (s : State) (f : FilterState → FilterState) : (s.modFilter f).qports = s.qports := rfl
@[simp] theorem State.modFilter_ops (s : State) (f : FilterState → FilterState) : (s.modFilter f).ops = s.ops := rfl
@[simp] theorem State.modFilter_front (s : State) (f : FilterState → FilterState) : (s.modFilter f).front = s.front := rfl
@[simp] theorem State.modFilter_pools (s : State) (f : FilterState → FilterState) : (s.modFilter f).pools = s.pools := rfl
@[simp] theorem State.modFilter_gills (s : State) (f : FilterState → FilterState) : (s.modFilter f).gills = s.gills := rfl
@[simp] theorem State.modFilter_myc (s : State) (f : FilterState → FilterState) : (s.modFilter f).myc = s.myc := rfl
@[simp] theorem State.modFilter_engines (s : State) (f : FilterState → FilterState) : (s.modFilter f).engines = s.engines := rfl
@[simp] theorem State.modFilter_mem (s : State) (f : FilterState → FilterState) : (s.modFilter f).mem = s.mem := rfl
@[simp] theorem State.modFilter_aq (s : State) (f : FilterState → FilterState) : (s.modFilter f).aq = s.aq := rfl
@[simp] theorem State.modFilter_pumps (s : State) (f : FilterState → FilterState) : (s.modFilter f).pumps = s.pumps := rfl
@[simp] theorem State.modFilter_filter (s : State) (f : FilterState → FilterState) : (s.modFilter f).filter = f s.filter := rfl
@[simp] theorem State.modFilter_spout (s : State) (f : FilterState → FilterState) : (s.modFilter f).spout = s.spout := rfl
@[simp] theorem State.modFilter_sap (s : State) (f : FilterState → FilterState) : (s.modFilter f).sap = s.sap := rfl
@[simp] theorem State.modFilter_net (s : State) (f : FilterState → FilterState) : (s.modFilter f).net = s.net := rfl
@[simp] theorem State.modFilter_usb (s : State) (f : FilterState → FilterState) : (s.modFilter f).usb = s.usb := rfl
@[simp] theorem State.modFilter_timers (s : State) (f : FilterState → FilterState) : (s.modFilter f).timers = s.timers := rfl
@[simp] theorem State.modFilter_keybed (s : State) (f : FilterState → FilterState) : (s.modFilter f).keybed = s.keybed := rfl
@[simp] theorem State.modFilter_uarts (s : State) (f : FilterState → FilterState) : (s.modFilter f).uarts = s.uarts := rfl
@[simp] theorem State.modFilter_i2c (s : State) (f : FilterState → FilterState) : (s.modFilter f).i2c = s.i2c := rfl
@[simp] theorem State.modFilter_flash (s : State) (f : FilterState → FilterState) : (s.modFilter f).flash = s.flash := rfl
@[simp] theorem State.modFilter_windlass (s : State) (f : FilterState → FilterState) : (s.modFilter f).windlass = s.windlass := rfl
@[simp] theorem State.modFilter_supply (s : State) (f : FilterState → FilterState) : (s.modFilter f).supply = s.supply := rfl
@[simp] theorem State.modFilter_pair (s : State) (f : FilterState → FilterState) : (s.modFilter f).pair = s.pair := rfl
@[simp] theorem State.modFilter_evs (s : State) (f : FilterState → FilterState) : (s.modFilter f).evs = s.evs := rfl
@[simp] theorem State.modFilter_obs (s : State) (f : FilterState → FilterState) : (s.modFilter f).obs = s.obs := rfl
@[simp] theorem State.modFilter_outs (s : State) (f : FilterState → FilterState) : (s.modFilter f).outs = s.outs := rfl
@[simp] theorem State.modFilter_free (s : State) (f : FilterState → FilterState) : (s.modFilter f).free = s.free := rfl
@[simp] theorem State.modFilter_pending (s : State) (f : FilterState → FilterState) : (s.modFilter f).pending = s.pending := rfl
@[simp] theorem State.modSpout_dev (s : State) (f : SpoutState → SpoutState) : (s.modSpout f).dev = s.dev := rfl
@[simp] theorem State.modSpout_time (s : State) (f : SpoutState → SpoutState) : (s.modSpout f).time = s.time := rfl
@[simp] theorem State.modSpout_fuses (s : State) (f : SpoutState → SpoutState) : (s.modSpout f).fuses = s.fuses := rfl
@[simp] theorem State.modSpout_spawn (s : State) (f : SpoutState → SpoutState) : (s.modSpout f).spawn = s.spawn := rfl
@[simp] theorem State.modSpout_ten (s : State) (f : SpoutState → SpoutState) : (s.modSpout f).ten = s.ten := rfl
@[simp] theorem State.modSpout_deny (s : State) (f : SpoutState → SpoutState) : (s.modSpout f).deny = s.deny := rfl
@[simp] theorem State.modSpout_host (s : State) (f : SpoutState → SpoutState) : (s.modSpout f).host = s.host := rfl
@[simp] theorem State.modSpout_wells (s : State) (f : SpoutState → SpoutState) : (s.modSpout f).wells = s.wells := rfl
@[simp] theorem State.modSpout_qports (s : State) (f : SpoutState → SpoutState) : (s.modSpout f).qports = s.qports := rfl
@[simp] theorem State.modSpout_ops (s : State) (f : SpoutState → SpoutState) : (s.modSpout f).ops = s.ops := rfl
@[simp] theorem State.modSpout_front (s : State) (f : SpoutState → SpoutState) : (s.modSpout f).front = s.front := rfl
@[simp] theorem State.modSpout_pools (s : State) (f : SpoutState → SpoutState) : (s.modSpout f).pools = s.pools := rfl
@[simp] theorem State.modSpout_gills (s : State) (f : SpoutState → SpoutState) : (s.modSpout f).gills = s.gills := rfl
@[simp] theorem State.modSpout_myc (s : State) (f : SpoutState → SpoutState) : (s.modSpout f).myc = s.myc := rfl
@[simp] theorem State.modSpout_engines (s : State) (f : SpoutState → SpoutState) : (s.modSpout f).engines = s.engines := rfl
@[simp] theorem State.modSpout_mem (s : State) (f : SpoutState → SpoutState) : (s.modSpout f).mem = s.mem := rfl
@[simp] theorem State.modSpout_aq (s : State) (f : SpoutState → SpoutState) : (s.modSpout f).aq = s.aq := rfl
@[simp] theorem State.modSpout_pumps (s : State) (f : SpoutState → SpoutState) : (s.modSpout f).pumps = s.pumps := rfl
@[simp] theorem State.modSpout_filter (s : State) (f : SpoutState → SpoutState) : (s.modSpout f).filter = s.filter := rfl
@[simp] theorem State.modSpout_spout (s : State) (f : SpoutState → SpoutState) : (s.modSpout f).spout = f s.spout := rfl
@[simp] theorem State.modSpout_sap (s : State) (f : SpoutState → SpoutState) : (s.modSpout f).sap = s.sap := rfl
@[simp] theorem State.modSpout_net (s : State) (f : SpoutState → SpoutState) : (s.modSpout f).net = s.net := rfl
@[simp] theorem State.modSpout_usb (s : State) (f : SpoutState → SpoutState) : (s.modSpout f).usb = s.usb := rfl
@[simp] theorem State.modSpout_timers (s : State) (f : SpoutState → SpoutState) : (s.modSpout f).timers = s.timers := rfl
@[simp] theorem State.modSpout_keybed (s : State) (f : SpoutState → SpoutState) : (s.modSpout f).keybed = s.keybed := rfl
@[simp] theorem State.modSpout_uarts (s : State) (f : SpoutState → SpoutState) : (s.modSpout f).uarts = s.uarts := rfl
@[simp] theorem State.modSpout_i2c (s : State) (f : SpoutState → SpoutState) : (s.modSpout f).i2c = s.i2c := rfl
@[simp] theorem State.modSpout_flash (s : State) (f : SpoutState → SpoutState) : (s.modSpout f).flash = s.flash := rfl
@[simp] theorem State.modSpout_windlass (s : State) (f : SpoutState → SpoutState) : (s.modSpout f).windlass = s.windlass := rfl
@[simp] theorem State.modSpout_supply (s : State) (f : SpoutState → SpoutState) : (s.modSpout f).supply = s.supply := rfl
@[simp] theorem State.modSpout_pair (s : State) (f : SpoutState → SpoutState) : (s.modSpout f).pair = s.pair := rfl
@[simp] theorem State.modSpout_evs (s : State) (f : SpoutState → SpoutState) : (s.modSpout f).evs = s.evs := rfl
@[simp] theorem State.modSpout_obs (s : State) (f : SpoutState → SpoutState) : (s.modSpout f).obs = s.obs := rfl
@[simp] theorem State.modSpout_outs (s : State) (f : SpoutState → SpoutState) : (s.modSpout f).outs = s.outs := rfl
@[simp] theorem State.modSpout_free (s : State) (f : SpoutState → SpoutState) : (s.modSpout f).free = s.free := rfl
@[simp] theorem State.modSpout_pending (s : State) (f : SpoutState → SpoutState) : (s.modSpout f).pending = s.pending := rfl
@[simp] theorem State.modSap_dev (s : State) (f : Bank Sap 8 → Bank Sap 8) : (s.modSap f).dev = s.dev := rfl
@[simp] theorem State.modSap_time (s : State) (f : Bank Sap 8 → Bank Sap 8) : (s.modSap f).time = s.time := rfl
@[simp] theorem State.modSap_fuses (s : State) (f : Bank Sap 8 → Bank Sap 8) : (s.modSap f).fuses = s.fuses := rfl
@[simp] theorem State.modSap_spawn (s : State) (f : Bank Sap 8 → Bank Sap 8) : (s.modSap f).spawn = s.spawn := rfl
@[simp] theorem State.modSap_ten (s : State) (f : Bank Sap 8 → Bank Sap 8) : (s.modSap f).ten = s.ten := rfl
@[simp] theorem State.modSap_deny (s : State) (f : Bank Sap 8 → Bank Sap 8) : (s.modSap f).deny = s.deny := rfl
@[simp] theorem State.modSap_host (s : State) (f : Bank Sap 8 → Bank Sap 8) : (s.modSap f).host = s.host := rfl
@[simp] theorem State.modSap_wells (s : State) (f : Bank Sap 8 → Bank Sap 8) : (s.modSap f).wells = s.wells := rfl
@[simp] theorem State.modSap_qports (s : State) (f : Bank Sap 8 → Bank Sap 8) : (s.modSap f).qports = s.qports := rfl
@[simp] theorem State.modSap_ops (s : State) (f : Bank Sap 8 → Bank Sap 8) : (s.modSap f).ops = s.ops := rfl
@[simp] theorem State.modSap_front (s : State) (f : Bank Sap 8 → Bank Sap 8) : (s.modSap f).front = s.front := rfl
@[simp] theorem State.modSap_pools (s : State) (f : Bank Sap 8 → Bank Sap 8) : (s.modSap f).pools = s.pools := rfl
@[simp] theorem State.modSap_gills (s : State) (f : Bank Sap 8 → Bank Sap 8) : (s.modSap f).gills = s.gills := rfl
@[simp] theorem State.modSap_myc (s : State) (f : Bank Sap 8 → Bank Sap 8) : (s.modSap f).myc = s.myc := rfl
@[simp] theorem State.modSap_engines (s : State) (f : Bank Sap 8 → Bank Sap 8) : (s.modSap f).engines = s.engines := rfl
@[simp] theorem State.modSap_mem (s : State) (f : Bank Sap 8 → Bank Sap 8) : (s.modSap f).mem = s.mem := rfl
@[simp] theorem State.modSap_aq (s : State) (f : Bank Sap 8 → Bank Sap 8) : (s.modSap f).aq = s.aq := rfl
@[simp] theorem State.modSap_pumps (s : State) (f : Bank Sap 8 → Bank Sap 8) : (s.modSap f).pumps = s.pumps := rfl
@[simp] theorem State.modSap_filter (s : State) (f : Bank Sap 8 → Bank Sap 8) : (s.modSap f).filter = s.filter := rfl
@[simp] theorem State.modSap_spout (s : State) (f : Bank Sap 8 → Bank Sap 8) : (s.modSap f).spout = s.spout := rfl
@[simp] theorem State.modSap_sap (s : State) (f : Bank Sap 8 → Bank Sap 8) : (s.modSap f).sap = f s.sap := rfl
@[simp] theorem State.modSap_net (s : State) (f : Bank Sap 8 → Bank Sap 8) : (s.modSap f).net = s.net := rfl
@[simp] theorem State.modSap_usb (s : State) (f : Bank Sap 8 → Bank Sap 8) : (s.modSap f).usb = s.usb := rfl
@[simp] theorem State.modSap_timers (s : State) (f : Bank Sap 8 → Bank Sap 8) : (s.modSap f).timers = s.timers := rfl
@[simp] theorem State.modSap_keybed (s : State) (f : Bank Sap 8 → Bank Sap 8) : (s.modSap f).keybed = s.keybed := rfl
@[simp] theorem State.modSap_uarts (s : State) (f : Bank Sap 8 → Bank Sap 8) : (s.modSap f).uarts = s.uarts := rfl
@[simp] theorem State.modSap_i2c (s : State) (f : Bank Sap 8 → Bank Sap 8) : (s.modSap f).i2c = s.i2c := rfl
@[simp] theorem State.modSap_flash (s : State) (f : Bank Sap 8 → Bank Sap 8) : (s.modSap f).flash = s.flash := rfl
@[simp] theorem State.modSap_windlass (s : State) (f : Bank Sap 8 → Bank Sap 8) : (s.modSap f).windlass = s.windlass := rfl
@[simp] theorem State.modSap_supply (s : State) (f : Bank Sap 8 → Bank Sap 8) : (s.modSap f).supply = s.supply := rfl
@[simp] theorem State.modSap_pair (s : State) (f : Bank Sap 8 → Bank Sap 8) : (s.modSap f).pair = s.pair := rfl
@[simp] theorem State.modSap_evs (s : State) (f : Bank Sap 8 → Bank Sap 8) : (s.modSap f).evs = s.evs := rfl
@[simp] theorem State.modSap_obs (s : State) (f : Bank Sap 8 → Bank Sap 8) : (s.modSap f).obs = s.obs := rfl
@[simp] theorem State.modSap_outs (s : State) (f : Bank Sap 8 → Bank Sap 8) : (s.modSap f).outs = s.outs := rfl
@[simp] theorem State.modSap_free (s : State) (f : Bank Sap 8 → Bank Sap 8) : (s.modSap f).free = s.free := rfl
@[simp] theorem State.modSap_pending (s : State) (f : Bank Sap 8 → Bank Sap 8) : (s.modSap f).pending = s.pending := rfl
@[simp] theorem State.modNet_dev (s : State) (f : NetState → NetState) : (s.modNet f).dev = s.dev := rfl
@[simp] theorem State.modNet_time (s : State) (f : NetState → NetState) : (s.modNet f).time = s.time := rfl
@[simp] theorem State.modNet_fuses (s : State) (f : NetState → NetState) : (s.modNet f).fuses = s.fuses := rfl
@[simp] theorem State.modNet_spawn (s : State) (f : NetState → NetState) : (s.modNet f).spawn = s.spawn := rfl
@[simp] theorem State.modNet_ten (s : State) (f : NetState → NetState) : (s.modNet f).ten = s.ten := rfl
@[simp] theorem State.modNet_deny (s : State) (f : NetState → NetState) : (s.modNet f).deny = s.deny := rfl
@[simp] theorem State.modNet_host (s : State) (f : NetState → NetState) : (s.modNet f).host = s.host := rfl
@[simp] theorem State.modNet_wells (s : State) (f : NetState → NetState) : (s.modNet f).wells = s.wells := rfl
@[simp] theorem State.modNet_qports (s : State) (f : NetState → NetState) : (s.modNet f).qports = s.qports := rfl
@[simp] theorem State.modNet_ops (s : State) (f : NetState → NetState) : (s.modNet f).ops = s.ops := rfl
@[simp] theorem State.modNet_front (s : State) (f : NetState → NetState) : (s.modNet f).front = s.front := rfl
@[simp] theorem State.modNet_pools (s : State) (f : NetState → NetState) : (s.modNet f).pools = s.pools := rfl
@[simp] theorem State.modNet_gills (s : State) (f : NetState → NetState) : (s.modNet f).gills = s.gills := rfl
@[simp] theorem State.modNet_myc (s : State) (f : NetState → NetState) : (s.modNet f).myc = s.myc := rfl
@[simp] theorem State.modNet_engines (s : State) (f : NetState → NetState) : (s.modNet f).engines = s.engines := rfl
@[simp] theorem State.modNet_mem (s : State) (f : NetState → NetState) : (s.modNet f).mem = s.mem := rfl
@[simp] theorem State.modNet_aq (s : State) (f : NetState → NetState) : (s.modNet f).aq = s.aq := rfl
@[simp] theorem State.modNet_pumps (s : State) (f : NetState → NetState) : (s.modNet f).pumps = s.pumps := rfl
@[simp] theorem State.modNet_filter (s : State) (f : NetState → NetState) : (s.modNet f).filter = s.filter := rfl
@[simp] theorem State.modNet_spout (s : State) (f : NetState → NetState) : (s.modNet f).spout = s.spout := rfl
@[simp] theorem State.modNet_sap (s : State) (f : NetState → NetState) : (s.modNet f).sap = s.sap := rfl
@[simp] theorem State.modNet_net (s : State) (f : NetState → NetState) : (s.modNet f).net = f s.net := rfl
@[simp] theorem State.modNet_usb (s : State) (f : NetState → NetState) : (s.modNet f).usb = s.usb := rfl
@[simp] theorem State.modNet_timers (s : State) (f : NetState → NetState) : (s.modNet f).timers = s.timers := rfl
@[simp] theorem State.modNet_keybed (s : State) (f : NetState → NetState) : (s.modNet f).keybed = s.keybed := rfl
@[simp] theorem State.modNet_uarts (s : State) (f : NetState → NetState) : (s.modNet f).uarts = s.uarts := rfl
@[simp] theorem State.modNet_i2c (s : State) (f : NetState → NetState) : (s.modNet f).i2c = s.i2c := rfl
@[simp] theorem State.modNet_flash (s : State) (f : NetState → NetState) : (s.modNet f).flash = s.flash := rfl
@[simp] theorem State.modNet_windlass (s : State) (f : NetState → NetState) : (s.modNet f).windlass = s.windlass := rfl
@[simp] theorem State.modNet_supply (s : State) (f : NetState → NetState) : (s.modNet f).supply = s.supply := rfl
@[simp] theorem State.modNet_pair (s : State) (f : NetState → NetState) : (s.modNet f).pair = s.pair := rfl
@[simp] theorem State.modNet_evs (s : State) (f : NetState → NetState) : (s.modNet f).evs = s.evs := rfl
@[simp] theorem State.modNet_obs (s : State) (f : NetState → NetState) : (s.modNet f).obs = s.obs := rfl
@[simp] theorem State.modNet_outs (s : State) (f : NetState → NetState) : (s.modNet f).outs = s.outs := rfl
@[simp] theorem State.modNet_free (s : State) (f : NetState → NetState) : (s.modNet f).free = s.free := rfl
@[simp] theorem State.modNet_pending (s : State) (f : NetState → NetState) : (s.modNet f).pending = s.pending := rfl
@[simp] theorem State.modUsb_dev (s : State) (f : UsbState → UsbState) : (s.modUsb f).dev = s.dev := rfl
@[simp] theorem State.modUsb_time (s : State) (f : UsbState → UsbState) : (s.modUsb f).time = s.time := rfl
@[simp] theorem State.modUsb_fuses (s : State) (f : UsbState → UsbState) : (s.modUsb f).fuses = s.fuses := rfl
@[simp] theorem State.modUsb_spawn (s : State) (f : UsbState → UsbState) : (s.modUsb f).spawn = s.spawn := rfl
@[simp] theorem State.modUsb_ten (s : State) (f : UsbState → UsbState) : (s.modUsb f).ten = s.ten := rfl
@[simp] theorem State.modUsb_deny (s : State) (f : UsbState → UsbState) : (s.modUsb f).deny = s.deny := rfl
@[simp] theorem State.modUsb_host (s : State) (f : UsbState → UsbState) : (s.modUsb f).host = s.host := rfl
@[simp] theorem State.modUsb_wells (s : State) (f : UsbState → UsbState) : (s.modUsb f).wells = s.wells := rfl
@[simp] theorem State.modUsb_qports (s : State) (f : UsbState → UsbState) : (s.modUsb f).qports = s.qports := rfl
@[simp] theorem State.modUsb_ops (s : State) (f : UsbState → UsbState) : (s.modUsb f).ops = s.ops := rfl
@[simp] theorem State.modUsb_front (s : State) (f : UsbState → UsbState) : (s.modUsb f).front = s.front := rfl
@[simp] theorem State.modUsb_pools (s : State) (f : UsbState → UsbState) : (s.modUsb f).pools = s.pools := rfl
@[simp] theorem State.modUsb_gills (s : State) (f : UsbState → UsbState) : (s.modUsb f).gills = s.gills := rfl
@[simp] theorem State.modUsb_myc (s : State) (f : UsbState → UsbState) : (s.modUsb f).myc = s.myc := rfl
@[simp] theorem State.modUsb_engines (s : State) (f : UsbState → UsbState) : (s.modUsb f).engines = s.engines := rfl
@[simp] theorem State.modUsb_mem (s : State) (f : UsbState → UsbState) : (s.modUsb f).mem = s.mem := rfl
@[simp] theorem State.modUsb_aq (s : State) (f : UsbState → UsbState) : (s.modUsb f).aq = s.aq := rfl
@[simp] theorem State.modUsb_pumps (s : State) (f : UsbState → UsbState) : (s.modUsb f).pumps = s.pumps := rfl
@[simp] theorem State.modUsb_filter (s : State) (f : UsbState → UsbState) : (s.modUsb f).filter = s.filter := rfl
@[simp] theorem State.modUsb_spout (s : State) (f : UsbState → UsbState) : (s.modUsb f).spout = s.spout := rfl
@[simp] theorem State.modUsb_sap (s : State) (f : UsbState → UsbState) : (s.modUsb f).sap = s.sap := rfl
@[simp] theorem State.modUsb_net (s : State) (f : UsbState → UsbState) : (s.modUsb f).net = s.net := rfl
@[simp] theorem State.modUsb_usb (s : State) (f : UsbState → UsbState) : (s.modUsb f).usb = f s.usb := rfl
@[simp] theorem State.modUsb_timers (s : State) (f : UsbState → UsbState) : (s.modUsb f).timers = s.timers := rfl
@[simp] theorem State.modUsb_keybed (s : State) (f : UsbState → UsbState) : (s.modUsb f).keybed = s.keybed := rfl
@[simp] theorem State.modUsb_uarts (s : State) (f : UsbState → UsbState) : (s.modUsb f).uarts = s.uarts := rfl
@[simp] theorem State.modUsb_i2c (s : State) (f : UsbState → UsbState) : (s.modUsb f).i2c = s.i2c := rfl
@[simp] theorem State.modUsb_flash (s : State) (f : UsbState → UsbState) : (s.modUsb f).flash = s.flash := rfl
@[simp] theorem State.modUsb_windlass (s : State) (f : UsbState → UsbState) : (s.modUsb f).windlass = s.windlass := rfl
@[simp] theorem State.modUsb_supply (s : State) (f : UsbState → UsbState) : (s.modUsb f).supply = s.supply := rfl
@[simp] theorem State.modUsb_pair (s : State) (f : UsbState → UsbState) : (s.modUsb f).pair = s.pair := rfl
@[simp] theorem State.modUsb_evs (s : State) (f : UsbState → UsbState) : (s.modUsb f).evs = s.evs := rfl
@[simp] theorem State.modUsb_obs (s : State) (f : UsbState → UsbState) : (s.modUsb f).obs = s.obs := rfl
@[simp] theorem State.modUsb_outs (s : State) (f : UsbState → UsbState) : (s.modUsb f).outs = s.outs := rfl
@[simp] theorem State.modUsb_free (s : State) (f : UsbState → UsbState) : (s.modUsb f).free = s.free := rfl
@[simp] theorem State.modUsb_pending (s : State) (f : UsbState → UsbState) : (s.modUsb f).pending = s.pending := rfl
@[simp] theorem State.modTimers_dev (s : State) (f : Bank (Bank TimerChan 4) 24 → Bank (Bank TimerChan 4) 24) : (s.modTimers f).dev = s.dev := rfl
@[simp] theorem State.modTimers_time (s : State) (f : Bank (Bank TimerChan 4) 24 → Bank (Bank TimerChan 4) 24) : (s.modTimers f).time = s.time := rfl
@[simp] theorem State.modTimers_fuses (s : State) (f : Bank (Bank TimerChan 4) 24 → Bank (Bank TimerChan 4) 24) : (s.modTimers f).fuses = s.fuses := rfl
@[simp] theorem State.modTimers_spawn (s : State) (f : Bank (Bank TimerChan 4) 24 → Bank (Bank TimerChan 4) 24) : (s.modTimers f).spawn = s.spawn := rfl
@[simp] theorem State.modTimers_ten (s : State) (f : Bank (Bank TimerChan 4) 24 → Bank (Bank TimerChan 4) 24) : (s.modTimers f).ten = s.ten := rfl
@[simp] theorem State.modTimers_deny (s : State) (f : Bank (Bank TimerChan 4) 24 → Bank (Bank TimerChan 4) 24) : (s.modTimers f).deny = s.deny := rfl
@[simp] theorem State.modTimers_host (s : State) (f : Bank (Bank TimerChan 4) 24 → Bank (Bank TimerChan 4) 24) : (s.modTimers f).host = s.host := rfl
@[simp] theorem State.modTimers_wells (s : State) (f : Bank (Bank TimerChan 4) 24 → Bank (Bank TimerChan 4) 24) : (s.modTimers f).wells = s.wells := rfl
@[simp] theorem State.modTimers_qports (s : State) (f : Bank (Bank TimerChan 4) 24 → Bank (Bank TimerChan 4) 24) : (s.modTimers f).qports = s.qports := rfl
@[simp] theorem State.modTimers_ops (s : State) (f : Bank (Bank TimerChan 4) 24 → Bank (Bank TimerChan 4) 24) : (s.modTimers f).ops = s.ops := rfl
@[simp] theorem State.modTimers_front (s : State) (f : Bank (Bank TimerChan 4) 24 → Bank (Bank TimerChan 4) 24) : (s.modTimers f).front = s.front := rfl
@[simp] theorem State.modTimers_pools (s : State) (f : Bank (Bank TimerChan 4) 24 → Bank (Bank TimerChan 4) 24) : (s.modTimers f).pools = s.pools := rfl
@[simp] theorem State.modTimers_gills (s : State) (f : Bank (Bank TimerChan 4) 24 → Bank (Bank TimerChan 4) 24) : (s.modTimers f).gills = s.gills := rfl
@[simp] theorem State.modTimers_myc (s : State) (f : Bank (Bank TimerChan 4) 24 → Bank (Bank TimerChan 4) 24) : (s.modTimers f).myc = s.myc := rfl
@[simp] theorem State.modTimers_engines (s : State) (f : Bank (Bank TimerChan 4) 24 → Bank (Bank TimerChan 4) 24) : (s.modTimers f).engines = s.engines := rfl
@[simp] theorem State.modTimers_mem (s : State) (f : Bank (Bank TimerChan 4) 24 → Bank (Bank TimerChan 4) 24) : (s.modTimers f).mem = s.mem := rfl
@[simp] theorem State.modTimers_aq (s : State) (f : Bank (Bank TimerChan 4) 24 → Bank (Bank TimerChan 4) 24) : (s.modTimers f).aq = s.aq := rfl
@[simp] theorem State.modTimers_pumps (s : State) (f : Bank (Bank TimerChan 4) 24 → Bank (Bank TimerChan 4) 24) : (s.modTimers f).pumps = s.pumps := rfl
@[simp] theorem State.modTimers_filter (s : State) (f : Bank (Bank TimerChan 4) 24 → Bank (Bank TimerChan 4) 24) : (s.modTimers f).filter = s.filter := rfl
@[simp] theorem State.modTimers_spout (s : State) (f : Bank (Bank TimerChan 4) 24 → Bank (Bank TimerChan 4) 24) : (s.modTimers f).spout = s.spout := rfl
@[simp] theorem State.modTimers_sap (s : State) (f : Bank (Bank TimerChan 4) 24 → Bank (Bank TimerChan 4) 24) : (s.modTimers f).sap = s.sap := rfl
@[simp] theorem State.modTimers_net (s : State) (f : Bank (Bank TimerChan 4) 24 → Bank (Bank TimerChan 4) 24) : (s.modTimers f).net = s.net := rfl
@[simp] theorem State.modTimers_usb (s : State) (f : Bank (Bank TimerChan 4) 24 → Bank (Bank TimerChan 4) 24) : (s.modTimers f).usb = s.usb := rfl
@[simp] theorem State.modTimers_timers (s : State) (f : Bank (Bank TimerChan 4) 24 → Bank (Bank TimerChan 4) 24) : (s.modTimers f).timers = f s.timers := rfl
@[simp] theorem State.modTimers_keybed (s : State) (f : Bank (Bank TimerChan 4) 24 → Bank (Bank TimerChan 4) 24) : (s.modTimers f).keybed = s.keybed := rfl
@[simp] theorem State.modTimers_uarts (s : State) (f : Bank (Bank TimerChan 4) 24 → Bank (Bank TimerChan 4) 24) : (s.modTimers f).uarts = s.uarts := rfl
@[simp] theorem State.modTimers_i2c (s : State) (f : Bank (Bank TimerChan 4) 24 → Bank (Bank TimerChan 4) 24) : (s.modTimers f).i2c = s.i2c := rfl
@[simp] theorem State.modTimers_flash (s : State) (f : Bank (Bank TimerChan 4) 24 → Bank (Bank TimerChan 4) 24) : (s.modTimers f).flash = s.flash := rfl
@[simp] theorem State.modTimers_windlass (s : State) (f : Bank (Bank TimerChan 4) 24 → Bank (Bank TimerChan 4) 24) : (s.modTimers f).windlass = s.windlass := rfl
@[simp] theorem State.modTimers_supply (s : State) (f : Bank (Bank TimerChan 4) 24 → Bank (Bank TimerChan 4) 24) : (s.modTimers f).supply = s.supply := rfl
@[simp] theorem State.modTimers_pair (s : State) (f : Bank (Bank TimerChan 4) 24 → Bank (Bank TimerChan 4) 24) : (s.modTimers f).pair = s.pair := rfl
@[simp] theorem State.modTimers_evs (s : State) (f : Bank (Bank TimerChan 4) 24 → Bank (Bank TimerChan 4) 24) : (s.modTimers f).evs = s.evs := rfl
@[simp] theorem State.modTimers_obs (s : State) (f : Bank (Bank TimerChan 4) 24 → Bank (Bank TimerChan 4) 24) : (s.modTimers f).obs = s.obs := rfl
@[simp] theorem State.modTimers_outs (s : State) (f : Bank (Bank TimerChan 4) 24 → Bank (Bank TimerChan 4) 24) : (s.modTimers f).outs = s.outs := rfl
@[simp] theorem State.modTimers_free (s : State) (f : Bank (Bank TimerChan 4) 24 → Bank (Bank TimerChan 4) 24) : (s.modTimers f).free = s.free := rfl
@[simp] theorem State.modTimers_pending (s : State) (f : Bank (Bank TimerChan 4) 24 → Bank (Bank TimerChan 4) 24) : (s.modTimers f).pending = s.pending := rfl
@[simp] theorem State.modKeybed_dev (s : State) (f : KeybedState → KeybedState) : (s.modKeybed f).dev = s.dev := rfl
@[simp] theorem State.modKeybed_time (s : State) (f : KeybedState → KeybedState) : (s.modKeybed f).time = s.time := rfl
@[simp] theorem State.modKeybed_fuses (s : State) (f : KeybedState → KeybedState) : (s.modKeybed f).fuses = s.fuses := rfl
@[simp] theorem State.modKeybed_spawn (s : State) (f : KeybedState → KeybedState) : (s.modKeybed f).spawn = s.spawn := rfl
@[simp] theorem State.modKeybed_ten (s : State) (f : KeybedState → KeybedState) : (s.modKeybed f).ten = s.ten := rfl
@[simp] theorem State.modKeybed_deny (s : State) (f : KeybedState → KeybedState) : (s.modKeybed f).deny = s.deny := rfl
@[simp] theorem State.modKeybed_host (s : State) (f : KeybedState → KeybedState) : (s.modKeybed f).host = s.host := rfl
@[simp] theorem State.modKeybed_wells (s : State) (f : KeybedState → KeybedState) : (s.modKeybed f).wells = s.wells := rfl
@[simp] theorem State.modKeybed_qports (s : State) (f : KeybedState → KeybedState) : (s.modKeybed f).qports = s.qports := rfl
@[simp] theorem State.modKeybed_ops (s : State) (f : KeybedState → KeybedState) : (s.modKeybed f).ops = s.ops := rfl
@[simp] theorem State.modKeybed_front (s : State) (f : KeybedState → KeybedState) : (s.modKeybed f).front = s.front := rfl
@[simp] theorem State.modKeybed_pools (s : State) (f : KeybedState → KeybedState) : (s.modKeybed f).pools = s.pools := rfl
@[simp] theorem State.modKeybed_gills (s : State) (f : KeybedState → KeybedState) : (s.modKeybed f).gills = s.gills := rfl
@[simp] theorem State.modKeybed_myc (s : State) (f : KeybedState → KeybedState) : (s.modKeybed f).myc = s.myc := rfl
@[simp] theorem State.modKeybed_engines (s : State) (f : KeybedState → KeybedState) : (s.modKeybed f).engines = s.engines := rfl
@[simp] theorem State.modKeybed_mem (s : State) (f : KeybedState → KeybedState) : (s.modKeybed f).mem = s.mem := rfl
@[simp] theorem State.modKeybed_aq (s : State) (f : KeybedState → KeybedState) : (s.modKeybed f).aq = s.aq := rfl
@[simp] theorem State.modKeybed_pumps (s : State) (f : KeybedState → KeybedState) : (s.modKeybed f).pumps = s.pumps := rfl
@[simp] theorem State.modKeybed_filter (s : State) (f : KeybedState → KeybedState) : (s.modKeybed f).filter = s.filter := rfl
@[simp] theorem State.modKeybed_spout (s : State) (f : KeybedState → KeybedState) : (s.modKeybed f).spout = s.spout := rfl
@[simp] theorem State.modKeybed_sap (s : State) (f : KeybedState → KeybedState) : (s.modKeybed f).sap = s.sap := rfl
@[simp] theorem State.modKeybed_net (s : State) (f : KeybedState → KeybedState) : (s.modKeybed f).net = s.net := rfl
@[simp] theorem State.modKeybed_usb (s : State) (f : KeybedState → KeybedState) : (s.modKeybed f).usb = s.usb := rfl
@[simp] theorem State.modKeybed_timers (s : State) (f : KeybedState → KeybedState) : (s.modKeybed f).timers = s.timers := rfl
@[simp] theorem State.modKeybed_keybed (s : State) (f : KeybedState → KeybedState) : (s.modKeybed f).keybed = f s.keybed := rfl
@[simp] theorem State.modKeybed_uarts (s : State) (f : KeybedState → KeybedState) : (s.modKeybed f).uarts = s.uarts := rfl
@[simp] theorem State.modKeybed_i2c (s : State) (f : KeybedState → KeybedState) : (s.modKeybed f).i2c = s.i2c := rfl
@[simp] theorem State.modKeybed_flash (s : State) (f : KeybedState → KeybedState) : (s.modKeybed f).flash = s.flash := rfl
@[simp] theorem State.modKeybed_windlass (s : State) (f : KeybedState → KeybedState) : (s.modKeybed f).windlass = s.windlass := rfl
@[simp] theorem State.modKeybed_supply (s : State) (f : KeybedState → KeybedState) : (s.modKeybed f).supply = s.supply := rfl
@[simp] theorem State.modKeybed_pair (s : State) (f : KeybedState → KeybedState) : (s.modKeybed f).pair = s.pair := rfl
@[simp] theorem State.modKeybed_evs (s : State) (f : KeybedState → KeybedState) : (s.modKeybed f).evs = s.evs := rfl
@[simp] theorem State.modKeybed_obs (s : State) (f : KeybedState → KeybedState) : (s.modKeybed f).obs = s.obs := rfl
@[simp] theorem State.modKeybed_outs (s : State) (f : KeybedState → KeybedState) : (s.modKeybed f).outs = s.outs := rfl
@[simp] theorem State.modKeybed_free (s : State) (f : KeybedState → KeybedState) : (s.modKeybed f).free = s.free := rfl
@[simp] theorem State.modKeybed_pending (s : State) (f : KeybedState → KeybedState) : (s.modKeybed f).pending = s.pending := rfl
@[simp] theorem State.modUarts_dev (s : State) (f : Bank UartState 8 → Bank UartState 8) : (s.modUarts f).dev = s.dev := rfl
@[simp] theorem State.modUarts_time (s : State) (f : Bank UartState 8 → Bank UartState 8) : (s.modUarts f).time = s.time := rfl
@[simp] theorem State.modUarts_fuses (s : State) (f : Bank UartState 8 → Bank UartState 8) : (s.modUarts f).fuses = s.fuses := rfl
@[simp] theorem State.modUarts_spawn (s : State) (f : Bank UartState 8 → Bank UartState 8) : (s.modUarts f).spawn = s.spawn := rfl
@[simp] theorem State.modUarts_ten (s : State) (f : Bank UartState 8 → Bank UartState 8) : (s.modUarts f).ten = s.ten := rfl
@[simp] theorem State.modUarts_deny (s : State) (f : Bank UartState 8 → Bank UartState 8) : (s.modUarts f).deny = s.deny := rfl
@[simp] theorem State.modUarts_host (s : State) (f : Bank UartState 8 → Bank UartState 8) : (s.modUarts f).host = s.host := rfl
@[simp] theorem State.modUarts_wells (s : State) (f : Bank UartState 8 → Bank UartState 8) : (s.modUarts f).wells = s.wells := rfl
@[simp] theorem State.modUarts_qports (s : State) (f : Bank UartState 8 → Bank UartState 8) : (s.modUarts f).qports = s.qports := rfl
@[simp] theorem State.modUarts_ops (s : State) (f : Bank UartState 8 → Bank UartState 8) : (s.modUarts f).ops = s.ops := rfl
@[simp] theorem State.modUarts_front (s : State) (f : Bank UartState 8 → Bank UartState 8) : (s.modUarts f).front = s.front := rfl
@[simp] theorem State.modUarts_pools (s : State) (f : Bank UartState 8 → Bank UartState 8) : (s.modUarts f).pools = s.pools := rfl
@[simp] theorem State.modUarts_gills (s : State) (f : Bank UartState 8 → Bank UartState 8) : (s.modUarts f).gills = s.gills := rfl
@[simp] theorem State.modUarts_myc (s : State) (f : Bank UartState 8 → Bank UartState 8) : (s.modUarts f).myc = s.myc := rfl
@[simp] theorem State.modUarts_engines (s : State) (f : Bank UartState 8 → Bank UartState 8) : (s.modUarts f).engines = s.engines := rfl
@[simp] theorem State.modUarts_mem (s : State) (f : Bank UartState 8 → Bank UartState 8) : (s.modUarts f).mem = s.mem := rfl
@[simp] theorem State.modUarts_aq (s : State) (f : Bank UartState 8 → Bank UartState 8) : (s.modUarts f).aq = s.aq := rfl
@[simp] theorem State.modUarts_pumps (s : State) (f : Bank UartState 8 → Bank UartState 8) : (s.modUarts f).pumps = s.pumps := rfl
@[simp] theorem State.modUarts_filter (s : State) (f : Bank UartState 8 → Bank UartState 8) : (s.modUarts f).filter = s.filter := rfl
@[simp] theorem State.modUarts_spout (s : State) (f : Bank UartState 8 → Bank UartState 8) : (s.modUarts f).spout = s.spout := rfl
@[simp] theorem State.modUarts_sap (s : State) (f : Bank UartState 8 → Bank UartState 8) : (s.modUarts f).sap = s.sap := rfl
@[simp] theorem State.modUarts_net (s : State) (f : Bank UartState 8 → Bank UartState 8) : (s.modUarts f).net = s.net := rfl
@[simp] theorem State.modUarts_usb (s : State) (f : Bank UartState 8 → Bank UartState 8) : (s.modUarts f).usb = s.usb := rfl
@[simp] theorem State.modUarts_timers (s : State) (f : Bank UartState 8 → Bank UartState 8) : (s.modUarts f).timers = s.timers := rfl
@[simp] theorem State.modUarts_keybed (s : State) (f : Bank UartState 8 → Bank UartState 8) : (s.modUarts f).keybed = s.keybed := rfl
@[simp] theorem State.modUarts_uarts (s : State) (f : Bank UartState 8 → Bank UartState 8) : (s.modUarts f).uarts = f s.uarts := rfl
@[simp] theorem State.modUarts_i2c (s : State) (f : Bank UartState 8 → Bank UartState 8) : (s.modUarts f).i2c = s.i2c := rfl
@[simp] theorem State.modUarts_flash (s : State) (f : Bank UartState 8 → Bank UartState 8) : (s.modUarts f).flash = s.flash := rfl
@[simp] theorem State.modUarts_windlass (s : State) (f : Bank UartState 8 → Bank UartState 8) : (s.modUarts f).windlass = s.windlass := rfl
@[simp] theorem State.modUarts_supply (s : State) (f : Bank UartState 8 → Bank UartState 8) : (s.modUarts f).supply = s.supply := rfl
@[simp] theorem State.modUarts_pair (s : State) (f : Bank UartState 8 → Bank UartState 8) : (s.modUarts f).pair = s.pair := rfl
@[simp] theorem State.modUarts_evs (s : State) (f : Bank UartState 8 → Bank UartState 8) : (s.modUarts f).evs = s.evs := rfl
@[simp] theorem State.modUarts_obs (s : State) (f : Bank UartState 8 → Bank UartState 8) : (s.modUarts f).obs = s.obs := rfl
@[simp] theorem State.modUarts_outs (s : State) (f : Bank UartState 8 → Bank UartState 8) : (s.modUarts f).outs = s.outs := rfl
@[simp] theorem State.modUarts_free (s : State) (f : Bank UartState 8 → Bank UartState 8) : (s.modUarts f).free = s.free := rfl
@[simp] theorem State.modUarts_pending (s : State) (f : Bank UartState 8 → Bank UartState 8) : (s.modUarts f).pending = s.pending := rfl
@[simp] theorem State.modI2c_dev (s : State) (f : Bank I2cState 2 → Bank I2cState 2) : (s.modI2c f).dev = s.dev := rfl
@[simp] theorem State.modI2c_time (s : State) (f : Bank I2cState 2 → Bank I2cState 2) : (s.modI2c f).time = s.time := rfl
@[simp] theorem State.modI2c_fuses (s : State) (f : Bank I2cState 2 → Bank I2cState 2) : (s.modI2c f).fuses = s.fuses := rfl
@[simp] theorem State.modI2c_spawn (s : State) (f : Bank I2cState 2 → Bank I2cState 2) : (s.modI2c f).spawn = s.spawn := rfl
@[simp] theorem State.modI2c_ten (s : State) (f : Bank I2cState 2 → Bank I2cState 2) : (s.modI2c f).ten = s.ten := rfl
@[simp] theorem State.modI2c_deny (s : State) (f : Bank I2cState 2 → Bank I2cState 2) : (s.modI2c f).deny = s.deny := rfl
@[simp] theorem State.modI2c_host (s : State) (f : Bank I2cState 2 → Bank I2cState 2) : (s.modI2c f).host = s.host := rfl
@[simp] theorem State.modI2c_wells (s : State) (f : Bank I2cState 2 → Bank I2cState 2) : (s.modI2c f).wells = s.wells := rfl
@[simp] theorem State.modI2c_qports (s : State) (f : Bank I2cState 2 → Bank I2cState 2) : (s.modI2c f).qports = s.qports := rfl
@[simp] theorem State.modI2c_ops (s : State) (f : Bank I2cState 2 → Bank I2cState 2) : (s.modI2c f).ops = s.ops := rfl
@[simp] theorem State.modI2c_front (s : State) (f : Bank I2cState 2 → Bank I2cState 2) : (s.modI2c f).front = s.front := rfl
@[simp] theorem State.modI2c_pools (s : State) (f : Bank I2cState 2 → Bank I2cState 2) : (s.modI2c f).pools = s.pools := rfl
@[simp] theorem State.modI2c_gills (s : State) (f : Bank I2cState 2 → Bank I2cState 2) : (s.modI2c f).gills = s.gills := rfl
@[simp] theorem State.modI2c_myc (s : State) (f : Bank I2cState 2 → Bank I2cState 2) : (s.modI2c f).myc = s.myc := rfl
@[simp] theorem State.modI2c_engines (s : State) (f : Bank I2cState 2 → Bank I2cState 2) : (s.modI2c f).engines = s.engines := rfl
@[simp] theorem State.modI2c_mem (s : State) (f : Bank I2cState 2 → Bank I2cState 2) : (s.modI2c f).mem = s.mem := rfl
@[simp] theorem State.modI2c_aq (s : State) (f : Bank I2cState 2 → Bank I2cState 2) : (s.modI2c f).aq = s.aq := rfl
@[simp] theorem State.modI2c_pumps (s : State) (f : Bank I2cState 2 → Bank I2cState 2) : (s.modI2c f).pumps = s.pumps := rfl
@[simp] theorem State.modI2c_filter (s : State) (f : Bank I2cState 2 → Bank I2cState 2) : (s.modI2c f).filter = s.filter := rfl
@[simp] theorem State.modI2c_spout (s : State) (f : Bank I2cState 2 → Bank I2cState 2) : (s.modI2c f).spout = s.spout := rfl
@[simp] theorem State.modI2c_sap (s : State) (f : Bank I2cState 2 → Bank I2cState 2) : (s.modI2c f).sap = s.sap := rfl
@[simp] theorem State.modI2c_net (s : State) (f : Bank I2cState 2 → Bank I2cState 2) : (s.modI2c f).net = s.net := rfl
@[simp] theorem State.modI2c_usb (s : State) (f : Bank I2cState 2 → Bank I2cState 2) : (s.modI2c f).usb = s.usb := rfl
@[simp] theorem State.modI2c_timers (s : State) (f : Bank I2cState 2 → Bank I2cState 2) : (s.modI2c f).timers = s.timers := rfl
@[simp] theorem State.modI2c_keybed (s : State) (f : Bank I2cState 2 → Bank I2cState 2) : (s.modI2c f).keybed = s.keybed := rfl
@[simp] theorem State.modI2c_uarts (s : State) (f : Bank I2cState 2 → Bank I2cState 2) : (s.modI2c f).uarts = s.uarts := rfl
@[simp] theorem State.modI2c_i2c (s : State) (f : Bank I2cState 2 → Bank I2cState 2) : (s.modI2c f).i2c = f s.i2c := rfl
@[simp] theorem State.modI2c_flash (s : State) (f : Bank I2cState 2 → Bank I2cState 2) : (s.modI2c f).flash = s.flash := rfl
@[simp] theorem State.modI2c_windlass (s : State) (f : Bank I2cState 2 → Bank I2cState 2) : (s.modI2c f).windlass = s.windlass := rfl
@[simp] theorem State.modI2c_supply (s : State) (f : Bank I2cState 2 → Bank I2cState 2) : (s.modI2c f).supply = s.supply := rfl
@[simp] theorem State.modI2c_pair (s : State) (f : Bank I2cState 2 → Bank I2cState 2) : (s.modI2c f).pair = s.pair := rfl
@[simp] theorem State.modI2c_evs (s : State) (f : Bank I2cState 2 → Bank I2cState 2) : (s.modI2c f).evs = s.evs := rfl
@[simp] theorem State.modI2c_obs (s : State) (f : Bank I2cState 2 → Bank I2cState 2) : (s.modI2c f).obs = s.obs := rfl
@[simp] theorem State.modI2c_outs (s : State) (f : Bank I2cState 2 → Bank I2cState 2) : (s.modI2c f).outs = s.outs := rfl
@[simp] theorem State.modI2c_free (s : State) (f : Bank I2cState 2 → Bank I2cState 2) : (s.modI2c f).free = s.free := rfl
@[simp] theorem State.modI2c_pending (s : State) (f : Bank I2cState 2 → Bank I2cState 2) : (s.modI2c f).pending = s.pending := rfl
@[simp] theorem State.modFlash_dev (s : State) (f : FlashState → FlashState) : (s.modFlash f).dev = s.dev := rfl
@[simp] theorem State.modFlash_time (s : State) (f : FlashState → FlashState) : (s.modFlash f).time = s.time := rfl
@[simp] theorem State.modFlash_fuses (s : State) (f : FlashState → FlashState) : (s.modFlash f).fuses = s.fuses := rfl
@[simp] theorem State.modFlash_spawn (s : State) (f : FlashState → FlashState) : (s.modFlash f).spawn = s.spawn := rfl
@[simp] theorem State.modFlash_ten (s : State) (f : FlashState → FlashState) : (s.modFlash f).ten = s.ten := rfl
@[simp] theorem State.modFlash_deny (s : State) (f : FlashState → FlashState) : (s.modFlash f).deny = s.deny := rfl
@[simp] theorem State.modFlash_host (s : State) (f : FlashState → FlashState) : (s.modFlash f).host = s.host := rfl
@[simp] theorem State.modFlash_wells (s : State) (f : FlashState → FlashState) : (s.modFlash f).wells = s.wells := rfl
@[simp] theorem State.modFlash_qports (s : State) (f : FlashState → FlashState) : (s.modFlash f).qports = s.qports := rfl
@[simp] theorem State.modFlash_ops (s : State) (f : FlashState → FlashState) : (s.modFlash f).ops = s.ops := rfl
@[simp] theorem State.modFlash_front (s : State) (f : FlashState → FlashState) : (s.modFlash f).front = s.front := rfl
@[simp] theorem State.modFlash_pools (s : State) (f : FlashState → FlashState) : (s.modFlash f).pools = s.pools := rfl
@[simp] theorem State.modFlash_gills (s : State) (f : FlashState → FlashState) : (s.modFlash f).gills = s.gills := rfl
@[simp] theorem State.modFlash_myc (s : State) (f : FlashState → FlashState) : (s.modFlash f).myc = s.myc := rfl
@[simp] theorem State.modFlash_engines (s : State) (f : FlashState → FlashState) : (s.modFlash f).engines = s.engines := rfl
@[simp] theorem State.modFlash_mem (s : State) (f : FlashState → FlashState) : (s.modFlash f).mem = s.mem := rfl
@[simp] theorem State.modFlash_aq (s : State) (f : FlashState → FlashState) : (s.modFlash f).aq = s.aq := rfl
@[simp] theorem State.modFlash_pumps (s : State) (f : FlashState → FlashState) : (s.modFlash f).pumps = s.pumps := rfl
@[simp] theorem State.modFlash_filter (s : State) (f : FlashState → FlashState) : (s.modFlash f).filter = s.filter := rfl
@[simp] theorem State.modFlash_spout (s : State) (f : FlashState → FlashState) : (s.modFlash f).spout = s.spout := rfl
@[simp] theorem State.modFlash_sap (s : State) (f : FlashState → FlashState) : (s.modFlash f).sap = s.sap := rfl
@[simp] theorem State.modFlash_net (s : State) (f : FlashState → FlashState) : (s.modFlash f).net = s.net := rfl
@[simp] theorem State.modFlash_usb (s : State) (f : FlashState → FlashState) : (s.modFlash f).usb = s.usb := rfl
@[simp] theorem State.modFlash_timers (s : State) (f : FlashState → FlashState) : (s.modFlash f).timers = s.timers := rfl
@[simp] theorem State.modFlash_keybed (s : State) (f : FlashState → FlashState) : (s.modFlash f).keybed = s.keybed := rfl
@[simp] theorem State.modFlash_uarts (s : State) (f : FlashState → FlashState) : (s.modFlash f).uarts = s.uarts := rfl
@[simp] theorem State.modFlash_i2c (s : State) (f : FlashState → FlashState) : (s.modFlash f).i2c = s.i2c := rfl
@[simp] theorem State.modFlash_flash (s : State) (f : FlashState → FlashState) : (s.modFlash f).flash = f s.flash := rfl
@[simp] theorem State.modFlash_windlass (s : State) (f : FlashState → FlashState) : (s.modFlash f).windlass = s.windlass := rfl
@[simp] theorem State.modFlash_supply (s : State) (f : FlashState → FlashState) : (s.modFlash f).supply = s.supply := rfl
@[simp] theorem State.modFlash_pair (s : State) (f : FlashState → FlashState) : (s.modFlash f).pair = s.pair := rfl
@[simp] theorem State.modFlash_evs (s : State) (f : FlashState → FlashState) : (s.modFlash f).evs = s.evs := rfl
@[simp] theorem State.modFlash_obs (s : State) (f : FlashState → FlashState) : (s.modFlash f).obs = s.obs := rfl
@[simp] theorem State.modFlash_outs (s : State) (f : FlashState → FlashState) : (s.modFlash f).outs = s.outs := rfl
@[simp] theorem State.modFlash_free (s : State) (f : FlashState → FlashState) : (s.modFlash f).free = s.free := rfl
@[simp] theorem State.modFlash_pending (s : State) (f : FlashState → FlashState) : (s.modFlash f).pending = s.pending := rfl
@[simp] theorem State.modWindlass_dev (s : State) (f : WindlassState → WindlassState) : (s.modWindlass f).dev = s.dev := rfl
@[simp] theorem State.modWindlass_time (s : State) (f : WindlassState → WindlassState) : (s.modWindlass f).time = s.time := rfl
@[simp] theorem State.modWindlass_fuses (s : State) (f : WindlassState → WindlassState) : (s.modWindlass f).fuses = s.fuses := rfl
@[simp] theorem State.modWindlass_spawn (s : State) (f : WindlassState → WindlassState) : (s.modWindlass f).spawn = s.spawn := rfl
@[simp] theorem State.modWindlass_ten (s : State) (f : WindlassState → WindlassState) : (s.modWindlass f).ten = s.ten := rfl
@[simp] theorem State.modWindlass_deny (s : State) (f : WindlassState → WindlassState) : (s.modWindlass f).deny = s.deny := rfl
@[simp] theorem State.modWindlass_host (s : State) (f : WindlassState → WindlassState) : (s.modWindlass f).host = s.host := rfl
@[simp] theorem State.modWindlass_wells (s : State) (f : WindlassState → WindlassState) : (s.modWindlass f).wells = s.wells := rfl
@[simp] theorem State.modWindlass_qports (s : State) (f : WindlassState → WindlassState) : (s.modWindlass f).qports = s.qports := rfl
@[simp] theorem State.modWindlass_ops (s : State) (f : WindlassState → WindlassState) : (s.modWindlass f).ops = s.ops := rfl
@[simp] theorem State.modWindlass_front (s : State) (f : WindlassState → WindlassState) : (s.modWindlass f).front = s.front := rfl
@[simp] theorem State.modWindlass_pools (s : State) (f : WindlassState → WindlassState) : (s.modWindlass f).pools = s.pools := rfl
@[simp] theorem State.modWindlass_gills (s : State) (f : WindlassState → WindlassState) : (s.modWindlass f).gills = s.gills := rfl
@[simp] theorem State.modWindlass_myc (s : State) (f : WindlassState → WindlassState) : (s.modWindlass f).myc = s.myc := rfl
@[simp] theorem State.modWindlass_engines (s : State) (f : WindlassState → WindlassState) : (s.modWindlass f).engines = s.engines := rfl
@[simp] theorem State.modWindlass_mem (s : State) (f : WindlassState → WindlassState) : (s.modWindlass f).mem = s.mem := rfl
@[simp] theorem State.modWindlass_aq (s : State) (f : WindlassState → WindlassState) : (s.modWindlass f).aq = s.aq := rfl
@[simp] theorem State.modWindlass_pumps (s : State) (f : WindlassState → WindlassState) : (s.modWindlass f).pumps = s.pumps := rfl
@[simp] theorem State.modWindlass_filter (s : State) (f : WindlassState → WindlassState) : (s.modWindlass f).filter = s.filter := rfl
@[simp] theorem State.modWindlass_spout (s : State) (f : WindlassState → WindlassState) : (s.modWindlass f).spout = s.spout := rfl
@[simp] theorem State.modWindlass_sap (s : State) (f : WindlassState → WindlassState) : (s.modWindlass f).sap = s.sap := rfl
@[simp] theorem State.modWindlass_net (s : State) (f : WindlassState → WindlassState) : (s.modWindlass f).net = s.net := rfl
@[simp] theorem State.modWindlass_usb (s : State) (f : WindlassState → WindlassState) : (s.modWindlass f).usb = s.usb := rfl
@[simp] theorem State.modWindlass_timers (s : State) (f : WindlassState → WindlassState) : (s.modWindlass f).timers = s.timers := rfl
@[simp] theorem State.modWindlass_keybed (s : State) (f : WindlassState → WindlassState) : (s.modWindlass f).keybed = s.keybed := rfl
@[simp] theorem State.modWindlass_uarts (s : State) (f : WindlassState → WindlassState) : (s.modWindlass f).uarts = s.uarts := rfl
@[simp] theorem State.modWindlass_i2c (s : State) (f : WindlassState → WindlassState) : (s.modWindlass f).i2c = s.i2c := rfl
@[simp] theorem State.modWindlass_flash (s : State) (f : WindlassState → WindlassState) : (s.modWindlass f).flash = s.flash := rfl
@[simp] theorem State.modWindlass_windlass (s : State) (f : WindlassState → WindlassState) : (s.modWindlass f).windlass = f s.windlass := rfl
@[simp] theorem State.modWindlass_supply (s : State) (f : WindlassState → WindlassState) : (s.modWindlass f).supply = s.supply := rfl
@[simp] theorem State.modWindlass_pair (s : State) (f : WindlassState → WindlassState) : (s.modWindlass f).pair = s.pair := rfl
@[simp] theorem State.modWindlass_evs (s : State) (f : WindlassState → WindlassState) : (s.modWindlass f).evs = s.evs := rfl
@[simp] theorem State.modWindlass_obs (s : State) (f : WindlassState → WindlassState) : (s.modWindlass f).obs = s.obs := rfl
@[simp] theorem State.modWindlass_outs (s : State) (f : WindlassState → WindlassState) : (s.modWindlass f).outs = s.outs := rfl
@[simp] theorem State.modWindlass_free (s : State) (f : WindlassState → WindlassState) : (s.modWindlass f).free = s.free := rfl
@[simp] theorem State.modWindlass_pending (s : State) (f : WindlassState → WindlassState) : (s.modWindlass f).pending = s.pending := rfl
@[simp] theorem State.modSupply_dev (s : State) (f : SupplyState → SupplyState) : (s.modSupply f).dev = s.dev := rfl
@[simp] theorem State.modSupply_time (s : State) (f : SupplyState → SupplyState) : (s.modSupply f).time = s.time := rfl
@[simp] theorem State.modSupply_fuses (s : State) (f : SupplyState → SupplyState) : (s.modSupply f).fuses = s.fuses := rfl
@[simp] theorem State.modSupply_spawn (s : State) (f : SupplyState → SupplyState) : (s.modSupply f).spawn = s.spawn := rfl
@[simp] theorem State.modSupply_ten (s : State) (f : SupplyState → SupplyState) : (s.modSupply f).ten = s.ten := rfl
@[simp] theorem State.modSupply_deny (s : State) (f : SupplyState → SupplyState) : (s.modSupply f).deny = s.deny := rfl
@[simp] theorem State.modSupply_host (s : State) (f : SupplyState → SupplyState) : (s.modSupply f).host = s.host := rfl
@[simp] theorem State.modSupply_wells (s : State) (f : SupplyState → SupplyState) : (s.modSupply f).wells = s.wells := rfl
@[simp] theorem State.modSupply_qports (s : State) (f : SupplyState → SupplyState) : (s.modSupply f).qports = s.qports := rfl
@[simp] theorem State.modSupply_ops (s : State) (f : SupplyState → SupplyState) : (s.modSupply f).ops = s.ops := rfl
@[simp] theorem State.modSupply_front (s : State) (f : SupplyState → SupplyState) : (s.modSupply f).front = s.front := rfl
@[simp] theorem State.modSupply_pools (s : State) (f : SupplyState → SupplyState) : (s.modSupply f).pools = s.pools := rfl
@[simp] theorem State.modSupply_gills (s : State) (f : SupplyState → SupplyState) : (s.modSupply f).gills = s.gills := rfl
@[simp] theorem State.modSupply_myc (s : State) (f : SupplyState → SupplyState) : (s.modSupply f).myc = s.myc := rfl
@[simp] theorem State.modSupply_engines (s : State) (f : SupplyState → SupplyState) : (s.modSupply f).engines = s.engines := rfl
@[simp] theorem State.modSupply_mem (s : State) (f : SupplyState → SupplyState) : (s.modSupply f).mem = s.mem := rfl
@[simp] theorem State.modSupply_aq (s : State) (f : SupplyState → SupplyState) : (s.modSupply f).aq = s.aq := rfl
@[simp] theorem State.modSupply_pumps (s : State) (f : SupplyState → SupplyState) : (s.modSupply f).pumps = s.pumps := rfl
@[simp] theorem State.modSupply_filter (s : State) (f : SupplyState → SupplyState) : (s.modSupply f).filter = s.filter := rfl
@[simp] theorem State.modSupply_spout (s : State) (f : SupplyState → SupplyState) : (s.modSupply f).spout = s.spout := rfl
@[simp] theorem State.modSupply_sap (s : State) (f : SupplyState → SupplyState) : (s.modSupply f).sap = s.sap := rfl
@[simp] theorem State.modSupply_net (s : State) (f : SupplyState → SupplyState) : (s.modSupply f).net = s.net := rfl
@[simp] theorem State.modSupply_usb (s : State) (f : SupplyState → SupplyState) : (s.modSupply f).usb = s.usb := rfl
@[simp] theorem State.modSupply_timers (s : State) (f : SupplyState → SupplyState) : (s.modSupply f).timers = s.timers := rfl
@[simp] theorem State.modSupply_keybed (s : State) (f : SupplyState → SupplyState) : (s.modSupply f).keybed = s.keybed := rfl
@[simp] theorem State.modSupply_uarts (s : State) (f : SupplyState → SupplyState) : (s.modSupply f).uarts = s.uarts := rfl
@[simp] theorem State.modSupply_i2c (s : State) (f : SupplyState → SupplyState) : (s.modSupply f).i2c = s.i2c := rfl
@[simp] theorem State.modSupply_flash (s : State) (f : SupplyState → SupplyState) : (s.modSupply f).flash = s.flash := rfl
@[simp] theorem State.modSupply_windlass (s : State) (f : SupplyState → SupplyState) : (s.modSupply f).windlass = s.windlass := rfl
@[simp] theorem State.modSupply_supply (s : State) (f : SupplyState → SupplyState) : (s.modSupply f).supply = f s.supply := rfl
@[simp] theorem State.modSupply_pair (s : State) (f : SupplyState → SupplyState) : (s.modSupply f).pair = s.pair := rfl
@[simp] theorem State.modSupply_evs (s : State) (f : SupplyState → SupplyState) : (s.modSupply f).evs = s.evs := rfl
@[simp] theorem State.modSupply_obs (s : State) (f : SupplyState → SupplyState) : (s.modSupply f).obs = s.obs := rfl
@[simp] theorem State.modSupply_outs (s : State) (f : SupplyState → SupplyState) : (s.modSupply f).outs = s.outs := rfl
@[simp] theorem State.modSupply_free (s : State) (f : SupplyState → SupplyState) : (s.modSupply f).free = s.free := rfl
@[simp] theorem State.modSupply_pending (s : State) (f : SupplyState → SupplyState) : (s.modSupply f).pending = s.pending := rfl
@[simp] theorem State.modPair_dev (s : State) (f : PairState → PairState) : (s.modPair f).dev = s.dev := rfl
@[simp] theorem State.modPair_time (s : State) (f : PairState → PairState) : (s.modPair f).time = s.time := rfl
@[simp] theorem State.modPair_fuses (s : State) (f : PairState → PairState) : (s.modPair f).fuses = s.fuses := rfl
@[simp] theorem State.modPair_spawn (s : State) (f : PairState → PairState) : (s.modPair f).spawn = s.spawn := rfl
@[simp] theorem State.modPair_ten (s : State) (f : PairState → PairState) : (s.modPair f).ten = s.ten := rfl
@[simp] theorem State.modPair_deny (s : State) (f : PairState → PairState) : (s.modPair f).deny = s.deny := rfl
@[simp] theorem State.modPair_host (s : State) (f : PairState → PairState) : (s.modPair f).host = s.host := rfl
@[simp] theorem State.modPair_wells (s : State) (f : PairState → PairState) : (s.modPair f).wells = s.wells := rfl
@[simp] theorem State.modPair_qports (s : State) (f : PairState → PairState) : (s.modPair f).qports = s.qports := rfl
@[simp] theorem State.modPair_ops (s : State) (f : PairState → PairState) : (s.modPair f).ops = s.ops := rfl
@[simp] theorem State.modPair_front (s : State) (f : PairState → PairState) : (s.modPair f).front = s.front := rfl
@[simp] theorem State.modPair_pools (s : State) (f : PairState → PairState) : (s.modPair f).pools = s.pools := rfl
@[simp] theorem State.modPair_gills (s : State) (f : PairState → PairState) : (s.modPair f).gills = s.gills := rfl
@[simp] theorem State.modPair_myc (s : State) (f : PairState → PairState) : (s.modPair f).myc = s.myc := rfl
@[simp] theorem State.modPair_engines (s : State) (f : PairState → PairState) : (s.modPair f).engines = s.engines := rfl
@[simp] theorem State.modPair_mem (s : State) (f : PairState → PairState) : (s.modPair f).mem = s.mem := rfl
@[simp] theorem State.modPair_aq (s : State) (f : PairState → PairState) : (s.modPair f).aq = s.aq := rfl
@[simp] theorem State.modPair_pumps (s : State) (f : PairState → PairState) : (s.modPair f).pumps = s.pumps := rfl
@[simp] theorem State.modPair_filter (s : State) (f : PairState → PairState) : (s.modPair f).filter = s.filter := rfl
@[simp] theorem State.modPair_spout (s : State) (f : PairState → PairState) : (s.modPair f).spout = s.spout := rfl
@[simp] theorem State.modPair_sap (s : State) (f : PairState → PairState) : (s.modPair f).sap = s.sap := rfl
@[simp] theorem State.modPair_net (s : State) (f : PairState → PairState) : (s.modPair f).net = s.net := rfl
@[simp] theorem State.modPair_usb (s : State) (f : PairState → PairState) : (s.modPair f).usb = s.usb := rfl
@[simp] theorem State.modPair_timers (s : State) (f : PairState → PairState) : (s.modPair f).timers = s.timers := rfl
@[simp] theorem State.modPair_keybed (s : State) (f : PairState → PairState) : (s.modPair f).keybed = s.keybed := rfl
@[simp] theorem State.modPair_uarts (s : State) (f : PairState → PairState) : (s.modPair f).uarts = s.uarts := rfl
@[simp] theorem State.modPair_i2c (s : State) (f : PairState → PairState) : (s.modPair f).i2c = s.i2c := rfl
@[simp] theorem State.modPair_flash (s : State) (f : PairState → PairState) : (s.modPair f).flash = s.flash := rfl
@[simp] theorem State.modPair_windlass (s : State) (f : PairState → PairState) : (s.modPair f).windlass = s.windlass := rfl
@[simp] theorem State.modPair_supply (s : State) (f : PairState → PairState) : (s.modPair f).supply = s.supply := rfl
@[simp] theorem State.modPair_pair (s : State) (f : PairState → PairState) : (s.modPair f).pair = f s.pair := rfl
@[simp] theorem State.modPair_evs (s : State) (f : PairState → PairState) : (s.modPair f).evs = s.evs := rfl
@[simp] theorem State.modPair_obs (s : State) (f : PairState → PairState) : (s.modPair f).obs = s.obs := rfl
@[simp] theorem State.modPair_outs (s : State) (f : PairState → PairState) : (s.modPair f).outs = s.outs := rfl
@[simp] theorem State.modPair_free (s : State) (f : PairState → PairState) : (s.modPair f).free = s.free := rfl
@[simp] theorem State.modPair_pending (s : State) (f : PairState → PairState) : (s.modPair f).pending = s.pending := rfl
@[simp] theorem State.modEvs_dev (s : State) (f : EvsState → EvsState) : (s.modEvs f).dev = s.dev := rfl
@[simp] theorem State.modEvs_time (s : State) (f : EvsState → EvsState) : (s.modEvs f).time = s.time := rfl
@[simp] theorem State.modEvs_fuses (s : State) (f : EvsState → EvsState) : (s.modEvs f).fuses = s.fuses := rfl
@[simp] theorem State.modEvs_spawn (s : State) (f : EvsState → EvsState) : (s.modEvs f).spawn = s.spawn := rfl
@[simp] theorem State.modEvs_ten (s : State) (f : EvsState → EvsState) : (s.modEvs f).ten = s.ten := rfl
@[simp] theorem State.modEvs_deny (s : State) (f : EvsState → EvsState) : (s.modEvs f).deny = s.deny := rfl
@[simp] theorem State.modEvs_host (s : State) (f : EvsState → EvsState) : (s.modEvs f).host = s.host := rfl
@[simp] theorem State.modEvs_wells (s : State) (f : EvsState → EvsState) : (s.modEvs f).wells = s.wells := rfl
@[simp] theorem State.modEvs_qports (s : State) (f : EvsState → EvsState) : (s.modEvs f).qports = s.qports := rfl
@[simp] theorem State.modEvs_ops (s : State) (f : EvsState → EvsState) : (s.modEvs f).ops = s.ops := rfl
@[simp] theorem State.modEvs_front (s : State) (f : EvsState → EvsState) : (s.modEvs f).front = s.front := rfl
@[simp] theorem State.modEvs_pools (s : State) (f : EvsState → EvsState) : (s.modEvs f).pools = s.pools := rfl
@[simp] theorem State.modEvs_gills (s : State) (f : EvsState → EvsState) : (s.modEvs f).gills = s.gills := rfl
@[simp] theorem State.modEvs_myc (s : State) (f : EvsState → EvsState) : (s.modEvs f).myc = s.myc := rfl
@[simp] theorem State.modEvs_engines (s : State) (f : EvsState → EvsState) : (s.modEvs f).engines = s.engines := rfl
@[simp] theorem State.modEvs_mem (s : State) (f : EvsState → EvsState) : (s.modEvs f).mem = s.mem := rfl
@[simp] theorem State.modEvs_aq (s : State) (f : EvsState → EvsState) : (s.modEvs f).aq = s.aq := rfl
@[simp] theorem State.modEvs_pumps (s : State) (f : EvsState → EvsState) : (s.modEvs f).pumps = s.pumps := rfl
@[simp] theorem State.modEvs_filter (s : State) (f : EvsState → EvsState) : (s.modEvs f).filter = s.filter := rfl
@[simp] theorem State.modEvs_spout (s : State) (f : EvsState → EvsState) : (s.modEvs f).spout = s.spout := rfl
@[simp] theorem State.modEvs_sap (s : State) (f : EvsState → EvsState) : (s.modEvs f).sap = s.sap := rfl
@[simp] theorem State.modEvs_net (s : State) (f : EvsState → EvsState) : (s.modEvs f).net = s.net := rfl
@[simp] theorem State.modEvs_usb (s : State) (f : EvsState → EvsState) : (s.modEvs f).usb = s.usb := rfl
@[simp] theorem State.modEvs_timers (s : State) (f : EvsState → EvsState) : (s.modEvs f).timers = s.timers := rfl
@[simp] theorem State.modEvs_keybed (s : State) (f : EvsState → EvsState) : (s.modEvs f).keybed = s.keybed := rfl
@[simp] theorem State.modEvs_uarts (s : State) (f : EvsState → EvsState) : (s.modEvs f).uarts = s.uarts := rfl
@[simp] theorem State.modEvs_i2c (s : State) (f : EvsState → EvsState) : (s.modEvs f).i2c = s.i2c := rfl
@[simp] theorem State.modEvs_flash (s : State) (f : EvsState → EvsState) : (s.modEvs f).flash = s.flash := rfl
@[simp] theorem State.modEvs_windlass (s : State) (f : EvsState → EvsState) : (s.modEvs f).windlass = s.windlass := rfl
@[simp] theorem State.modEvs_supply (s : State) (f : EvsState → EvsState) : (s.modEvs f).supply = s.supply := rfl
@[simp] theorem State.modEvs_pair (s : State) (f : EvsState → EvsState) : (s.modEvs f).pair = s.pair := rfl
@[simp] theorem State.modEvs_evs (s : State) (f : EvsState → EvsState) : (s.modEvs f).evs = f s.evs := rfl
@[simp] theorem State.modEvs_obs (s : State) (f : EvsState → EvsState) : (s.modEvs f).obs = s.obs := rfl
@[simp] theorem State.modEvs_outs (s : State) (f : EvsState → EvsState) : (s.modEvs f).outs = s.outs := rfl
@[simp] theorem State.modEvs_free (s : State) (f : EvsState → EvsState) : (s.modEvs f).free = s.free := rfl
@[simp] theorem State.modEvs_pending (s : State) (f : EvsState → EvsState) : (s.modEvs f).pending = s.pending := rfl
@[simp] theorem State.modObs_dev (s : State) (f : ObsState → ObsState) : (s.modObs f).dev = s.dev := rfl
@[simp] theorem State.modObs_time (s : State) (f : ObsState → ObsState) : (s.modObs f).time = s.time := rfl
@[simp] theorem State.modObs_fuses (s : State) (f : ObsState → ObsState) : (s.modObs f).fuses = s.fuses := rfl
@[simp] theorem State.modObs_spawn (s : State) (f : ObsState → ObsState) : (s.modObs f).spawn = s.spawn := rfl
@[simp] theorem State.modObs_ten (s : State) (f : ObsState → ObsState) : (s.modObs f).ten = s.ten := rfl
@[simp] theorem State.modObs_deny (s : State) (f : ObsState → ObsState) : (s.modObs f).deny = s.deny := rfl
@[simp] theorem State.modObs_host (s : State) (f : ObsState → ObsState) : (s.modObs f).host = s.host := rfl
@[simp] theorem State.modObs_wells (s : State) (f : ObsState → ObsState) : (s.modObs f).wells = s.wells := rfl
@[simp] theorem State.modObs_qports (s : State) (f : ObsState → ObsState) : (s.modObs f).qports = s.qports := rfl
@[simp] theorem State.modObs_ops (s : State) (f : ObsState → ObsState) : (s.modObs f).ops = s.ops := rfl
@[simp] theorem State.modObs_front (s : State) (f : ObsState → ObsState) : (s.modObs f).front = s.front := rfl
@[simp] theorem State.modObs_pools (s : State) (f : ObsState → ObsState) : (s.modObs f).pools = s.pools := rfl
@[simp] theorem State.modObs_gills (s : State) (f : ObsState → ObsState) : (s.modObs f).gills = s.gills := rfl
@[simp] theorem State.modObs_myc (s : State) (f : ObsState → ObsState) : (s.modObs f).myc = s.myc := rfl
@[simp] theorem State.modObs_engines (s : State) (f : ObsState → ObsState) : (s.modObs f).engines = s.engines := rfl
@[simp] theorem State.modObs_mem (s : State) (f : ObsState → ObsState) : (s.modObs f).mem = s.mem := rfl
@[simp] theorem State.modObs_aq (s : State) (f : ObsState → ObsState) : (s.modObs f).aq = s.aq := rfl
@[simp] theorem State.modObs_pumps (s : State) (f : ObsState → ObsState) : (s.modObs f).pumps = s.pumps := rfl
@[simp] theorem State.modObs_filter (s : State) (f : ObsState → ObsState) : (s.modObs f).filter = s.filter := rfl
@[simp] theorem State.modObs_spout (s : State) (f : ObsState → ObsState) : (s.modObs f).spout = s.spout := rfl
@[simp] theorem State.modObs_sap (s : State) (f : ObsState → ObsState) : (s.modObs f).sap = s.sap := rfl
@[simp] theorem State.modObs_net (s : State) (f : ObsState → ObsState) : (s.modObs f).net = s.net := rfl
@[simp] theorem State.modObs_usb (s : State) (f : ObsState → ObsState) : (s.modObs f).usb = s.usb := rfl
@[simp] theorem State.modObs_timers (s : State) (f : ObsState → ObsState) : (s.modObs f).timers = s.timers := rfl
@[simp] theorem State.modObs_keybed (s : State) (f : ObsState → ObsState) : (s.modObs f).keybed = s.keybed := rfl
@[simp] theorem State.modObs_uarts (s : State) (f : ObsState → ObsState) : (s.modObs f).uarts = s.uarts := rfl
@[simp] theorem State.modObs_i2c (s : State) (f : ObsState → ObsState) : (s.modObs f).i2c = s.i2c := rfl
@[simp] theorem State.modObs_flash (s : State) (f : ObsState → ObsState) : (s.modObs f).flash = s.flash := rfl
@[simp] theorem State.modObs_windlass (s : State) (f : ObsState → ObsState) : (s.modObs f).windlass = s.windlass := rfl
@[simp] theorem State.modObs_supply (s : State) (f : ObsState → ObsState) : (s.modObs f).supply = s.supply := rfl
@[simp] theorem State.modObs_pair (s : State) (f : ObsState → ObsState) : (s.modObs f).pair = s.pair := rfl
@[simp] theorem State.modObs_evs (s : State) (f : ObsState → ObsState) : (s.modObs f).evs = s.evs := rfl
@[simp] theorem State.modObs_obs (s : State) (f : ObsState → ObsState) : (s.modObs f).obs = f s.obs := rfl
@[simp] theorem State.modObs_outs (s : State) (f : ObsState → ObsState) : (s.modObs f).outs = s.outs := rfl
@[simp] theorem State.modObs_free (s : State) (f : ObsState → ObsState) : (s.modObs f).free = s.free := rfl
@[simp] theorem State.modObs_pending (s : State) (f : ObsState → ObsState) : (s.modObs f).pending = s.pending := rfl
@[simp] theorem State.modOuts_dev (s : State) (f : List Output → List Output) : (s.modOuts f).dev = s.dev := rfl
@[simp] theorem State.modOuts_time (s : State) (f : List Output → List Output) : (s.modOuts f).time = s.time := rfl
@[simp] theorem State.modOuts_fuses (s : State) (f : List Output → List Output) : (s.modOuts f).fuses = s.fuses := rfl
@[simp] theorem State.modOuts_spawn (s : State) (f : List Output → List Output) : (s.modOuts f).spawn = s.spawn := rfl
@[simp] theorem State.modOuts_ten (s : State) (f : List Output → List Output) : (s.modOuts f).ten = s.ten := rfl
@[simp] theorem State.modOuts_deny (s : State) (f : List Output → List Output) : (s.modOuts f).deny = s.deny := rfl
@[simp] theorem State.modOuts_host (s : State) (f : List Output → List Output) : (s.modOuts f).host = s.host := rfl
@[simp] theorem State.modOuts_wells (s : State) (f : List Output → List Output) : (s.modOuts f).wells = s.wells := rfl
@[simp] theorem State.modOuts_qports (s : State) (f : List Output → List Output) : (s.modOuts f).qports = s.qports := rfl
@[simp] theorem State.modOuts_ops (s : State) (f : List Output → List Output) : (s.modOuts f).ops = s.ops := rfl
@[simp] theorem State.modOuts_front (s : State) (f : List Output → List Output) : (s.modOuts f).front = s.front := rfl
@[simp] theorem State.modOuts_pools (s : State) (f : List Output → List Output) : (s.modOuts f).pools = s.pools := rfl
@[simp] theorem State.modOuts_gills (s : State) (f : List Output → List Output) : (s.modOuts f).gills = s.gills := rfl
@[simp] theorem State.modOuts_myc (s : State) (f : List Output → List Output) : (s.modOuts f).myc = s.myc := rfl
@[simp] theorem State.modOuts_engines (s : State) (f : List Output → List Output) : (s.modOuts f).engines = s.engines := rfl
@[simp] theorem State.modOuts_mem (s : State) (f : List Output → List Output) : (s.modOuts f).mem = s.mem := rfl
@[simp] theorem State.modOuts_aq (s : State) (f : List Output → List Output) : (s.modOuts f).aq = s.aq := rfl
@[simp] theorem State.modOuts_pumps (s : State) (f : List Output → List Output) : (s.modOuts f).pumps = s.pumps := rfl
@[simp] theorem State.modOuts_filter (s : State) (f : List Output → List Output) : (s.modOuts f).filter = s.filter := rfl
@[simp] theorem State.modOuts_spout (s : State) (f : List Output → List Output) : (s.modOuts f).spout = s.spout := rfl
@[simp] theorem State.modOuts_sap (s : State) (f : List Output → List Output) : (s.modOuts f).sap = s.sap := rfl
@[simp] theorem State.modOuts_net (s : State) (f : List Output → List Output) : (s.modOuts f).net = s.net := rfl
@[simp] theorem State.modOuts_usb (s : State) (f : List Output → List Output) : (s.modOuts f).usb = s.usb := rfl
@[simp] theorem State.modOuts_timers (s : State) (f : List Output → List Output) : (s.modOuts f).timers = s.timers := rfl
@[simp] theorem State.modOuts_keybed (s : State) (f : List Output → List Output) : (s.modOuts f).keybed = s.keybed := rfl
@[simp] theorem State.modOuts_uarts (s : State) (f : List Output → List Output) : (s.modOuts f).uarts = s.uarts := rfl
@[simp] theorem State.modOuts_i2c (s : State) (f : List Output → List Output) : (s.modOuts f).i2c = s.i2c := rfl
@[simp] theorem State.modOuts_flash (s : State) (f : List Output → List Output) : (s.modOuts f).flash = s.flash := rfl
@[simp] theorem State.modOuts_windlass (s : State) (f : List Output → List Output) : (s.modOuts f).windlass = s.windlass := rfl
@[simp] theorem State.modOuts_supply (s : State) (f : List Output → List Output) : (s.modOuts f).supply = s.supply := rfl
@[simp] theorem State.modOuts_pair (s : State) (f : List Output → List Output) : (s.modOuts f).pair = s.pair := rfl
@[simp] theorem State.modOuts_evs (s : State) (f : List Output → List Output) : (s.modOuts f).evs = s.evs := rfl
@[simp] theorem State.modOuts_obs (s : State) (f : List Output → List Output) : (s.modOuts f).obs = s.obs := rfl
@[simp] theorem State.modOuts_outs (s : State) (f : List Output → List Output) : (s.modOuts f).outs = f s.outs := rfl
@[simp] theorem State.modOuts_free (s : State) (f : List Output → List Output) : (s.modOuts f).free = s.free := rfl
@[simp] theorem State.modOuts_pending (s : State) (f : List Output → List Output) : (s.modOuts f).pending = s.pending := rfl
@[simp] theorem State.modFree_dev (s : State) (f : Nat → Nat) : (s.modFree f).dev = s.dev := rfl
@[simp] theorem State.modFree_time (s : State) (f : Nat → Nat) : (s.modFree f).time = s.time := rfl
@[simp] theorem State.modFree_fuses (s : State) (f : Nat → Nat) : (s.modFree f).fuses = s.fuses := rfl
@[simp] theorem State.modFree_spawn (s : State) (f : Nat → Nat) : (s.modFree f).spawn = s.spawn := rfl
@[simp] theorem State.modFree_ten (s : State) (f : Nat → Nat) : (s.modFree f).ten = s.ten := rfl
@[simp] theorem State.modFree_deny (s : State) (f : Nat → Nat) : (s.modFree f).deny = s.deny := rfl
@[simp] theorem State.modFree_host (s : State) (f : Nat → Nat) : (s.modFree f).host = s.host := rfl
@[simp] theorem State.modFree_wells (s : State) (f : Nat → Nat) : (s.modFree f).wells = s.wells := rfl
@[simp] theorem State.modFree_qports (s : State) (f : Nat → Nat) : (s.modFree f).qports = s.qports := rfl
@[simp] theorem State.modFree_ops (s : State) (f : Nat → Nat) : (s.modFree f).ops = s.ops := rfl
@[simp] theorem State.modFree_front (s : State) (f : Nat → Nat) : (s.modFree f).front = s.front := rfl
@[simp] theorem State.modFree_pools (s : State) (f : Nat → Nat) : (s.modFree f).pools = s.pools := rfl
@[simp] theorem State.modFree_gills (s : State) (f : Nat → Nat) : (s.modFree f).gills = s.gills := rfl
@[simp] theorem State.modFree_myc (s : State) (f : Nat → Nat) : (s.modFree f).myc = s.myc := rfl
@[simp] theorem State.modFree_engines (s : State) (f : Nat → Nat) : (s.modFree f).engines = s.engines := rfl
@[simp] theorem State.modFree_mem (s : State) (f : Nat → Nat) : (s.modFree f).mem = s.mem := rfl
@[simp] theorem State.modFree_aq (s : State) (f : Nat → Nat) : (s.modFree f).aq = s.aq := rfl
@[simp] theorem State.modFree_pumps (s : State) (f : Nat → Nat) : (s.modFree f).pumps = s.pumps := rfl
@[simp] theorem State.modFree_filter (s : State) (f : Nat → Nat) : (s.modFree f).filter = s.filter := rfl
@[simp] theorem State.modFree_spout (s : State) (f : Nat → Nat) : (s.modFree f).spout = s.spout := rfl
@[simp] theorem State.modFree_sap (s : State) (f : Nat → Nat) : (s.modFree f).sap = s.sap := rfl
@[simp] theorem State.modFree_net (s : State) (f : Nat → Nat) : (s.modFree f).net = s.net := rfl
@[simp] theorem State.modFree_usb (s : State) (f : Nat → Nat) : (s.modFree f).usb = s.usb := rfl
@[simp] theorem State.modFree_timers (s : State) (f : Nat → Nat) : (s.modFree f).timers = s.timers := rfl
@[simp] theorem State.modFree_keybed (s : State) (f : Nat → Nat) : (s.modFree f).keybed = s.keybed := rfl
@[simp] theorem State.modFree_uarts (s : State) (f : Nat → Nat) : (s.modFree f).uarts = s.uarts := rfl
@[simp] theorem State.modFree_i2c (s : State) (f : Nat → Nat) : (s.modFree f).i2c = s.i2c := rfl
@[simp] theorem State.modFree_flash (s : State) (f : Nat → Nat) : (s.modFree f).flash = s.flash := rfl
@[simp] theorem State.modFree_windlass (s : State) (f : Nat → Nat) : (s.modFree f).windlass = s.windlass := rfl
@[simp] theorem State.modFree_supply (s : State) (f : Nat → Nat) : (s.modFree f).supply = s.supply := rfl
@[simp] theorem State.modFree_pair (s : State) (f : Nat → Nat) : (s.modFree f).pair = s.pair := rfl
@[simp] theorem State.modFree_evs (s : State) (f : Nat → Nat) : (s.modFree f).evs = s.evs := rfl
@[simp] theorem State.modFree_obs (s : State) (f : Nat → Nat) : (s.modFree f).obs = s.obs := rfl
@[simp] theorem State.modFree_outs (s : State) (f : Nat → Nat) : (s.modFree f).outs = s.outs := rfl
@[simp] theorem State.modFree_free (s : State) (f : Nat → Nat) : (s.modFree f).free = f s.free := rfl
@[simp] theorem State.modFree_pending (s : State) (f : Nat → Nat) : (s.modFree f).pending = s.pending := rfl

end Sys2Proof.Machine
end

