-- ==== Sys2Proof/Machine/Balls.lean ====
section
/-! DEFINITION. The signal balls (chapter 19): the reset state of each, when the configuration takes a ball over, and the level that the device then
drives on it. They are read from State and hold nothing of their own (log entry 7). -/

namespace Sys2Proof.Machine

/-- The reset states of Table 2: high impedance without, with a pull-up, with a pull-down; input; driven low, driven high; analogue. -/
inductive BallReset where
  | z | zu | zd | i | l | h | a
deriving DecidableEq, Repr, Inhabited

/-- Whether a ball index lies in one of some runs, first and last of each. -/
def inRuns (l : List (Nat × Nat)) (i : Nat) : Bool := l.any (fun r => decide (r.1 ≤ i) && decide (i ≤ r.2))

/-- The balls with a pull-up at reset (Tables 3 to 5). -/
def pullUpBalls : List (Nat × Nat) := [
  (20, 21), (125, 128), (135, 138), (129, 130), (139, 140), (159, 160), (169, 170), (189, 190), (199, 200), (219, 220),
  (229, 230)] ++ [
  (182, 182), (185, 188), (195, 198), (205, 208), (215, 218), (211, 211), (318, 320), (342, 342), (389, 391)]

/-- The balls with a pull-down at reset; of a serial port BCLK, FS and DI. -/
def pullDownBalls : List (Nat × Nat) := [
  (18, 18), (99, 99), (123, 124), (141, 144), (153, 154), (171, 174), (204, 204), (213, 214), (241, 243), (249, 251), (257, 259),
  (265, 267)] ++ [
  (273, 275), (281, 283), (289, 291), (313, 315), (343, 345), (388, 388), (410, 410)]

/-- The balls driven low at reset. -/
def lowBalls : List (Nat × Nat) := [
  (62, 63), (66, 66), (89, 90), (97, 97), (100, 100), (121, 122), (131, 134), (151, 152), (161, 164), (181, 181), (203, 203)] ++ [
  (338, 341), (363, 366), (367, 370), (387, 387)]

/-- The reset state of a signal ball (R434). -/
def ballReset (i : Nat) : BallReset :=
  if analogBall i then .a
  else if inRuns pullUpBalls i then .zu
  else if inRuns pullDownBalls i then .zd
  else if inRuns lowBalls i then .l
  else if i = 98 then .h
  else if i = 317 then .i
  else .z

/-- What a ball does: its reset state, a level that the device drives, an input that it reads, or the signal of its block, whose chapter states it. -/
inductive Ball where
  | reset (r : BallReset)
  | drives (level : Bool)
  | input
  | block
deriving DecidableEq, Repr, Inhabited

/-- The balls that act as their own chapters state from the entry to LOADING on (R435): boot flash, PCIe, xSPI target, aquifer, crystals, TAP, and the
reset, boot, wake, power-fail and tamper inputs. -/
def earlyBalls : List (Nat × Nat) := [
  (0, 100), (125, 128), (135, 138), (317, 320), (342, 345), (388, 390), (409, 410)]

/-- The balls that act as their chapters state in dormancy (R438): PORST_N, RESET_N, WAKE_N, PFAIL_N, TAMPER_N, PCIe and USB, and the TAP, which works in
every state but OFF (R428). -/
def dormantBalls : List (Nat × Nat) := [
  (0, 1), (22, 24), (45, 47), (72, 74), (183, 184), (191, 192), (317, 320), (342, 342), (388, 390), (409, 410)]

/-- The boot-flash balls while RELEASE is set (R373): high impedance, FL_CS_N with its pull-up, FL_RST_N high. -/
def flashReleased (i : Nat) : Ball := if i = 100 then .drives true else if i = 98 then .reset .zu else .reset .z

/-- A GP ball with its PIN_FUNC function (Table 6): a timer channel with a TIMER record, whose mode sets the direction, PARK_ACK, or none. -/
def State.gpLevel (s : State) (i : Nat) : Ball :=
  match s.cfg.dev.pins.find? (fun r => r.ball == i) with
  | none => .reset .z
  | some r =>
    if r.func = 0x61 then .drives s.supply.parkAck
    else if r.func = 0 ∨ 0x61 < r.func then .reset .z
    else
      let u := (r.func - 1) / 4
      let k := (r.func - 1) % 4
      let x := s.tchan u k
      if (s.timerRec u k).isNone || !x.started || x.mode = 0 then .reset .z
      else if x.mode ≤ 2 then .input
      else .drives x.pin

/-- The port and role of a character-port ball: 0 TX, 1 RX, 2 AUX. -/
def uartBall (i : Nat) : Option (Nat × Nat) :=
  (List.range 8).findSome? (fun n =>
    let base := if n < 4 then 129 + 30 * n else 130 + 30 * (n - 4)
    if i = base then some (n, 0) else if i = base + 10 then some (n, 1) else if i = base + 20 then some (n, 2) else none)

/-- A character-port ball: a port without a UART record keeps its reset state (R361). -/
def State.uartLevel (s : State) (i n role : Nat) : Ball :=
  match s.uartMode n with
  | none => .reset (ballReset i)
  | some m => if role = 2 then .drives (s.uartAuxLevel n m) else .block

/-- The network port whose RGMII outputs hold a ball. -/
def rgmiiBall (i : Nat) : Option Nat :=
  if inRuns [(121, 122), (131, 134)] i then some 0 else if inRuns [(151, 152), (161, 164)] i then some 1 else none

/-- The port and role of a serial audio ball: 0 BCLK, 1 FS, 2 DI, 3 DO. -/
def sapBallOf (i : Nat) : Option (Nat × Nat) :=
  if 313 ≤ i ∧ i ≤ 316 then some (7, i - 313)
  else if 241 ≤ i ∧ i ≤ 292 ∧ (i - 241) % 8 < 4 then some ((i - 241) / 8, (i - 241) % 8)
  else none

/-- A serial audio ball. -/
def State.sapLevel (s : State) (i p role : Nat) : Ball :=
  if !(s.sap.get p).en then .reset (ballReset i)
  else if role = 2 then .block
  else if role = 3 then (if (s.sapBall p).isSome then .block else .reset .z)
  else if sapTarget (s.sap.get p).cfg then .block
  else if s.sapClocks p then .block else .reset (ballReset i)

/-- The stage-pair pins (Table 1 of chapter 17): SP_OWN_OUT is the request, low outside RUNNING; a referee drives SP_SEL. -/
def State.pairLevel (s : State) (i : Nat) : Ball :=
  if i = 203 then (if s.role == .referee then .input else .drives (s.pairRuns && s.pair.req))
  else if i = 211 then (if s.role == .referee then .drives s.pair.selOut else .input)
  else if i = 212 then (if s.inPair && s.follows then .block else .input)
  else if i = 213 then (if s.inPair && !s.follows then .block else .input)
  else .input

/-- The trace balls. -/
def traceBall (i : Nat) : Bool := inRuns [(338, 341), (363, 366), (387, 387)] i

/-- The keybed drive line of a ball. -/
def driveBall (i : Nat) : Bool := inRuns [(145, 148), (155, 158), (165, 168), (175, 178)] i

/-- A ball under the applied configuration (R435, R438). -/
def State.appliedBall (s : State) (i : Nat) : Ball :=
  if gpBall i then s.gpLevel i
  else if 367 ≤ i ∧ i ≤ 370 then .drives (s.evtOut (i - 367))
  else if traceBall i then (if s.cfg.dev.traceOn then .block else .drives false)
  else if driveBall i then (if s.keybedRec.isSome && s.keybed.en then .block else .reset .z)
  else if 203 ≤ i ∧ i ≤ 204 ∨ 211 ≤ i ∧ i ≤ 213 then s.pairLevel i
  else match uartBall i, rgmiiBall i, sapBallOf i with
    | some (n, role), _, _ => s.uartLevel i n role
    | none, some p, _ => if (s.portRec p).isSome then .block else .drives false
    | none, none, some (p, role) => s.sapLevel i p role
    | none, none, none => .block

/-- Whether a dormant port's receiver keeps a ball live: its record's wake bit and its bit of CLOCK_WAKE_EN (R368). -/
def State.wakesBall (s : State) (i : Nat) : Bool :=
  match uartBall i with
  | some (n, 1) => s.dev.wakeEn.getLsbD n && (match s.uartRec n with
    | some (_, r) => r.wake
    | none => false)
  | _ => false

/-- A ball in dormancy (R438). -/
def State.dormantBall (s : State) (i : Nat) : Ball :=
  if inRuns dormantBalls i then .block
  else if s.wakesBall i then .input
  else if driveBall i then (if s.dev.wakeEn.getLsbD 8 then .drives false else .reset .z)
  else if 367 ≤ i ∧ i ≤ 370 then .drives false
  else if gpBall i then
    match s.gpLevel i with
    | .drives level => .drives (level && !s.cfg.dev.pins.any (fun r => r.ball == i && r.func == 0x61))
    | _ => .reset .z
  else .reset (ballReset i)

/-- Ball i of the device (R435, R438): its reset state until the first frame boundary after LOADING, but for the balls whose blocks act before. -/
def State.ball (s : State) (i : Nat) : Ball :=
  match s.dev.phase with
  | .off => .reset (ballReset i)
  | .aon | .loading | .unspawned => if inRuns earlyBalls i then .block else .reset (ballReset i)
  | .dormantK | .dormantL => s.dormantBall i
  | .running | .parked | .safe =>
    if s.flash.released && (inRuns [(97, 100), (125, 128), (135, 138)] i) then flashReleased i
    else if inRuns earlyBalls i then .block
    else s.appliedBall i

end Sys2Proof.Machine
end

