-- ==== Sys2Proof/Tests/Slice0.lean ====
section
/-! SUPPORT. The model's own tests: ill-formed commands that the check refuses, words and examples that the manual writes out, and for each
statement with hypotheses a state and operands that meet them, clause by clause. The states are built from reset and from one small
configuration, in which tenancy 0 holds an instance of everything and tenancy 1 nothing. -/

set_option Elab.async false

namespace Sys2Proof.Tests

open Sys2Proof.Machine

/-! ### States for the tests -/

/-- One instance of every peripheral class for tenancy 0. -/
def ownT : OwnRec :=
  { gills := 3, cisterns := 3, pumps := 3, engines := 1, name := [], permitClass := 2,
    periph := [(1, 0), (1, 1), (1, 2), (1, 3), (2, 0), (3, 0), (3, 1), (4, 0), (5, 0), (6, 0), (7, 0), (8, 0), (9, 0), (10, 0), (11, 0),
      (12, 0), (13, 0)] }

/-- A structure of one oscillator and one amplifier, on gill 0 and 1. -/
def structT : StructRec :=
  { id := 0, slots := 2, gills := 3, elems := [⟨.blep, 0⟩, ⟨.amp, 0⟩],
    conns := [⟨1, 0, [(0, 0)]⟩], params := [] }

/-- Five wells: EVT 0, CMD 1, CPL 2, PKT 3 and STRM 4. -/
def wellsT : List WellRec :=
  [⟨0, .evt, 6, 0x1000⟩, ⟨1, .cmd, 6, 0x2000⟩, ⟨2, .cpl, 6, 0x3000⟩, ⟨3, .pkt, 6, 0x4000⟩, ⟨4, .strm, 6, 0x5000⟩]

/-- Character ports: MIDI, PANEL9, ASYNC and CARD. -/
def uartsT : List UartRec :=
  [⟨0, .midi, true, false, 1, 31250, 0⟩, ⟨1, .panel9, false, false, 2, 9600, 5⟩, ⟨2, .async, false, false, 8, 9600, 0⟩,
    ⟨3, .card, false, false, 1, 9600, 0⟩]

/-- Tenancy 0 of the tests. -/
def tenT : TenancyCfg :=
  { TenancyCfg.default with
    own := ownT, structs := [structT], wells := wellsT, uarts := uartsT, i2cs := [⟨0, 0, 0⟩]
    forager := { pools := [⟨0, .poly, 1, .oldest, false, false, .last, 0, 3⟩], tunings := [], velcurves := [] }
    pumps := [⟨0, 4, none, true, 0x8000⟩], channels := [⟨0, 0, false, false⟩], keybed := some ⟨61, 36, 0, 0⟩
    cisterns := { regions := [⟨0, true, false, 0x10000, 0x1000⟩], sealedRec := some ⟨4096, 0, 2⟩ }
    timers := [⟨0, 0, .compare, 0, 100⟩], streams := [⟨false, 0, 0, 2, 0#64, 0, 0⟩, ⟨true, 0, 0, 2, 0#64, 0, 0⟩]
    routes := [⟨0, 1, 255, false, 0xFFFF, 0⟩] }

/-- The configuration of the tests: tenancies 0 and 1 at 48 kHz. -/
def cfgT : AppliedCfg :=
  { AppliedCfg.empty with
    dev := { DeviceCfg.default with fs := 1, present := 3, usbPresent := true, ports := [⟨0, 0, 0, 248⟩] }
    ten := AppliedCfg.empty.ten.put 0 tenT }

/-- The device in RUNNING with the test configuration. -/
def run : State :=
  ((((State.reset.modDev fun d => { d with phase := .running, xaGood := true, coreLock := true, audLock := true }).modSpawn fun p =>
    { p with active := cfgT }).modTen fun b => (b.upd 0 fun x => { x with spawned := true }).upd 1 fun x => { x with spawned := true }).modTime
      fun t => { t with framesRun := true }).modMem fun m => { m with
        banks := (m.banks.upd 0 fun b => { b with owner := some 0 }).upd 1 fun b => { b with owner := some 0 } }

/-- The device in a state. -/
def inPhase (p : DevPhase) (s : State) : State := s.modDev fun d => { d with phase := p }

/-- The configuration of the device changed. -/
def withDev (f : DeviceCfg → DeviceCfg) (s : State) : State := s.modSpawn fun p => { p with active := { p.active with dev := f p.active.dev } }

/-- The configuration of tenancy 0 changed. -/
def withTen (f : TenancyCfg → TenancyCfg) (s : State) : State :=
  s.modSpawn fun p => { p with active := { p.active with ten := p.active.ten.upd 0 f } }

/-- The state that a command leaves. -/
def after (c : Instr) (s : State) : State :=
  match exec c s with
  | .next t => t
  | _ => s

/-- In the test device every event source is masked. -/
theorem run_quiet : Claim.quiet run := by
  intro i hi
  show (EvsState.reset.src.get i).mask = true
  simp [EvsState.reset, hi, Source.reset]

/-! ### Ill-formed commands -/

theorem test_illformed_windows :
    (Instr.rcRead 0 0x1000000).wellFormed = false ∧ (Instr.registerWrite 0 0x1000000 0#32).wellFormed = false ∧
    (Instr.pcieMemoryRequest 0 .bar2 0x4000000 (.read 1)).wellFormed = false ∧ (Instr.pcieMemoryRequest 0 .bar0 0 (.read 0)).wellFormed = false ∧
    (Instr.pcieMemoryRequest 0 .bar0 0 (.read 1025)).wellFormed = false ∧ (Instr.pcieMemoryRequest 0 .bar0 0 (.write [])).wellFormed = false ∧
    (Instr.bar2Write 0 0x4000000 [0#8]).wellFormed = false ∧ (Instr.bar2Write 0 0 []).wellFormed = false ∧
    (Instr.poisonedWrite 0 0x1000000).wellFormed = false ∧ (Instr.startup 0 true true 8193).wellFormed = false := by decide

theorem test_illformed_images :
    (Instr.fullSpawnLoad (.flash (some [0#32]) none none)).wellFormed = false ∧
    (Instr.fullSpawnLoad (.flash (some (List.replicate 8 0#32)) (some [1#32]) none)).wellFormed = true := by decide

theorem test_illformed_xspi :
    (Instr.xspiRead ⟨0, 0xE2#8, 0x1D#8⟩ 0#32 [false]).wellFormed = false ∧ (Instr.xspiRead ⟨0, 0xE1#8, 0x1E#8⟩ 2#32 [false]).wellFormed = false ∧
    (Instr.xspiRead ⟨0, 0xE1#8, 0x1E#8⟩ 0#32 []).wellFormed = false ∧ (Instr.xspiWrite ⟨0, 0xE2#8, 0x1D#8⟩ 0#32 []).wellFormed = false ∧
    (Instr.xspiStatus ⟨0, 0xE1#8, 0#8⟩).wellFormed = false ∧ (Instr.setConfig ⟨0, 0xE5#8, 0#8⟩ 0#32).wellFormed = false ∧
    (Instr.interfaceReset ⟨0, 0xE5#8, 0#8⟩).wellFormed = false ∧ (Instr.interfaceReset ⟨1, 0xEF#8, 0x10#8⟩).wellFormed = true := by decide

theorem test_illformed_engine_words :
    (Instr.add 0 ⟨1#5, 2#5, 3#5, 1#9⟩).wellFormed = false ∧ (Instr.sporeApply 0 ⟨0#5, 0#5, 0#5, 0#5, 0#5, 1#1, 0#3⟩).wellFormed = false ∧
    (Instr.vadd 0 ⟨some 0#32, 1#5, 2#5, 3#5, 0#5, 0#3⟩).wellFormed = false ∧
    (Instr.vsqrt 0 ⟨some 0#32, 1#5, 2#5, 0#5, 0#5, 0#3⟩).wellFormed = false ∧
    (Instr.vadd 0 ⟨some 0#32, 1#5, 2#5, 0#5, 0#5, 0#3⟩).wellFormed = true := by decide

theorem test_illformed_memory_and_ports :
    (Instr.directoryGets 0 0x200000000).wellFormed = false ∧ (Instr.directoryGetm 0 0x200000000).wellFormed = false ∧
    (Instr.directoryPutm 0 0x200000000).wellFormed = false ∧ (Instr.pumpCoherentRead 0 0x200000000).wellFormed = false ∧
    (Instr.pumpCoherentWrite 0 60 (List.replicate 8 0#8)).wellFormed = false ∧
    (Instr.rxFrame 0 ⟨[0#8], true, 0#64⟩).wellFormed = false ∧ (Instr.crfPduRx ⟨0#64, 1, 0, []⟩).wellFormed = false ∧
    (Instr.listenerPacket 0 { (default : AafPacket) with channels := 9 }).wellFormed = false ∧
    (Instr.usbOutData []).wellFormed = false ∧ (Instr.usbOutData (List.replicate 129 0#32)).wellFormed = false ∧
    (Instr.i2cEntryDone 0 (.nack 256)).wellFormed = false ∧ (Instr.tmonSample []).wellFormed = false ∧
    (Instr.vmonSample []).wellFormed = false ∧ (Instr.pmonSample []).wellFormed = false ∧
    (Instr.samplePacket ⟨⟨true, 0#16⟩, []⟩).wellFormed = false ∧ (Instr.eventPacket ⟨⟨true, 0#16⟩, [], 0#64⟩).wellFormed = false ∧
    (Instr.mirrorPacket ⟨⟨true, 0#16⟩, 0, 0, []⟩).wellFormed = false ∧
    (Instr.mirrorPacket ⟨⟨true, 0#16⟩, 0, 2097120, List.replicate 64 0#8⟩).wellFormed = false ∧ (Instr.tapSample []).wellFormed = false := by decide +kernel

theorem test_illformed_usb_requests :
    (Instr.getDescriptor ⟨0x00#8, 6#8, 0#16, 0#16, 0#16⟩).wellFormed = false ∧ (Instr.setAddress ⟨0x80#8, 5#8, 0#16, 0#16, 0#16⟩).wellFormed = false ∧
    (Instr.setConfiguration ⟨0x20#8, 9#8, 0#16, 0#16, 0#16⟩).wellFormed = false ∧
    (Instr.getConfiguration ⟨0x80#8, 9#8, 0#16, 0#16, 0#16⟩).wellFormed = false ∧
    (Instr.setInterface ⟨0x80#8, 11#8, 0#16, 0#16, 0#16⟩).wellFormed = false ∧ (Instr.getInterface ⟨0x00#8, 10#8, 0#16, 0#16, 0#16⟩).wellFormed = false ∧
    (Instr.getStatus ⟨0x00#8, 0#8, 0#16, 0#16, 0#16⟩).wellFormed = false ∧ (Instr.setFeature ⟨0x00#8, 1#8, 0#16, 0#16, 0#16⟩).wellFormed = false ∧
    (Instr.clearFeature ⟨0x00#8, 3#8, 0#16, 0#16, 0#16⟩).wellFormed = false ∧
    (Instr.usbUnsupportedRequest ⟨0x80#8, 6#8, 0#16, 0#16, 0#16⟩).wellFormed = false ∧
    (Instr.usbUnsupportedRequest ⟨0x21#8, 9#8, 0#16, 0#16, 0#16⟩).wellFormed = true := by decide

/-! ### The queue and the invariants -/

theorem test_step_takes_front : step (run.withPending [.idlePacket, .tapIdcode]) = exec .idlePacket (run.withPending [.tapIdcode]) := rfl

theorem witness_MemoriesKeepCanonicalForm :
    let s := run.modMem fun m => { m with cis := [(3, 7#8), (5, 1#8)] }
    (s.mem.cis.wf = true ∧ s.mem.aq.wf = true ∧ s.mem.sealedData.wf = true) ∧ (run.withPending [.idlePacket]).pending ≠ [] := by decide +kernel

theorem witness_StepRunsFrontCommand : run.pending = [] ∧ (run.withPending [.idlePacket]).pending = [.idlePacket] := by decide

theorem witness_FuseStateOnlyAdvances : step (run.withPending [.tapBypass]) = exec .tapBypass run ∧
    (match step (run.withPending [.tapBypass]) with
    | .next t => t.fuses.lc.code
    | _ => 0) = run.fuses.lc.code := ⟨rfl, by decide +kernel⟩

theorem test_memory_form_refused : Memory.wf [(5, 1#8), (3, 7#8)] = false ∧ Memory.wf [(3, 0#8)] = false := by decide

/-! ### Life of the device (chapters 01 to 04) -/

/-- LOADING with the test configuration in the pending bank, its trough copies done and the audio PLL locked. -/
def loading : State :=
  (inPhase .loading (State.reset.modDev fun d => { d with audLock := true })).modSpawn fun p =>
    { p with phase := 1#2, pend := some cfgT, troughsDone := true }

theorem witness_ResetsLeave :
    (run.dev.phase ≠ .off ∧ run.dev.phase ≠ .aon) ∧ run.opens .clock = true ∧ (0#32 : Word) ≠ 0xA5C3#32 ∧
    (run.modHost fun h => { h with linkUp := true }).pcieServed = true ∧ State.reset.dev.phase = .off ∧
    (inPhase .aon State.reset).dev.phase = .aon := by decide

theorem witness_StateChangesOnlyOnTriggers : (after .porstNAssert run).dev.phase = .off ∧ run.dev.phase = .running := by decide

theorem test_steward_reset : (after (.stewardReset 0 0xA5C3#32) run).dev.phase = .loading ∧ (after (.stewardReset 0 0xA5C2#32) run).dev.phase = .running := by
  decide +kernel

theorem witness_FullSpawnSteps_start :
    (inPhase .unspawned run).opens .spawn = true ∧ (1#32).getLsbD 0 = true ∧ (inPhase .unspawned run).dev.phase = .unspawned := by decide

theorem witness_FullSpawnSteps_words :
    let s := (inPhase .loading State.reset).modSpawn fun p => { p with phase := 1#2, delivering := true }
    (s.opens .spawn = true ∧ s.spawn.delivering = true ∧ s.spawn.full = false) ∧
    ((s.modSpawn fun p => { p with count := 2, words := [16#32, 0#32] }).spawn.delivering = true) ∧
    s.dev.phase = .loading ∧ s.spawn.pend = none ∧ s.spawn.phase = 1#2 := by decide

theorem witness_FullSpawnSteps_applied :
    let s := loading.modSpawn fun p => { p with troughsDone := false }
    s.dev.phase = .loading ∧ s.spawn.pend = some cfgT ∧ s.spawn.troughsDone = false ∧ (cfgT.ten.toList.any fun x => s.copiesBad x) = false := by
  decide

theorem witness_FullSpawnSteps_pll :
    let b := { cfgT with dev := { cfgT.dev with fs := 0 } }
    let s := loading.modSpawn fun p => { p with pend := some b }
    (s.dev.phase = .loading ∧ s.spawn.pend = some b ∧ fsFamilyB b.dev.fs = true ∧ s.dev.xbFitted = false) ∧ fsFamilyB cfgT.dev.fs = false := by decide

theorem witness_FullSpawnSteps_frame :
    loading.dev.phase = .loading ∧ loading.spawn.pend = some cfgT ∧ loading.spawn.troughsDone = true ∧ loading.dev.audLock = true ∧
    loading.mem.sealWiping = false ∧ (loading.modPair fun p => { p with sel := true, ownIn := false }).startsFollower = false := by decide

theorem witness_HaltAndLifecycle_halt :
    run.opens .tenancy = true ∧ (1#32).getLsbD 0 = true ∧ (run.ten.get 1).halt = none ∧ run.seen 1 = true ∧ (1 : Fin 8) ≠ 0 ∧
    let h : Halt := { started := true, fadeLeft := 0, waits := [] }
    let s := run.modTen fun b => b.upd 1 fun x => { x with halt := some h }
    (s.ten.get 1).halt = some h ∧ s.tenBusy 1 = false := by decide

theorem witness_HaltAndLifecycle_lc :
    run.lcAccepts 0x4C430005#32 = some (.lifecycle .develop) ∧ run.lcAccepts 0x4C430002#32 = some .keyHash ∧ run.lcAccepts 0x4C420005#32 = none ∧
    run.lcAccepts 0x4C430001#32 = none ∧ (run.modFuses fun f => { f with keyHash := some [] }).lcAccepts 0x4C430002#32 = none ∧
    (run.modFuses fun f => { f with job := some .keyHash }).lcAccepts 0x4C430005#32 = none ∧ (inPhase .parked run).lcAccepts 0x4C430005#32 = none := by
  decide

theorem witness_HaltAndLifecycle_done :
    (run.modFuses fun f => { f with job := some (.lifecycle .retired) }).fuses.job = some (.lifecycle .retired) ∧
    (run.modFuses fun f => { f with job := some .keyHash }).fuses.job = some .keyHash := by decide

theorem witness_ClockReadsAndDividers_latches :
    run.opens .clock = true ∧ run.seen 0 = true ∧ run.seen 1 = true ∧ run.engineOwner 0 = some 0 ∧
    let s := run.modDev fun d => { d with trfdiv := d.trfdiv.put 0 { div := 0#2, request := some 3#2 } }
    s.dev.phase = .running ∧ (s.dev.trfdiv.get 0).request = some 3#2 ∧ (s.engine 0).run = .idle ∧ (s.engine 0).jobHandle = none ∧
      (s.engine 0).queue = [] := by decide

theorem witness_ClockReadsAndDividers_clocks :
    let m := withDev (fun d => { d with clock := 2 }) run
    (m.mediaPort.isSome = true ∧ m.dev.clamp = false ∧ m.dev.holdover = false) ∧ run.watches .xa = true ∧
    ((run.modDev fun d => { d with crystalLost := true }).watches .xa = true) ∧ run.dev.phase ≠ .off ∧ run.dev.phase ≠ .aon := by decide

/-- RUNNING with every wake source enabled. -/
def wakeable : State := run.modDev fun d => { d with wakeEn := 0x3FFF#14 }

/-- DORMANT-K with every wake source enabled. -/
def asleep : State :=
  (inPhase .dormantK wakeable).modTime fun t => { t with framesRun := false }

theorem witness_DormancyAndWake_request :
    (wakeable.opens .clock = true ∧ (1#32).getLsbD 0 = true ∧ wakeable.dev.dormEntry = none) ∧
    (wakeable.dev.phase = .running ∧ wakeable.role = .single ∧ wakeable.dev.wakeEn ≠ 0#14 ∧ wakeable.parkCause = false ∧
      wakeable.supply.parking = none) ∧
    run.dev.wakeEn = 0#14 ∧ (wakeable.modSupply fun p => { p with swPark := true }).parkCause = true := by decide

theorem witness_DormancyAndWake_entry :
    let e : DormantEntry := { deep := true, fadeLeft := some 0 }
    let s := wakeable.modDev fun d => { d with dormEntry := some e }
    s.dev.phase = .running ∧ s.dev.dormEntry = some e ∧ e.fadeLeft = some 0 := by decide

theorem witness_DormancyAndWake_sources :
    let s := (asleep.modUsb fun u => { u with attached := true }).modHost fun h => { h with linkUp := true }
    (s.dev.phase.dormant = true ∧ s.dev.dormEntry = none ∧ s.usb.attached = true ∧ s.host.linkUp = true) ∧
    (∀ b ∈ [8, 9, 10, 11, 12, 13], s.dev.wakeEn.getLsbD b = true) ∧ s.keybedRec.isSome = true ∧
    (∃ k < 16, (0x8000#32).getLsbD k = true) ∧ bits (0xFFFF#16) 15 4 > bits s.dev.wakeSen 31 20 ∧ s.dev.wakeSen.getLsbD 16 = false := by decide

theorem witness_DormancyAndWake_uart :
    let s := withTen (fun t => { t with uarts := [⟨2, .async, true, false, 8, 9600, 0x41⟩] }) asleep
    s.uartWakes 2 0x41#9 = true ∧ s.dev.wakeEn.getLsbD 2 = true ∧ s.dev.phase.dormant = true ∧ (s.uarts.get 2).dorm = [] := by decide

theorem witness_DormancyAndWake_wake :
    let s := asleep.modDev fun d => { d with waking := true }
    (s.dev.waking = true ∧ s.dev.phase.dormant = true) ∧ (inPhase .dormantK run).dev.wakeEn = 0#14 := by decide

/-! ### Host links, wells and quick ports (chapters 04 and 05) -/

/-- RUNNING with the PCIe link up. -/
def linked : State := run.modHost fun h => { h with linkUp := true }

theorem witness_DeniedAccess_bar2 :
    linked.pcieServed = true ∧ linked.dev.phase = .running ∧ linked.ownsRange 0 0x400000 4 = false ∧ linked.ownsRange 1 0 4 = false ∧
    ([0#32] : List Word).length = 1 ∧ 0x400000 + 4 * 1 ≤ bar2Size := by decide

theorem witness_DeniedAccess_bar0 :
    (linked.hostServed = true ∧ (0xFFFFFC % 4 = 0) ∧ (0xFFFFFC ≠ 0x2020C) ∧ (blockOf 0xFFFFFC = none) ∧ 0xFFFFFC + 4 ≤ bar0Size) ∧
    (blockOf 0x140000 = some .forager ∧ linked.opens .forager = true ∧ linked.seen 1 = true ∧ linked.sees .forager 1 0x140000 = false) ∧
    linked.host.linkUp = true ∧ (linked.host.xspi.get 0).octal = false := by decide

theorem test_denied_read_is_zero : (after (.rcRead 1 0x140000) run).outs.head? = some (.regRead 1 0#32) ∧
    ((after (.rcRead 1 0x140000) run).ten.get 1).denied = 1 ∧ (after (.rcRead 1 0x140000) run).deny.ofs = 0x140000#32 := by decide +kernel

theorem test_ident : (after (.rcRead 1 0) run).outs.head? = some (.regRead 1 0x4B580848#32) := by decide +kernel

theorem witness_RegisterAccess :
    run.hostServed = true ∧ run.dev.phase = .running ∧ run.seen 0 = true ∧ run.seen 1 = true ∧ linked.pcieServed = true ∧
    (0xFFFFFC % 4 = 0) ∧ 0xFFFFFC + 4 ≤ bar0Size ∧ run.csTen 0 = some 0 ∧ (run.host.xspi.get 0).octal = false ∧
    (withDev (fun d => { d with cs1 := some 1 }) run).csTen 1 = some 1 := by decide

theorem witness_PcieRequests :
    linked.pcieServed = true ∧ linked.dev.phase = .running ∧ linked.ownsRange 0 0 63 = true ∧ linked.cisHolds 0 = false ∧
    linked.ownsRange 0 0x3FFFFF 1 = true ∧ (0x3FFFFF % 64 + 1 ≤ 64) ∧ linked.host.wcb.length < 16 ∧ (linked.host.wcb.any fun e => e.line == 0) = false ∧
    linked.host.linkUp = true ∧ run.host.linkUp = false ∧ run.dev.boot ≠ 4#3 := by decide

theorem witness_PcieRequests_msix :
    let s := linked.modHost fun h => { h with fns := h.fns.upd 0 fun f => { f with
      pba := 0x8000000000000000#64, command := 0x6#16, msixEnable := true, msixMaskAll := false
      table := f.table.upd 63 fun v => { v with masked := false } } }
    (s.host.fns.get 0).pba.getLsbD 63 = true ∧ s.msixOpen 0 63 = true := by decide

theorem witness_XspiCommands :
    run.hostServed = true ∧ (run.host.xspi.get 0).octal = false ∧ (0x7FFFFFFC#32).getLsbD 31 = false ∧ (0x7FFFFFFC#32).toNat % 4 = 0 ∧
    run.dev.phase.dormant = false ∧ (8 ≤ bits (16#32) 5 1) ∧ (8 ≤ bits (63#32) 5 1) ∧ ((0x00 : Byte) ∉ xspiOpcodes) ∧
    ((run.modHost fun h => { h with xspi := h.xspi.upd 0 fun c => { c with octal := true } }).host.xspi.get 0).octal = true ∧
    ((0xEF#8 : Byte) ≠ ~~~0xEF#8) ∧ run.cfg.dev.cs1 = none := by decide

theorem witness_WellIndexWrites :
    let r1 : WellRec := ⟨1, .cmd, 6, 0x2000⟩
    let r0 : WellRec := ⟨0, .evt, 6, 0x1000⟩
    (run.wellRec 1 = some (0, r1) ∧ run.deviceProduced 1 = false) ∧ (run.wellRec 0 = some (0, r0) ∧ run.deviceProduced 0 = true) ∧
    run.seen 0 = true := by decide

theorem test_well_index_error : ((after (.wellPidxWrite 0 1 65#32) run).wells.get 1).p = 0#16 ∧
    ((after (.wellPidxWrite 0 1 65#32) run).wells.get 1).status.getLsbD 2 = true ∧ wellCapacity 6 = 64 := by decide +kernel

theorem witness_QuickPortAnswers_free :
    Claim.noCause run 0 1 0#32 ∧ Claim.noCause run 0 12 0#32 ∧ run.spawned 0 = true ∧ bits 0x100#32 7 0 = 0 ∧ 12 < bits 0x10D#32 7 0 := by
  refine ⟨?_, ?_, ?_, ?_, ?_⟩ <;> (try unfold Claim.noCause Claim.portBusy) <;> decide

theorem witness_QuickPortAnswers :
    run.dev.phase = .running ∧ run.seen 0 = true ∧ run.seen 1 = true ∧ run.qpAnswer 1 2 0#32 = qpDenied ∧ run.qpAnswer 0 0 0#32 = qpBadOpcode ∧
    run.qpAnswer 0 13 0#32 = qpBadOpcode ∧ run.spawned 2 = false ∧ run.qpAnswer 2 10 0#32 = qpNotSpawned ∧ run.qpAnswer 0 10 0#32 = qpAccepted := by
  decide

/-- A long operation of tenancy 0 in flight. -/
def opT (c : LongCode) : LongOp := { (default : LongOp) with handle := 0x1#32, code := c, ten := 0, done := none, args := Bank.all 8 0#32 }

/-- A completion for it. -/
def cplT : Completion := { (default : Completion) with handle := 0x1#32 }

/-- RUNNING with one operation of tenancy 0 in flight, of the tenancy's current generation. -/
def withOp (o : LongOp) (s : State) : State := s.modOps fun _ => [o]

theorem witness_CompletionsAndAborts_post :
    let o := { opT .truffleJob with done := some cplT }
    let s := withOp o run
    (s.findOp o.handle = some o ∧ o.done = some cplT ∧ s.dev.phase.hosted = true) ∧
    (s.cplWell 0 = some ⟨2, .cpl, 6, 0x3000⟩ ∧ (s.qports.get 0).store = [] ∧ (s.wells.get 2).fill < wellCapacity 6 ∧
      s.wellRec 2 = some (0, ⟨2, .cpl, 6, 0x3000⟩)) ∧
    (withTen (fun t => { t with wells := [] }) s).cplWell 0 = none ∧
    wellCapacity 6 ≤ ((s.modWells fun b => b.upd 2 fun w => { w with p := 64#16 }).wells.get 2).fill := by decide +kernel

theorem witness_CompletionsAndAborts_drain :
    let s := run.modQports fun b => b.upd 0 fun q => { q with store := [cplT] }
    s.cplWell 0 = some ⟨2, .cpl, 6, 0x3000⟩ ∧ (s.qports.get 0).store = [cplT] ∧ (s.wells.get 2).fill < wellCapacity 6 ∧ wellCapacity 6 < 65536 ∧
    (1#32).getLsbD 0 = true := by
  decide

theorem witness_CompletionsAndAborts_abort :
    let o := opT .pumpBulk
    let h := run.nextHandle 0
    let s := withOp { o with handle := h } run
    (s.findOp h = some { o with handle := h } ∧ bits h 28 24 = (s.ten.get 0).gen.toNat ∧ o.ten = 0 ∧ o.committed = false ∧ o.done = none) ∧
    s.findOp 0xFFFFFFFF#32 = none ∧
    (withOp { o with handle := h, committed := true } run).findOp h = some { o with handle := h, committed := true } := by decide

/-! ### Events and voices (chapter 06) -/

/-- A note-on of note 60 on channel 2, group 0, velocity 0xC924. -/
def noteOnT : Msg := .ump 0x40923C00#32 0xC9240000#32

/-- An ingress event of it. -/
def rawT : RawEvent := { msg := noteOnT, playAt := 0#64, value := none, mirror := none, ten := 0 }

/-- RUNNING with events waiting at the MIDI character port. -/
def withMidi (l : List RawEvent) (s : State) : State := s.modFront fun f => { f with uarts := f.uarts.put 0 l }

theorem witness_EventAcceptance_now :
    let s := withMidi [rawT] run
    (s.dev.phase.hosted = true ∧ s.parkDrops = false ∧ s.inPair = false) ∧ s.front.queue (.uart 0) = [rawT] ∧ rawT.playAt.toNat ≤ s.now.toNat ∧
    s.matching (.uart 0) rawT rawT.msg.norm = [(0, ⟨0, 1, 255, false, 0xFFFF, 0⟩)] ∧ rawT.msg.norm.voice = true ∧ s.muted 0 = false ∧
    (s.tcfg 0).reflex = [] ∧ (s.front.tap.get 0).getLsbD 8 = false ∧
    (withTen (fun t => { t with routes := [] }) s).matching (.uart 0) rawT rawT.msg.norm = [] ∧
    (s.modTen fun b => b.upd 0 fun x => { x with spawned := false }).muted 0 = true := by decide

theorem witness_EventAcceptance_later :
    let e := { rawT with playAt := 6000000001#64 }
    let s := withMidi [e] run
    (s.dev.phase.hosted = true ∧ s.parkDrops = false ∧ s.front.queue (.uart 0) = [e] ∧ s.now.toNat < e.playAt.toNat ∧ e.ten < 8) ∧
    6000000000 < e.playAt.toNat - s.now.toNat ∧
    let q := s.modFront fun f => { f with sched := f.sched.put 0 (List.replicate 256 (default : SchedEvent)) }
    256 ≤ (q.front.sched.get 0).length := by decide +kernel

theorem witness_EventAcceptance_park :
    let s := (withMidi [rawT] run).modSupply fun p => { p with parking := some .drain }
    s.dev.phase.hosted = true ∧ s.parkDrops = true ∧ s.front.queue (.uart 0) = [rawT] := by decide

theorem witness_EventAcceptance_release :
    let x : SchedEvent := { ev := { rawT with playAt := 5#64 }, src := 0x20#8 }
    let s := run.modFront fun f => { f with sched := f.sched.put 0 [x] }
    let u := withTen (fun t => { t with routes := [⟨0, 0x20, 255, false, 0xFFFF, 0⟩] }) (s.modTime fun t => { t with devTime := 1000000#64 })
    (s.dev.phase = .running ∧ s.parkDrops = false ∧ s.inPair = false ∧ s.front.sched.get 0 = [x]) ∧ u.releaseDue x = true ∧
    u.matching (.host 0) x.ev x.ev.msg.norm = [(0, ⟨0, 0x20, 255, false, 0xFFFF, 0⟩)] ∧
    (s.modTime fun t => { t with devTime := 1000000#64 }).matching (.host 0) x.ev x.ev.msg.norm = [] ∧
    (run.releaseDue { x with ev := { rawT with playAt := 0xFFFFFFFFFFFF#64 } } = false) := by decide +kernel

/-- A copy in a lane. -/
def copyT (w0 w1 : Word) (fold : Bool) : EventWord :=
  { time := 0#64, sched := false, src := 0x10#8, ten := 0, pool := 0, fold := fold, mirror := false, tapOnly := false, w0 := w0, w1 := w1, render := none }

/-- The pool of the tests. -/
def poolT : PoolRec := ⟨0, .poly, 1, .oldest, false, false, .last, 0, 3⟩

/-- RUNNING with one copy in pool 0's lane. -/
def inLane (e : EventWord) (s : State) : State := s.modPools fun b => b.upd 0 fun x => { x with lane := [e] }

/-- Pool 0 in another mode. -/
def poolAs (f : PoolRec → PoolRec) (s : State) : State := withTen (fun t => { t with forager := { t.forager with pools := [f poolT] } }) s

theorem witness_lane_heads :
    ∀ x ∈ [(0x40923C00#32, LaneKind.noteOn), (0x40823C00#32, .noteOff), (0x40E20000#32, .controller), (0x40D20000#32, .controller),
        (0x40B20100#32, .controller), (0x40A23C00#32, .controller), (0x40F23C01#32, .management), (0x40F23C00#32, .management),
        (0x40B24000#32, .sustain), (0x40B27B00#32, .notesOff), (0x40B27800#32, .soundOff), (0x40B27900#32, .reset)],
      let s := inLane (copyT x.1 0xC9240000#32 true) run
      s.dev.phase = .running ∧ (s.pools.get 0).lane.head? = some (copyT x.1 0xC9240000#32 true) ∧ s.poolRec 0 = some (0, poolT) ∧
      (copyT x.1 0xC9240000#32 true).kind = x.2 ∧ (copyT x.1 0xC9240000#32 true).render = none := by decide

theorem witness_NotesAndCommit_claim :
    let s := poolAs (fun r => { r with newVoice := true }) (inLane (copyT 0x40923C00#32 0xC9240000#32 false) run)
    let r := { poolT with newVoice := true }
    let x := s.pools.get 0
    (s.poolRec 0 = some (0, r) ∧ r.mode = .poly ∧ r.newVoice = true) ∧
    (((s.slotsOf r).filter fun y => s.occupied x.claimed y).length < s.usable r ∧ s.freeSlot r x.claimed = some (0, 0)) := by decide +kernel

/-- A held voice of note 60 in slot 0 of gill 0. -/
def voiceT : Voice := { Voice.none with state := .sounding, key := .held, pool := 0, group := 0, channel := 2, note := 60 }

/-- RUNNING with that voice, and a second one of note 61 in slot 1. -/
def sounding : State :=
  run.modGills fun b => b.upd 0 fun g => { g with slots := (g.slots.upd 0 fun x => { x with cur := voiceT }).upd 1 fun x =>
    { x with cur := { voiceT with note := 61 } } }

theorem witness_NotesAndCommit_steal :
    let s := poolAs (fun r => { r with newVoice := true, gills := 1 }) sounding
    let r := { poolT with newVoice := true, gills := 1 }
    let x := s.pools.get 0
    s.usable r ≤ ((s.slotsOf r).filter fun y => s.occupied x.claimed y).length ∧ s.stealCandidate 0 r 0 2 62 [] = some (0, 0) := by decide +kernel

theorem witness_NotesAndCommit_restart :
    ((sounding.voicesOf 0 poolT).filter fun v => v.2.is 0 2 60 && v.2.state != .silencing).getLast?.isSome = true ∧ poolT.mode = .poly ∧
    poolT.newVoice = false ∧ ((poolAs (fun r => { r with mode := .legato }) run).poolRec 0).map (fun x => x.2.mode) = some .legato ∧
    ((poolAs (fun r => { r with mode := .mono }) run).poolRec 0).map (fun x => x.2.mode) = some .mono ∧
    ((poolAs (fun r => { r with mode := .unison }) run).poolRec 0).map (fun x => x.2.mode) = some .unison := by decide +kernel

theorem witness_slots_still :
    (sounding.pools.get 0).claims = [] ∧ (∀ g < 48, ∀ k < 16, (sounding.slot g k).next = none) ∧
    (0, 0) ∈ sounding.slotsOf poolT ∧ (sounding.slot 0 0).cur.state = .sounding ∧
    ((sounding.slot 0 0).cur.is 0 2 60 && (sounding.slot 0 0).cur.key == .held) = true := by decide +kernel

theorem witness_NotesAndCommit_commit :
    let c : Claim := { gill := 47, slot := 15, voice := voiceT, steal := false }
    let s := run.modPools fun b => b.upd 0 fun x => { x with claims := [[c]] }
    s.dev.phase = .running ∧ s.poolOwner 0 = some 0 ∧ (s.pools.get 0).claims = [[c]] ∧ c.gill < 48 ∧ c.slot < 16 ∧ (s.pools.get 0).claims ≠ [] := by
  decide

theorem witness_ControllersAndPanic :
    (run.dev.phase = .running ∧ run.seen 0 = true ∧ run.poolOwner 0 = some 0 ∧ run.poolRec 0 = some (0, poolT)) ∧ run.poolOwner 0 ≠ some 1 ∧
    run.poolOwner 31 ≠ some 0 := by decide

theorem witness_VoiceEnds :
    ({ voiceT with ended := true }.isOver = true ∧ { voiceT with state := .faulted }.isOver = true ∧ voiceT.isOver = false) ∧
    ({ voiceT with state := .silencing, left := 0 }.state = .silencing ∧ { voiceT with state := .silencing, left := 0 }.left = 0) ∧
    let v := { voiceT with state := .fading, fadeC := 64, fadeJ := 64 }
    let s := run.modGills fun b => b.upd 0 fun g => { g with shadows := g.shadows.put 0 v, cut := { v with state := .cutting } }
    ((s.gills.get 0).shadows.get 0 = v ∧ v.fadeC ≤ v.fadeJ) ∧ (s.gills.get 0).cut.state = .cutting ∧
    { v with fadeJ := 63 }.fadeJ < v.fadeC ∧ v.ended = false ∧ voiceT.state ≠ .fading ∧ voiceT.state ≠ .cutting := by decide +kernel

theorem test_velocity_example : (Msg.midi1 0 0x92#8 60#8 100#8).norm.w1 = 0xC9240000#32 := by decide

/-! ### Modulation and short commands (chapters 04 and 08) -/

/-- One structure's modulation with two depths. -/
def mycT : MycStruct := { (default : MycStruct) with id := 0, active := [0#32, 0#32], pend := [0#32, 0x3F800000#32] }

/-- RUNNING with it in tenancy 0. -/
def withMyc (x : MycStruct) (s : State) : State := s.modMyc fun b => b.upd 0 fun t => { t with structs := [x] }

theorem witness_MyceliumRegisters :
    let s := withMyc mycT run
    (s.dev.phase = .running ∧ s.mycStruct 0 0 = some mycT ∧ mycT.tickDue = false) ∧
    ((withTen (fun t => { t with myc := { t.myc with ticks := [(0, 2)] } }) (s.modTime fun t => { t with frameIdx := 3#64 })).time.frameIdx + 1#64).toNat
      % 2 ^ ((withTen (fun t => { t with myc := { t.myc with ticks := [(0, 2)] } }) s).tcfg 0).tickLog 0 = 0 ∧
    (4#64 + 1#64 : DWord).toNat % 2 ^ ((withTen (fun t => { t with myc := { t.myc with ticks := [(0, 2)] } }) s).tcfg 0).tickLog 0 ≠ 0 ∧
    (s.seen 0 = true ∧ (1#32).getLsbD 0 = true) ∧ s.mycStruct 0 63 = none ∧ fIsFinite 0x7F7FFFFF#32 = true ∧ fIsFinite 0x7F800000#32 = false ∧
    rateAllowed 0x447A0000#32 = true ∧ rateAllowed 0x447A0001#32 = false ∧ rateAllowed 0x3A83126F#32 = true ∧ rateAllowed 0x3A83126E#32 = false := by
  decide

/-- RUNNING with a short command in tenancy 0's reflex queue. -/
def reflexT (c : ShortCmd) (s : State) : State := s.modQports fun b => b.upd 0 fun q => { q with reflexQ := [c] }

/-- RUNNING with a command of one opcode in CMD well 1. -/
def cmdT (op count : Byte) (s : State) : State :=
  ((s.modWells fun b => b.upd 1 fun w => { w with p := 1#16 }).modQports fun b => b.upd 0 fun q => { q with cmdLeft := 4 }).modMem fun m =>
    { m with cis := (m.cis.put (WellRec.entryAt ⟨1, .cmd, 6, 0x2000⟩ 0) op).put (WellRec.entryAt ⟨1, .cmd, 6, 0x2000⟩ 0 + 1) count }

theorem witness_short_origins :
    (∀ op ∈ [0x40, 0x41, 0x42, 0x43, 0x44, 0x45], let c : ShortCmd := ⟨BitVec.ofNat 8 op, 0#32, 0x3F800000#32, 0x3F800000#32, 0⟩
      (reflexT c run).shortAt (.reflex 0) op = some (0, c)) ∧
    ((cmdT 0x40#8 0#8 run).shortAt (.well 1) 0x40).isSome = true ∧ fIsFinite (gMul 0x3F800000#32 0x3F800000#32) = true ∧
    fIsFinite (gMul 0x7F7FFFFF#32 0x7F7FFFFF#32) = false := by decide +kernel

theorem witness_ShortCommandsRun_targets :
    run.periphOwner pcBus 0 = some 0 ∧ run.periphOwner pcBus 63 ≠ some 0 ∧ gainAllowed 0x41800000#32 = true ∧ gainAllowed 0x41800001#32 = false ∧ gainAllowed 0xC1800001#32 = false ∧
    (withMyc mycT run).mycStruct 0 (bits (0x100#32) 5 0) = some mycT ∧ bits (0x100#32) 14 8 < mycT.pend.length ∧
    (let s := withTen (fun t => { t with spore := { t.spore with chain := [⟨0, 63, 0, 0, 0, false⟩] } }) run
     s.engineOwner 0 = some 0 ∧ (∃ r ∈ (s.tcfg 0).spore.chain, r.engine = 0 ∧ r.position = bits (0x3F0#32) 9 4) ∧
       (0x43, 0 * 64 + 63) ∉ (s.qports.get 0).wellSet) := by decide +kernel

theorem witness_ShortCommandsRun_events :
    (run.front.reflex.get 0).length < ingressMax ∧ (0x80 ≤ bits (0x7F7F80#32) 7 0 ∧ bits (0x7F7F80#32) 15 8 < 0x80 ∧ bits (0x7F7F80#32) 23 16 < 0x80) ∧
    (let s := run.modFront fun f => { f with reflex := f.reflex.put 0 (List.replicate ingressMax rawT), host := f.host.put 0 (List.replicate ingressMax rawT) }
     ingressMax ≤ (s.front.reflex.get 0).length ∧ ingressMax < (s.front.host.get 0).length + 1) ∧
    (let r : WellRec := ⟨0, .evt, 6, 0x1000⟩
     run.wellRec (bits (0#32) 7 0) = some (0, r) ∧ r.type = .evt ∧ (run.wells.get 0).fill < wellCapacity r.k) := by decide +kernel

theorem witness_ShortCommandsRun_entry :
    ∀ k ∈ [0, 1, 3, 4], let s := cmdT 1#8 (BitVec.ofNat 8 k) run
      let a := WellRec.entryAt ⟨1, .cmd, 6, 0x2000⟩ 0
      s.cmdEntry 1 = some (0, a) ∧ (s.mem.cis.get a).toNat = 1 ∧ (s.mem.cis.get (a + 1)).toNat = k ∧
      (s.front.host.get 0).length + k ≤ ingressMax := by decide +kernel

theorem witness_memories : Claim.memoriesWf run := ⟨rfl, rfl, rfl⟩

/-! ### Long operations and permits (chapters 05 and 16) -/

/-- RUNNING with the arguments of tenancy 0's quick port, and a permit budget. -/
def withArgs (l : List Word) (s : State) : State :=
  s.modQports fun b => b.upd 0 fun q => { q with args := Bank.make 8 fun i => l.getD i 0#32 }

theorem witness_accepted :
    (run.dev.phase = .running ∧ run.seen 0 = true ∧ run.findOp (run.nextHandle 0) = none) ∧
    ∀ x ∈ [(LongCode.cisternHandover, [0x10000#32]), (.cisternWipe, [0#32, 64#32]), (.pumpBulk, [0#32]), (.sampleLoad, [0xFF00#32]),
        (.calibrate, [3#32]), (.aquiferTrain, []), (.truffleJob, [0x200#32]), (.pairSync, []), (.sealKeyInstall, [0#32, 64#32]), (.checkpoint, [0#32, 64#32]),
        (.powerPark, [4096#32]), (.spawnTenancy, [0#32])],
      (withArgs x.2 run).retireAll.qpAnswer 0 x.1.opcode (((withArgs x.2 run).qports.get 0).args.get 0) = qpAccepted := by decide +kernel

theorem witness_LongOperationsEnter_wipe_and_bulk :
    let w := withArgs [0x3FFFC0#32, 64#32] run
    let a := (w.qports.get 0).args
    ((a.get 0).toNat % 64 = 0 ∧ (a.get 1).toNat % 64 = 0 ∧ w.ownsRange 0 (a.get 0).toNat (a.get 1).toNat = true ∧ Claim.costOf w .cisternWipe a ≤ w.permitCeiling) ∧
    (let b := bulkArgs .pumpBulk (withArgs [1#32, 64#32, 0#32, 128#32, 0#32, 64#32] run |>.qports.get 0).args
     b.pump < 32 ∧ b.src % 64 = 0 ∧ b.dst % 64 = 0 ∧ b.len % 64 = 0 ∧ run.pumpOwner b.pump = some 0 ∧ b.slot = none) ∧
    (let b := bulkArgs .sampleLoad (withArgs [0x100#32, 64#32, 128#32, 64#32] run |>.qports.get 0).args
     b.pump < 32 ∧ b.src % 64 = 0 ∧ b.dst % 64 = 0 ∧ b.len % 64 = 0 ∧ run.pumpOwner b.pump = some 0 ∧ b.slot = some 1 ∧ run.keyOwner 1 = some 0) := by
  decide +kernel

theorem witness_LongOperationsEnter_others :
    (let a := (withArgs [0x200#32, 4095#32] run |>.qports.get 0).args
     bits (a.get 0) 9 8 ≤ 2 ∧ (a.get 1).toNat < 4096 ∧ run.engineOwner (jobEngine a) = some 0 ∧ run.jobHead (jobEngine a) = none ∧
       Claim.costOf run .truffleJob a ≤ run.permitCeiling) ∧
    (let a := calArgs (withArgs [3#32] run |>.qports.get 0).args
     run.calOk a.1 a.2.1 a.2.2 = true ∧ run.calOwner a.1 a.2.1 = some 0) ∧
    (let s := run.modPair fun p => { p with forwarder := true, link := true, pdigestKnown := true }
     s.pair.forwarder = true ∧ s.pair.link = true ∧ s.digestsAgree = true) ∧ run.pair.forwarder = false ∧
    (let a := (withArgs [1#32, 0#32, 64#32] run |>.qports.get 0).args
     (a.get 0).toNat < 8 ∧ run.present (a.get 0).toNat = true ∧ run.ownsRange 0 (a.get 1).toNat (a.get 2).toNat = true) ∧
    (let a := (withArgs [23#32, 0x10000#32] run |>.qports.get 0).args
     (a.get 0).toNat < 24 ∧ run.handoverWipes a = true ∧ run.handoverBlocked (a.get 0).toNat = false ∧ run.cisHolds (a.get 0).toNat = false ∧
       run.cisOwner (a.get 0).toNat = none ∧ newOwner a = some 0 ∧ run.present 0 = true) ∧
    run.handoverWipes (withArgs [23#32, 0#32] run |>.qports.get 0).args = false ∧
    (withOp { opT .truffleJob with permit := .waiting } run).jobHead 0 = some { opT .truffleJob with permit := .waiting } := by decide +kernel

theorem witness_LongOperationsEnter_refused :
    (let a := (withArgs [1#32, 64#32] run |>.qports.get 0).args
     (a.get 0).toNat % 64 ≠ 0) ∧
    (let a := (withArgs [0x400000#32, 64#32] run |>.qports.get 0).args
     run.ownsRange 0 (a.get 0).toNat (a.get 1).toNat = false) ∧
    32 ≤ (bulkArgs .pumpBulk (withArgs [32#32] run |>.qports.get 0).args).pump ∧
    (bulkArgs .sampleLoad (withArgs [0x4000#32] run |>.qports.get 0).args).slot = some 64 ∧ run.pumpOwner 31 ≠ some 0 ∧
    ((1 : Fin 8) ≠ 0 ∧ (1 : Fin 8).val ≠ ((run.qports.get 1).args.get 0).toNat) ∧
    (let s := run.modMem fun m => { m with banks := m.banks.upd 23 fun b => { b with owner := some 1 } }
     s.cisOwner 23 = some 1 ∧ (s.mem.banks.get 23).release = false) ∧
    (run.modFilter fun f => { f with spareFault := true }).filter.spareFault = true ∧
    (let a := (withArgs [64#32] run |>.qports.get 0).args
     64 ≤ (a.get 0).toNat ∧ (a.get 0).toNat ≤ 4096) ∧ run.supply.parking = none := by decide +kernel

theorem witness_LongOperationsEnter_calibrate_spare :
    let s := (withTen (fun t => { t with own := { t.own with periph := (5, 0) :: t.own.periph } }) run).modFilter fun f =>
      { f with chans := f.chans.upd 0 fun c => { c with on := true } }
    let a := calArgs (withArgs [0#32] s |>.qports.get 0).args
    a.1 = 0 ∧ s.calOk a.1 a.2.1 a.2.2 = true ∧ s.calOwner a.1 a.2.1 = some 0 ∧ s.ops = [] ∧ ∀ c < 8, (s.chan c).cal = none := by decide +kernel

theorem witness_LongOperationsEnter_seal :
    let s := withArgs [1#32, 0x3FFFC0#32, 1#32] run
    let a := (s.qports.get 0).args
    (a.get 0).toNat < 64 ∧ (a.get 1).toNat % 64 = 0 ∧ s.ownsRange 0 (a.get 1).toNat 64 = true ∧ s.keyOwner (a.get 0).toNat = some 0 ∧
      s.mem.sealWiping = false ∧ s.dev.tamperLow = false ∧ s.host.wcb = [] ∧ eccView s.mem.cisEcc (a.get 1).toNat 16 ≠ .uncorrectable := by
  decide +kernel

/-- A request for a permit. -/
def waitT (c : LongCode) (cost : Nat) : LongOp := { opT c with permit := .waiting, cost := cost, args := Bank.all 8 5#32 }

/-- RUNNING with a pool of 100 du. -/
def pooled (s : State) : State := s.modWindlass fun w => { w with pool := 100 }

theorem witness_PermitsGranted :
    (∀ c ∈ [LongCode.cisternWipe, .truffleJob, .spawnTenancy, .pumpBulk], let s := pooled (withOp (waitT c 100) run)
      s.dev.phase.monitors = true ∧ s.considered = some (waitT c 100) ∧ s.findOp 1#32 = some (waitT c 100) ∧ s.mayGrant (waitT c 100) = true) ∧
    (pooled (withOp (waitT .cisternWipe 101) run)).mayGrant (waitT .cisternWipe 101) = false ∧
    ((waitT .cisternWipe 20).done = none ∧ (waitT .cisternWipe 20).ten < 8 ∧ (waitT .cisternWipe 20).everGranted = false ∧
      (waitT .cisternWipe 20).deadline ≠ 0) ∧ (opT .pumpBulk).deadline = 0 := by decide +kernel

theorem witness_CisternsHandedOverAndWiped :
    (let o := opT .cisternHandover
     let s := (withOp o run).modMem fun m => { m with banks := m.banks.upd 23 fun b => { b with draining := some 1#32, release := true, owner := some 0 } }
     (s.mem.banks.get 23).draining = some 1#32 ∧ s.findOp 1#32 = some o ∧ o.done = none ∧ s.seen 0 = true ∧ s.cisOwner 23 = some 0 ∧
       (s.mem.banks.get 23).release = true ∧ (0#32).getLsbD 0 = false) ∧
    (let o := { opT .cisternHandover with committed := true }
     let s := (withOp o run).modMem fun m => { m with banks := m.banks.upd 23 fun b => { b with wiping := some 1#32 } }
     (s.mem.banks.get 23).wiping = some 1#32 ∧ s.findOp 1#32 = some o ∧ s.mem.held = []) ∧
    (let o := { opT .cisternWipe with committed := true }
     (withOp o run).findOp o.handle = some o ∧ o.code = .cisternWipe ∧ o.committed = true ∧ (opT .cisternWipe).committed = false ∧
       run.ownsRange o.ten 0 64 = true ∧ run.ownsRange o.ten 0 0x30000000 = false) ∧
    (run.cisOwner 0 = some 0 ∧ (run.mem.banks.get 0).draining = none ∧ run.cisOwner 0 ≠ some 1) := by decide +kernel

/-! ### Cisterns, aquifer and pumps (chapter 11) -/

/-- RUNNING with pump 0's translations of the first two pages, the second writable, to the first page of cistern 0 and of cistern 1. -/
def mapped : State :=
  run.modPumps fun b => b.upd 0 fun q => { q with cache := [(0, 0, false), (1, 0x200000, true)] }

theorem mapped_pages :
    Claim.cachedAt mapped 0 0 0xFFC0 0xFFC0 false ∧ Claim.cachedAt mapped 0 0 0x10000 0x200000 true :=
  ⟨⟨by decide, 0, 0, false, by decide, by decide, by decide, by decide⟩, ⟨by decide, 1, 0x200000, true, by decide, by decide, by decide, by decide⟩⟩

theorem witness_PumpsMoveData_bulk :
    let o := { opT .pumpBulk with permit := .granted, args := Bank.make 8 fun i => [0#32, 0xFFC0#32, 0#32, 0x10000#32, 0#32, 64#32].getD i 0#32 }
    let s := withOp o mapped
    let a := bulkArgs .pumpBulk o.args
    (s.dev.phase = .running ∧ s.findOp o.handle = some o ∧ s.bulkHead 0 = some o ∧ o.mayRun = true ∧ o.progress = 0 ∧ (s.pumps.get 0).buffer = [] ∧
      s.pumpOwner 0 = some o.ten ∧ s.mem.cisEcc = [] ∧ s.streamPick 0 = none) ∧ a.len = 64 ∧ a.src = 0xFFC0 ∧ a.dst = 0x10000 := by decide +kernel

/-- A stream of 16-bit mono frames for slot 0 of gill 0. -/
def streamT : Stream :=
  { gill := 0, store := 0, elem := 0, source := 0xFFC0, frameBytes := 2, length := 100, loopStart := 0, loopEnd := 0, ring := 0
    ringBytes := 4096, nonce := 0#64 }

/-- The mapped pumps with that stream playing. -/
def streaming : State :=
  (mapped.modGills fun b => b.upd 0 fun g => { g with slots := g.slots.upd 0 fun x => { x with cur := { voiceT with
    elems := [.sample none 0 0 0#32 0#32 false false] } } }).modPumps fun b => b.upd 0 fun q => { q with streams := q.streams.put 7 (some streamT) }

theorem witness_PumpsMoveData_stream :
    streaming.dev.phase = .running ∧ streaming.pumpOwner 0 = some 0 ∧ streaming.streamPick 0 = some (7, streamT) ∧
    streaming.streamPos streamT = some (0, 0) ∧ streamT.nextLine 0 = some (0xFFC0, 32) ∧ (streaming.pumpRec 0).bind PumpRec.keySlot = none ∧
    streaming.mem.cisEcc = [] ∧ 0xFFC0 % 64 + 32 * streamT.frameBytes ≤ 64 ∧ streamT.gill < 48 ∧ 0xFFC0 - 0xFFC0 % 64 = 0xFFC0 := by decide +kernel

theorem witness_PumpsMoveData_contexts :
    let s := run.modPumps fun b => b.upd 31 fun q => { q with waiting := [streamT] }
    (s.pumps.get 31).waiting = [streamT] ∧ (s.pumps.get 31).streams.toList.findIdx? (fun c => c.isNone) = some 0 ∧
    (run.pumps.get 31).waiting = [] ∧ run.seen 0 = true ∧ run.pumpOwner 0 = some 0 ∧ run.pumpOwner 31 ≠ some 0 ∧ (1#32).getLsbD 0 = true := by
  decide +kernel

/-- RUNNING with a trained aquifer of 1,024 MiB, and one line in the directory. -/
def aquiferT (e : Option DirState) (s : State) : State :=
  (s.modAq fun a => { a with raw := 1024, cap := 1024, present := true, trained := true, selfRefresh := false, deepDown := false }).modMem fun m =>
    { m with dir := match e with
        | none => []
        | some d => [(0, d)] }

theorem witness_DirectoryKeepsLines :
    (run.l1Line 0 0 = false) ∧ (run.l1Line 3 0 = false) ∧
    ∀ e ∈ [none, some (DirState.shared [3]), some (.exclusive 3), some (.modified 3), some (.modified 0)], let s := aquiferT e run
      s.l1Line 0 63 = true ∧ s.l1Line 0 (512 * 1048576 - 1) = true ∧ s.pumpLine 0 63 = true ∧ s.mem.dirOf 0 = e ∧
      s.mem.lineData 0 = List.replicate 64 0#8 ∧ s.mem.l1 = [] := by decide +kernel

theorem witness_ScrubAndSealedCistern :
    run.dev.phase ∉ [DevPhase.off, .aon, .dormantK, .dormantL] ∧ (∀ c < 24, (run.mem.banks.get c).scrubPos < 65536) ∧
    State.reset.dev.phase ∈ [DevPhase.off, .aon, .dormantK, .dormantL] ∧ (run.dev.phase ≠ .off ∧ run.dev.tamperLow = false) ∧
    (run.modDev fun d => { d with tamperLow := true }).dev.tamperLow = true ∧ run.mem.sealWiping = false ∧
    (run.modMem fun m => { m with sealWiping := true }).mem.sealWiping = true := by decide +kernel

theorem witness_ScrubAndSealedCistern_words :
    (run.mem.banks.get 23).writeBack = false ∧ eccView run.mem.cisEcc 0 32 = .clean ∧ eccView [(3, false)] 0 32 = .corrected ∧
    eccView [(0, true)] 0 32 = .uncorrectable ∧ eccView [(4, true)] 0 32 = .clean ∧
    (let o := { opT .cisternWipe with committed := true, args := Bank.make 8 fun i => [0#32, 64#32].getD i 0#32 }
     (withOp o run).ops = [o] ∧ o.code = .cisternWipe ∧ o.done = none ∧ o.progress ≤ 64 ∧
       run.ownsRange o.ten (o.args.get 0).toNat (o.args.get 1).toNat = true) := by decide +kernel

theorem witness_AquiferController :
    let s := aquiferT none run
    (s.aq.trained = true ∧ s.aq.selfRefresh = false ∧ s.aq.deepDown = false) ∧ s.trainer = none ∧
    (∀ p ∈ [0, 511], let o := { opT .aquiferTrain with permit := .granted, progress := p, args := Bank.all 8 3#32 }
      (withOp o s).trainer = some o ∧ (withOp o s).findOp o.handle = some o ∧ 256 * maskCount (bits (o.args.get 0) 1 0) = 512) ∧
    (aquiferT none (run.modAq fun a => { a with selfRefresh := true })).aq.trained = true ∧
    (run.modAq fun a => { a with selfRefresh := true }).aq.selfRefresh = true := by decide +kernel

/-! ### Images, respawns and frames (chapters 01, 02 and 10) -/

/-- A FULL image of the device at 48 kHz with tenancy 0, its CRC-32 from R34. -/
def fullImage : List Word :=
  [0x5053584B#32, 0x400003#32, 0x60#32, 0xF21E5959#32, 0x1#32, 0x2#32, 0x848#32, 0x1234#32, 0x0#32, 0x0#32, 0x0#32, 0x0#32, 0x0#32, 0x0#32, 0x0#32,
    0x0#32, 0x1FF01#32, 0x10#32, 0x40001#32, 0x1#32, 0x40002#32, 0x1#32, 0x10002#32, 0x0#32]

/-- A PARTIAL image for tenancy 1 with an empty MYCELIUM section. -/
def partialImage : List Word :=
  [0x5053584B#32, 0x400003#32, 0x48#32, 0xEBC4CA7F#32, 0x102#32, 0x1#32, 0x848#32, 0x1234#32, 0x0#32, 0x0#32, 0x0#32, 0x0#32, 0x0#32, 0x0#32, 0x0#32,
    0x0#32, 0x10104#32, 0x0#32]

theorem test_crc_check_value : crc32 [0x31#8, 0x32#8, 0x33#8, 0x34#8, 0x35#8, 0x36#8, 0x37#8, 0x38#8, 0x39#8] = 0xCBF43926#32 := by decide +kernel

theorem test_full_image_walks :
    phaseA fullImage none .make = none ∧
    (match walkSections 25 0 64 (fullImage.drop 16) Build.full with
      | (b, .inr n) => decide (n = 2 ∧ b.dev.fs = 1 ∧ b.dev.present = 1 ∧ b.tenanciesIn = true)
      | _ => false) = true := by decide +kernel

theorem test_image_refusals :
    ((phaseA fullImage none .retired).map ImgErr.code, (phaseA fullImage (some 1) .make).map ImgErr.code,
      (phaseA (fullImage.set 0 0#32) none .make).map ImgErr.code) = (some eLifecycle, some eKind, some eMagic) := by decide +kernel

/-- A SPAWN_TENANCY of tenancy 1 with the image at the start of cistern 0. -/
def spawnOp : LongOp :=
  { opT .spawnTenancy with permit := .granted, args := Bank.make 8 fun i => [1#32, 0#32, 72#32].getD i 0#32 }

/-- A respawn of tenancy 1 in a phase. -/
def respawnT (p : RespawnPhase) (f : Respawn → Respawn) : Respawn :=
  f { handle := 1#32, phase := p, validated := false, quiesced := false, fadeLeft := 0, faded := false, written := false, cfg := TenancyCfg.default
      sections := [⟨4, 1, [0x10104#32, 0x0#32]⟩], words := partialImage, reserve := 0 }

/-- RUNNING with that respawn in progress. -/
def respawning (r : Respawn) : State :=
  ((withOp spawnOp run).modTen fun b => b.upd 1 fun x => { x with respawn := some r }).modMem fun m =>
    { m with cis := Memory.putBytes [] 0 (wordsBytes partialImage) }

theorem witness_RespawnPhases_validate :
    let r := respawnT .validate id
    (respawning r).respawnNow 1 = some (r, spawnOp) ∧ r.validated = false ∧
    ((respawning r).modMem fun m => { m with cis := [] }).respawnNow 1 = some (r, spawnOp) ∧
    (pooled ((respawning (respawnT .waitPermit id)).modOps fun _ => [{ spawnOp with permit := .waiting }])).considered =
      some { spawnOp with permit := .waiting } := by decide +kernel

theorem test_partial_image_reads : ((respawning (respawnT .validate id)).readPartial spawnOp).toOption.isSome = true := by decide +kernel

theorem test_partial_image_length :
    (((respawning (respawnT .validate id)).modMem fun m => { m with cis := [] }).readPartial spawnOp).toOption.isSome = false := by decide +kernel

theorem witness_RespawnPhases_quiesce :
    (let r := respawnT .validate id
     let s := respawning r
     s.dev.phase = .running ∧ (s.ten.get 1).respawn = some r ∧ r.quiesced = false ∧ (s.ten.get 1).drop ≤ 65535) ∧
    (let r := respawnT .quiesce fun r => { r with quiesced := true }
     (respawning r).dev.phase = .running ∧ ((respawning r).ten.get 1).respawn = some r ∧ r.fadeLeft = 0 ∧ r.faded = false) ∧
    (let r := respawnT .write id
     (respawning r).respawnNow 1 = some (r, spawnOp) ∧ (∀ x ∈ (respawning r).ops, x.ten = 1 → x.handle = r.handle ∨ x.done.isSome = true)) ∧
    (let r := respawnT .commit fun r => { r with written := true }
     ((respawning r).ten.get 1).respawn = some r ∧ (respawning r).findOp r.handle = some spawnOp ∧ spawnOp.done = none) := by decide +kernel

theorem witness_RespawnPhases_write :
    (match (respawning (respawnT .write id)).readPartial spawnOp with
      | .ok b => decide (b.tc 1 = TenancyCfg.default ∧ b.raw.reverse = [⟨4, 1, [0x10104#32, 0x0#32]⟩] ∧ (respawning (respawnT .write id)).imageWords spawnOp = partialImage ∧
          (((respawning (respawnT .write id)).wipeRegions 1).writePayload b).copiesBad TenancyCfg.default = false)
      | .error _ => false) = true := by decide +kernel

/-- A frame boundary with every copy in agreement. -/
def plainFrame : FrameIn := { ftg := .agree, spout := .agree, moreWords := 0, spSel := true, ownIn := false, sap := [] }

theorem witness_FramesBeginOrStop :
    (run.dev.phase = .running ∧ run.time.framesRun = true ∧ plainFrame.ftg = .agree ∧ run.dev.ftgMask = 0#3) ∧
    ((run.modSpout fun p => { p with run := 64 }).spout.run = 64 ∧ run.spout.run < 64) := by decide

theorem test_no_majority_enters_safe : (after (.frameBoundary { plainFrame with ftg := .noMajority }) run).dev.phase = .safe := by decide +kernel

/-- RUNNING with a talker packet finished, and a port that may send it or not. -/
def talking (sends : Bool) : State :=
  run.modNet fun n => { n with
    talkers := n.talkers.upd 0 fun x => { x with ready := [⟨0#64, 0#8, []⟩], en := true, dmac := 1#48 }
    ports := n.ports.upd 0 fun p => { p with synced := sends, mac := 1#48, link := true } }

theorem witness_FramesBeginOrStop_talker :
    let r : StreamRec := ⟨false, 0, 0, 2, 0#64, 0, 0⟩
    (talking true).streamRec false 0 = some (0, r) ∧ ((talking true).net.talkers.get 0).ready = [⟨0#64, 0#8, []⟩] ∧
    (talking true).talkerSends 0 r = true ∧ (talking false).talkerSends 0 r = false := by decide +kernel

/-- RUNNING with the Spout mixed, and a chain of positions 2 and 63 on engine 0. -/
def chained : State :=
  (withTen (fun t => { t with spore := { t.spore with chain := [⟨0, 2, 0, 0, 0x100, false⟩, ⟨0, 63, 0, 0, 0x200, false⟩], spills := [⟨0, 0, 0x10000⟩] } })
    run).modSpout fun p => { p with mixed := true }

theorem witness_FrameWindows_open :
    (chained.dev.phase = .running ∧ chained.spout.mixed = true ∧ (chained.engineOwner 0).isSome = true ∧ (chained.engine 0).opened = false) ∧
    ((positionsOf (chained.chainOf 0)).filter fun p => (chained.engine 0).runs (chained.chainOf 0) chained.time.frameIdx.toNat p) = [2, 63] ∧
    (((chained.chainOf 0).filter fun r => r.position == 2).head?.isSome = true) ∧
    (let s := run.modSpout fun p => { p with mixed := true }
     s.chainOf 0 = [] ∧ (s.engine 0).opened = false ∧ (s.engineOwner 0).isSome = true) := by decide +kernel

theorem witness_FrameWindows_close :
    let s := chained.updEngine 0 fun x => { x with windowOpen := true, run := .frame, pos := 2, queue := [63], halted := true }
    (s.engine 0).windowOpen = true ∧ (s.engine 0).halted = true ∧ s.seen 0 = true ∧ s.engineOwner 0 = some 0 ∧ s.engineOwner 0 ≠ some 1 ∧
    (1#32).getLsbD 0 = true ∧ (chained.engine 0).halted = false := by decide +kernel

/-! ### The Truffle sequencer (chapter 09) -/

/-- RUNNING with engine 0 in its frame context at word pc. -/
def onEngine (f : Engine → Engine) : State := chained.updEngine 0 fun x => f { x with run := .frame, pos := 2 }

/-- The same with the frame context changed. -/
def inCtx (f : Ctx → Ctx) : State := onEngine fun x => { x with frame := f x.frame }

theorem witness_ready :
    let s := onEngine id
    ((s.engine 0).halted = false ∧ (s.engine 0).run ≠ .idle ∧ (s.engine 0).ctx.pc < 4096) ∧ (s.engine 0).ctx.inTrap = false ∧
    ((inCtx fun c => { c with pc := 4095 }).engine 0).ctx.pc < 4096 ∧ ((inCtx fun c => { c with inTrap := true }).engine 0).ctx.inTrap = true := by
  decide +kernel

theorem witness_IntegerInstructions : (0#9 : BitVec 9) = (⟨1#5, 2#5, 3#5, 0#9⟩ : RegF).zero ∧ (⟨1#5, 2#5, 3#5, 1#9⟩ : RegF).zero ≠ 0#9 ∧ 31 < 32 := by decide

theorem test_mulhu : ((after (.mulhu 0 ⟨1#5, 2#5, 3#5, 0#9⟩) (inCtx fun c => (c.setReg 2 0xFFFFFFFF#32).setReg 3 0xFFFFFFFF#32)).engine 0).frame.reg 1 =
    0xFFFFFFFE#32 := by decide +kernel

theorem test_slt_is_signed : ((after (.slt 0 ⟨1#5, 2#5, 3#5, 0#9⟩) (inCtx fun c => c.setReg 2 0x80000000#32)).engine 0).frame.reg 1 = 1#32 ∧
    ((after (.sltu 0 ⟨1#5, 2#5, 3#5, 0#9⟩) (inCtx fun c => c.setReg 2 0x80000000#32)).engine 0).frame.reg 1 = 0#32 := by decide +kernel

theorem test_branch_backwards :
    ((after (.bltz 0 ⟨0#5, 2#5, 0x3FFF#14⟩) (inCtx fun c => { (c.setReg 2 0x80000000#32) with pc := 8 })).engine 0).frame.pc = 7 := by decide +kernel

theorem witness_BranchesAndCalls_registers :
    (⟨1#5, 2#5, 31#5, 0#9⟩ : RegF).rs2.toNat = 31 ∧ (⟨1#5, 2#5, 4#5, 0#9⟩ : RegF).rs2.toNat = 4 ∧ (⟨1#5, 2#5, 7#5, 0#9⟩ : RegF).rs2.toNat = 7 := by decide

/-- Windows: n live ones in the frame context, k spilled. -/
def windowed (n k : Nat) : State := inCtx fun c => { c with wins := List.replicate n Win.zero, spilled := k }

theorem witness_BranchesAndCalls_windows :
    ((windowed 7 0).engine 0).ctx.wins.length < 8 ∧ ((windowed 8 64).engine 0).ctx.wins.length = 8 ∧ 64 ≤ ((windowed 8 64).engine 0).ctx.spilled ∧
    ((windowed 8 63).engine 0).ctx.spilled < 64 ∧ (windowed 8 63).spillArea 0 = some 0x10000 ∧ 0x10000 % 4 = 0 ∧ 0x10000 + 4096 ≤ cisSpace ∧
    1 < ((windowed 2 0).engine 0).ctx.wins.length := by decide +kernel

theorem witness_BranchesAndCalls_spill_places :
    (match (windowed 8 63).enginePlaces 0 0 (spillAddrs 0x10000 63) with
      | .all l => l.length == 16
      | _ => false) = true := by decide +kernel

theorem witness_IllegalEnds :
    ((onEngine id).engine 0).run = .frame ∧ ((onEngine fun x => { x with run := .job }).engine 0).run = .job ∧
    ((windowed 1 0).engine 0).ctx.wins.length = 1 ∧ ((windowed 1 0).engine 0).ctx.spilled = 0 := by decide +kernel

theorem witness_TrapsAndEnds_job :
    let o := { opT .truffleJob with permit := .granted }
    let s := withOp o (onEngine fun x => { x with run := .job, jobHandle := some 1#32 })
    ((s.engine 0).halted = false ∧ (s.engine 0).run = .job ∧ (s.engine 0).ctx.pc < 4096) ∧ (s.engine 0).jobHandle = some 1#32 ∧
    s.findOp 1#32 = some o ∧ o.done = none := by decide +kernel

theorem witness_TrapsAndEnds_frame :
    let s := onEngine fun x => { x with lanes := [default, default] }
    ((s.engine 0).halted = false ∧ (s.engine 0).run = .frame) ∧
    ((s.chainOf 0).zipIdx.filter fun x => x.1.position == (s.engine 0).pos)[0]? = some (⟨0, 2, 0, 0, 0x100, false⟩, 0) ∧
    (s.engine 0).lanes[0]? = some default := by decide +kernel

theorem test_ret_without_window_is_illegal :
    (((after (.ret 0 ⟨0#5, 0#5, 0#14⟩) (windowed 1 0)).engine 0).frame.tcause, ((after (.ret 0 ⟨0#5, 0#5, 0#14⟩) (windowed 1 0)).engine 0).frame.pc) = (3, 12) := by
  decide +kernel

/-! ### Vectors, tiles, masks and spores (chapters 09 and 10) -/

theorem witness_VectorOperations :
    let plain : VecF := ⟨none, 31#5, 2#5, 3#5, 1#5, 0#3⟩
    let imm : VecF := ⟨some 0x3F000000#32, 7#5, 2#5, 0#5, 1#5, 0#3⟩
    plain.imm = none ∧ imm.imm ≠ none ∧ imm.vb = 0#5 ∧ imm.vd.toNat < 8 ∧ 8 ≤ plain.vd.toNat ∧ ({ imm with vb := 1#5 } : VecF).vb ≠ 0#5 ∧
    ((inCtx id).engine 0).ctx.inTrap = false ∧ ((inCtx id).engine 0).ctx.fte = 0#6 := by decide +kernel

theorem test_vadd_lane : let s := inCtx fun c => { c with v := (c.v.put 2 (Bank.all 32 0x3F800000#32)).put 3 (Bank.all 32 0x40000000#32) }
    (((after (.vadd 0 ⟨none, 1#5, 2#5, 3#5, 0#5, 0#3⟩) s).engine 0).frame.v.get 1).get 31 = 0x40400000#32 := by decide +kernel

theorem test_vcompress : let s := inCtx fun c => { c with
      v := c.v.put 2 (Bank.make 32 fun i => BitVec.ofNat 32 (i + 1))
      k := c.k.put 1 0x80000002#32 }
    let w := ((after (.vcompress 0 ⟨none, 1#5, 2#5, 0#5, 0#5, 1#3⟩) s).engine 0).frame.v.get 1
    (w.get 0, w.get 1, w.get 2) = (2#32, 32#32, 0#32) := by decide +kernel

theorem witness_CompressAndExpand : ((onEngine id).engine 0).ctx.pc < 4096 ∧
    (⟨none, 1#5, 2#5, 0#5, 0#5, 7#3⟩ : VecF).imm = none := by decide +kernel

theorem witness_EngineMemory_word :
    let s := inCtx fun c => c.setReg 2 0x3FFFFC#32
    let c := (s.engine 0).ctx
    let a := ((c.reg 2).toNat + (4 * (0#14 : BitVec 14).toInt % 2 ^ 32).toNat) % 2 ^ 32
    (a % 4 = 0 ∧ a < cisSpace ∧ s.cisHolds (a / cisBytes) = false ∧ s.engineOwner 0 = some 0 ∧ s.cisOwner (a / cisBytes) = some 0) ∧ s.mem.cisEcc = [] := by
  decide +kernel

theorem witness_EngineMemory_lanes :
    let s := inCtx fun c => { c.setReg 2 0x1FFFC0#32 with width := 32 }
    let c := (s.engine 0).ctx
    ∀ a ∈ (Claim.activeLanes c 0#3).map (Claim.laneAt c ⟨1#5, 2#5, 0#13, 0#3⟩ false),
      a % 4 = 0 ∧ a < cisSpace ∧ s.cisHolds (a / cisBytes) = false ∧ s.engineOwner 0 = some 0 ∧ s.cisOwner (a / cisBytes) = some 0 := by decide +kernel

theorem witness_EngineMemory_faults :
    (chained.engine 0).ctx.inTrap = false ∧ (4 * (0#14 : BitVec 14).toInt % 2 ^ 32).toNat = 0 ∧
    ∀ a ∈ [0x1, 0x3000000, 0x80000000], a % 4 ≠ 0 ∨ (cisSpace ≤ a ∧ a < 0x40000000) ∨ 0x80000000 ≤ a := by decide +kernel

theorem witness_TilesAndReductions :
    let leaf : Nat → Option FRes := fun i => if i < 3 then some (0x3F800000#32, 0#6) else none
    (Claim.pairTree (Claim.joined (fMax { rz := false, ftz := false })) leaf).isSome = true ∧
    (Claim.pairTree (Claim.joined (fMax { rz := false, ftz := false })) fun _ => (none : Option FRes)) = none := by decide +kernel

theorem witness_MasksSummariesAndSpores :
    let s := inCtx id
    let t := onEngine fun x => { x with programs := [(31, 0, 1)], spore := x.spore.put 0 ⟨1, 7, 0, 8, 0x3F800000#32⟩ }
    (s.engine 0).program 5 = none ∧ (t.engine 0).program 31 = some [⟨1, 7, 0, 8, 0x3F800000#32⟩] ∧
    ((⟨1, 7, 0, 8, 0x3F800000#32⟩ : MicroOp).dest < 8 ∧ (⟨1, 7, 0, 8, 0x3F800000#32⟩ : MicroOp).b ≤ 8) := by decide +kernel

/-! ### Arithmetic (chapter 10) -/

/-- Nearest even with subnormals kept, and the other modes. -/
def rne : FMode := { rz := false, ftz := false }

theorem witness_TruffleRounding :
    fIsFinite 0x7F7FFFFF#32 = true ∧ fIsFinite 0x00000001#32 = true ∧ Claim.units 0x00000001#32 = 1 ∧ Claim.units 0x80000001#32 = -1 ∧
    Claim.units 0x3F800000#32 = 2 ^ 149 ∧ Claim.units 0x80000000#32 = 0 := by decide

theorem witness_ZerosNansAndDivisors :
    (fIsFinite 0x3F800000#32 = true ∧ fIsZero 0x3F800000#32 = false ∧ fIsZero 0x80000000#32 = true) ∧ fIsSub 0x807FFFFF#32 = true ∧
    (fIn { rz := false, ftz := true } 0x807FFFFF#32).1 = 0x80000000#32 ∧ fIsNaN 0x7F800001#32 = true ∧ fIsSNaN 0x7F800001#32 = true ∧
    fIsSNaN 0x7FC00000#32 = false ∧ fIsNaN 0x7F800000#32 = false ∧ (Claim.units 0x3F800000#32 + Claim.units 0xBF800000#32 = 0) ∧
    fSign 0x3F800000#32 ≠ fSign 0xBF800000#32 := by decide

theorem test_halfway_to_even :
    (fAdd rne 0x3F800000#32 0x33800000#32).1 = 0x3F800000#32 ∧ (fAdd rne 0x3F800001#32 0x33800000#32).1 = 0x3F800002#32 ∧
    (fAdd { rne with rz := true } 0x3F800001#32 0x33800000#32).1 = 0x3F800001#32 := by decide +kernel

theorem test_divide_by_zero : fDiv rne 0x3F800000#32 0x80000000#32 = (0xFF800000#32, 2#6) := by decide +kernel

theorem test_min_of_zeros : (fMin rne 0#32 0x80000000#32).1 = 0x80000000#32 ∧ (fMax rne 0x80000000#32 0#32).1 = 0#32 := by decide +kernel

theorem witness_EngineWordsAndFields :
    Claim.engineEncode (.vfma 0 ⟨some 0x3F000000#32, 3#5, 0#5, 0#5, 2#5, 0#3⟩) = some (0, 0x620C0010#32, some 0x3F000000#32) ∧
    engineWord 0 0x620C0010#32 (some 0x3F000000#32) = some (.vfma 0 ⟨some 0x3F000000#32, 3#5, 0#5, 0#5, 2#5, 0#3⟩) := by decide

theorem test_reserved_words : engineWord 0 0x0C000000#32 none = none ∧ engineWord 0 0x620C0010#32 none = none := by decide

/-! ### The filter chain (chapter 12) -/

/-- A filter channel changed. -/
def withChan (c : Nat) (f : FcChan → FcChan) (s : State) : State := s.modFilter fun x => { x with chans := x.chans.upd c f }

/-- FC channels with records: AIN 0 and SEN 8 of tenancy 0, SUP 40. -/
def sensing : State :=
  withDev (fun d => { d with channels := [⟨40, 0x20, false, false⟩] }) (withTen (fun t =>
    { t with own := { t.own with periph := (5, 8) :: t.own.periph }, channels := [⟨0, 0, false, false⟩, ⟨8, 0x11, true, false⟩] }) run)

/-- The same with channel c on and changed. -/
def chanOn (c : Nat) (f : FcChan → FcChan) : State := withChan c (fun x => f { x with on := true }) sensing

theorem witness_FilterSamples_ain :
    sensing.fcActive 0 = false ∧ (chanOn 0 fun x => { x with modHold := 1 }).fcActive 0 = true ∧
    0 < ((chanOn 0 fun x => { x with modHold := 1 }).chan 0).modHold ∧ ((chanOn 7 id).chan 7).modHold = 0 ∧ (chanOn 7 id).fcActive 7 = true := by
  decide +kernel

theorem witness_FilterSamples_coarse :
    98 * 2048 ≤ 100 * (2008#12 : BitVec 12).toInt.natAbs ∧ 100 * (2007#12 : BitVec 12).toInt.natAbs < 98 * 2048 ∧
    2047 ≤ (0x801#12 : BitVec 12).toInt.natAbs ∧ ¬ 2047 ≤ (0x802#12 : BitVec 12).toInt.natAbs := by decide

theorem witness_FilterSamples_reset :
    ((chanOn 0 fun x => { x with fullRun := 63 }).chan 0).fullRun < 64 ∧ 64 ≤ ((chanOn 0 fun x => { x with fullRun := 64 }).chan 0).fullRun := by
  decide +kernel

theorem witness_FilterSamples_sen :
    let s := chanOn 8 id
    (s.fcActive 8 = true ∧ (s.chan 8).trig.toNat % 4 = 0 ∧ s.presetOf 8 ≠ presetDrift ∧ s.dcbOf 8 = false ∧ (s.chan 8).cal = none ∧
      (s.chan 8).history = []) ∧
    ((chanOn 8 fun x => { x with history := [0#24] }).chan 8).history ≠ [] ∧
    (let t := chanOn 8 fun x => { x with trig := 3#32 };
      (t.chan 8).trig.toNat % 4 ≠ 0 ∧ (t.chan 8).burst = none) ∧
    (let t := chanOn 8 fun x => { x with trig := 3#32, burst := some ⟨1⟩ };
      t.fcActive 8 = true ∧ (t.chan 8).trig.toNat % 4 ≠ 0 ∧ (t.chan 8).burst = some ⟨1⟩ ∧ (t.chan 8).cal = none) := by decide +kernel

theorem witness_FilterSamples_sup :
    let s := chanOn 40 fun x => { x with history := [0#24] }
    s.fcActive 40 = true ∧ s.dcbOf 40 = false ∧ s.presetOf 40 ≠ presetDrift ∧ (s.chan 40).history ≠ [] := by decide +kernel

theorem witness_FilterControlsAndCalibration_writes :
    sensing.dev.phase = .running ∧ sensing.seen 0 = true ∧ sensing.fcOwner 9 ≠ some 0 ∧ sensing.fcOwner 0 = some 0 ∧ sensing.fcOwner 8 = some 0 ∧
    sensing.fcOwner 43 = some 0 ∧ (sensing.chan 0).on = false ∧ ((chanOn 0 id).chan 0).ramp = .idle ∧ sensing.presetOf 8 ≠ presetDrift ∧
    (0x10003#32 : Word).toNat % 4 = 3 ∧ (0x10003#32 : Word).getLsbD 16 = true := by decide +kernel

theorem witness_FilterControlsAndCalibration_bursts :
    let s := chanOn 8 fun x => { x with burst := some ⟨32⟩ }
    let r : ChannelRec := ⟨8, 0x11, true, false⟩
    s.fcActive 8 = true ∧ (s.chan 8).burst = some ⟨32⟩ ∧ s.channelRec 8 = some r ∧ r.pend1 = true ∧ (s.chan 8).held = false ∧
    ((chanOn 8 fun x => { x with burst := some ⟨32⟩, held := true }).chan 8).held = true ∧ ((chanOn 8 id).chan 8).burst = none := by
  decide +kernel

theorem witness_FilterControlsAndCalibration_drift :
    let s := (chanOn 0 id).modSupply fun p => { p with level := 0 }
    (s.dev.phase = .running ∧ s.filter.driftPer ≠ 0#16 ∧ s.calHold = false ∧ s.filter.drift = none ∧ s.supply.level = 0) ∧
    ((List.range 8).map fun i => (s.filter.driftLast + 1 + i) % 8).find? (fun k => (s.chan k).on) = some 0 ∧
    gLt (gRatio 1 100) (fAbs (gRatio 1 100)) = false ∧ gLt (gRatio 1 100) (fAbs (gRatio 2 100)) = true := by decide +kernel

/-- A calibration in flight. -/
def calOp (cls n : Nat) (r : Nat) : LongOp :=
  { opT .calibrate with permit := .granted, retries := r, args := (Bank.all 8 0#32).put 0 (BitVec.ofNat 32 (cls + 256 * n)) }

/-- Channel c under that calibration, after some tries. -/
def calibrating (c kind tries : Nat) (bad : Bool) (codes : List Nat) : State :=
  withOp (calOp 0 c 0) (chanOn c fun x => { x with cal := some ⟨some 1#32, kind, tries, bad, codes, .measure⟩ })

theorem witness_FilterControlsAndCalibration_ain :
    let s := calibrating 7 0 4 true []
    ((s.chan 7).cal = some ⟨some 1#32, 0, 4, true, [], .measure⟩ ∧ s.findOp 1#32 = some (calOp 0 7 0) ∧ (calOp 0 7 0).code = .calibrate ∧
      (calOp 0 7 0).done = none ∧ (calOp 0 7 0).permit = .granted) ∧
    ((calibrating 7 0 3 true []).chan 7).cal = some ⟨some 1#32, 0, 3, true, [], .measure⟩ ∧
    ((calibrating 7 0 3 false []).chan 7).cal = some ⟨some 1#32, 0, 3, false, [], .measure⟩ := by decide +kernel

theorem witness_FilterControlsAndCalibration_sen :
    let codes := List.replicate 128 1000 ++ List.replicate 128 1002
    let s := calibrating 8 1 1 false codes
    ((s.chan 8).cal = some ⟨some 1#32, 1, 1, false, codes, .measure⟩ ∧ s.findOp 1#32 = some (calOp 0 8 0) ∧ codes.length = 256 ∧ (s.chan 8).held = false) ∧
    256 * (codes.map fun x => x * x).sum - codes.sum * codes.sum ≤ (256 * (s.chan 8).calNoise.toNat) * (256 * (s.chan 8).calNoise.toNat) ∧
    256 * ((s.chan 8).zWin.toNat % 2 ^ 16) ≤ codes.sum ∧ codes.sum ≤ 256 * ((s.chan 8).zWin.toNat / 2 ^ 16) ∧
    gLt (fAbs (gSub (gRatio (codes.sum : Nat) 256) (s.chan 8).coef1)) (gOfInt 1024) = false := by decide +kernel

theorem witness_FilterControlsAndCalibration_outputs :
    ((calOp 3 15 0).args.get 0).toNat % 256 = 3 ∧ ((calOp 3 15 0).args.get 0).toNat / 256 % 256 = 15 ∧ ((calOp 2 15 3).args.get 0).toNat % 256 = 2 ∧
    ((calOp 2 15 3).args.get 1 = 0#32) ∧ (withOp (calOp 3 15 0) run).findOp 1#32 = some (calOp 3 15 0) ∧ ¬ (calOp 2 15 3).retries < 3 := by
  decide +kernel

/-- Chapter 12's example of the moving average (R289): 32 conversions of 0x7F80 have the mean 32,640.0. -/
theorem test_moving_average :
    ((after (.senConversion 0 0x7F80#16) (chanOn 8 id)).chan 8).fine = gOfInt 32640 := by decide +kernel

theorem test_offset_written : ((after (.ainCalMeasureEnd 7 0x3C000000#32) (calibrating 7 0 1 false [])).chan 7).coef0 = 0x3C000000#32 := by
  decide +kernel

theorem test_cv_gain : ((after (.outputCalMeasureEnd 1#32 ⟨0x48800000#32, false, true⟩) (withOp (calOp 2 15 0) run)).ops.map
    fun o => o.done.map Completion.status) = [some csLoaded] := by decide +kernel

/-! ### The Spout and the serial audio ports (chapter 13) -/

/-- Tenancy 0 with CV groups 0 and 1, strobed by LDAC_N and by software; a bus drives CV 8. -/
def voltages : State := withTen (fun t =>
  { t with own := { t.own with periph := (7, 1) :: t.own.periph }, spout :=
    { t.spout with groups := [⟨4, 2, 1⟩, ⟨5, 3, 1⟩], busOut := [⟨0, 1, 8⟩] } }) run

theorem witness_SpoutAndOutputs_gains :
    run.dev.phase = .running ∧ run.seen 0 = true ∧ run.periphOwner pcBus 1 ≠ some 0 ∧ run.periphOwner pcBus 0 = some 0 ∧
    gainAllowed 0x41800000#32 = true ∧ gainAllowed 0xC1800000#32 = true ∧ gainAllowed 0x41800001#32 = false ∧ gainAllowed 0x7FC00000#32 = false := by
  decide +kernel

theorem witness_SpoutAndOutputs_voltages :
    run.groupOwner 5 ≠ some 0 ∧ voltages.groupOwner 4 = some 0 ∧ voltages.groupOwner 5 = some 0 ∧ voltages.cvDriven 7 = false ∧
    voltages.cvDriven 8 = true ∧ voltages.dev.phase = .running ∧ run.groupOwner 5 = none ∧ voltages.strobeSrc 0 = .ldac ∧
    voltages.strobeSrc 1 = .software := by decide +kernel

theorem witness_SpoutAndOutputs_precharge :
    let s := run.modSpout fun p => { p with
      lga := p.lga.upd 0 fun g => { g with precharge := true }
      fades := p.fades.upd 0 fun f => { f with target := 0#32 } }
    s.dev.phase = .running ∧ (s.spout.lga.get 0).precharge = true ∧ s.groupOwner 0 = some 0 ∧ s.spawned 0 = true ∧
    (s.spout.fades.get 0).target ≠ 0x3F800000#32 := by decide +kernel

/-- CV 3 of group 0 with shadow 1,000, gain 1.0 and offset 24. -/
def shadowed (seq : BitVec 16) : State := voltages.modSpout fun p => { p with
  cvs := p.cvs.upd 3 fun c => { c with shadow := 1000#18, offset := 0x41C00000#32 }
  lgc := p.lgc.upd 0 fun g => { g with seq := seq } }

theorem test_ldac_strobes :
    ((after .ldacNFall (shadowed 2#16)).spout.cvs.get 3).out = 1024#18 ∧ ((after .ldacNFall (shadowed 3#16)).spout.cvs.get 3).out = 0#18 ∧
    ((after .ldacNFall (shadowed 3#16)).spout.lgc.get 0).halfCnt = 1 := by decide +kernel

theorem test_software_strobe_elsewhere :
    ((after (.cvStrobeWrite 0 0 1#32) (shadowed 2#16)).spout.cvs.get 3).out = 0#18 := by decide +kernel

theorem witness_SerialAudioPorts :
    run.periphOwner pcSap 2 ≠ some 0 ∧ run.periphOwner pcSap 1 = some 0 ∧ (run.sap.get 1).en = false ∧
    (let s := run.modSap fun b => b.upd 1 fun x => { x with en := true, cfg := 0x20#32, noFs := true };
      (s.sap.get 1).en = true ∧ (s.sap.get 1).cfg.getLsbD 5 = true ∧ (s.sap.get 1).noFs = true) ∧
    (0x18#32 : Word).toNat / 8 % 4 = 3 ∧ (0x07#32 : Word).getLsbD 0 = true ∧ (0x07#32 : Word).getLsbD 5 = false ∧ run.fs ≤ 48000 ∧
    3 ≤ (0x07#32 : Word).toNat / 2 % 4 := by decide +kernel

theorem test_sap_slots :
    ((after (.sapCfgWrite 0 1 0x07#32) run).sap.get 1).cfg = 7#32 ∧
    ((after (.sapCfgWrite 0 1 0x05#32) (withDev (fun d => { d with fs := 4 }) run)).sap.get 1).cfg = 1#32 := by decide +kernel

/-! ### The network ports (chapter 14) -/

/-- Port 0 up with an address, able to gPTP in a role. -/
def networked (role : Nat) (f : NetPort → NetPort) : State :=
  let up (x : NetPort) : NetPort := f { x with link := true, mac := 0x665544332211#48, asCapable := true }
  (withDev (fun d => { d with ports := [⟨0, 0, role, 100⟩] }) run).modNet fun n => { n with ports := n.ports.upd 0 up }

theorem witness_NetworkTraffic_ports :
    run.dev.phase.networked = true ∧ run.portRec 1 = none ∧ (run.portRec 0).isSome = true ∧ run.mediaGone = false ∧
    (withDev (fun d => { d with clock := 1 }) run).mediaGone = true ∧ run.dev.holdover = false ∧ (networked 0 id).portUp 0 = true ∧
    run.dev.phase = .running ∧ run.seen 0 = true ∧ run.seen 1 = true := by decide +kernel

/-- A frame of n bytes without its FCS to a broadcast address, of a type of its own. -/
def frameT (n : Nat) (good : Bool) : RxFrame := ⟨List.replicate 12 0xFF#8 ++ List.replicate (n - 12) 0x12#8, good, 0#64⟩

/-- The networked state with every frame steered to PKT well 3. -/
def steered (fill : Nat) : State := ((networked 0 id).modNet fun n => { n with defWell := 0x103#9 }).modWells fun b =>
  b.upd 3 fun x => { x with p := BitVec.ofNat 16 fill }

theorem witness_NetworkTraffic_frames :
    1522 < (frameT 1519 true).bytes.length + 4 ∧ (frameT 1518 true).bytes.length + 4 ≤ 1522 ∧ (frameT 59 true).bytes.length + 4 < 64 ∧
    64 ≤ (frameT 60 true).bytes.length + 4 ∧ gptpTaken (frameT 60 true).bytes = false ∧ run.avtpTaken 0 (frameT 60 true).bytes = false ∧
    (networked 0 id).steer 0 (frameT 60 true).bytes = none ∧ (frameT 60 false).fcsGood = false := by decide +kernel

theorem witness_NetworkTraffic_wells :
    let f := frameT 60 true
    ((steered 62).steer 0 f.bytes = some 3 ∧ (steered 62).wellRec 3 = some (0, ⟨3, .pkt, 6, 0x4000⟩)) ∧
    ((steered 62).wells.get 3).fill + (pktEntries 0 0 0#64 f.bytes).length ≤ wellCapacity 6 ∧
    wellCapacity 6 < ((steered 63).wells.get 3).fill + (pktEntries 0 0 0#64 f.bytes).length := by decide +kernel

theorem witness_NetworkTraffic_quiet (k : Nat) : Claim.quiet (steered k) ∧ Claim.memoriesWf (steered k) :=
  ⟨fun i hi => run_quiet i hi, (by decide : State.reset.mem.cis.wf = true), (by decide : State.reset.mem.aq.wf = true),
    (by decide : State.reset.mem.sealedData.wf = true)⟩

/-- The networked state with well 3 transmitting, and one whole frame of 14 bytes in it. -/
def sendingT : State := (((networked 0 id).modNet fun n => { n with txWell := n.txWell.put 0 0x103#9 }).modWells fun b =>
  b.upd 3 fun x => { x with p := 1#16 }).modMem fun m => { m with cis := m.cis.putBytes 0x4000 [14#8, 0#8, 3#8] }

theorem witness_NetworkTraffic_transmit :
    sendingT.wellRec 3 = some (0, ⟨3, .pkt, 6, 0x4000⟩) ∧ sendingT.portSends 0 = true ∧ sendingT.txTurn 0 = some (0, 3) ∧
    (networked 0 id).txTurn 0 = none ∧ (networked 0 id).portSends 1 = false ∧
    sendingT.txFrame ⟨3, .pkt, 6, 0x4000⟩ 1 0 true [] = ([[14#8, 0#8, 3#8] ++ List.replicate 61 0#8], true) ∧
    14 ≤ ((14#8 : Byte)).toNat + 256 * ((0#8 : Byte)).toNat ∧ ([[14#8, 0#8, 3#8] ++ List.replicate 61 (0#8 : Byte)]).length = 1 + ceilDiv (14 - 48) 56 := by
  decide +kernel

/-- Listener 0 runs on the port. -/
def listening : State := networked 0 id

/-- An AAF packet for it. -/
def aafT (t : Word) : AafPacket := ⟨0#64, true, 2#8, 2#8, 24#8, 5#4, 2, 0#8, t, [0#32, 0#32]⟩

theorem witness_NetworkTraffic_listener :
    let r : StreamRec := ⟨true, 0, 0, 2, 0#64, 0, 0⟩
    (listening.streamRec true 0 = some (0, r) ∧ (listening.net.listeners.get 0).en = true ∧ listening.portUp 0 = true ∧ (aafT 0#32).streamId = r.streamId) ∧
    aafMatches r 1 (aafT 0#32) = true ∧ aafMatches r 1 { aafT 0#32 with bitDepth := 32#8 } = false ∧ r.channels = (aafT 0#32).words.length ∧
    ((run.modNet fun n => { n with listeners := n.listeners.upd 0 fun x => { x with en := false } }).net.listeners.get 0).en = false ∧
    (let last := (listening.net.ports.get 0).gtime.toNat;
      nearestTime (listening.gptpTime 0 listening.nowNs) 0 ≤ last ∧
      last + 1000000000 / listening.fs < nearestTime (listening.gptpTime 0 listening.nowNs) 30000 ∧
      30000 * listening.fs ≤ (last + 1000000000 / listening.fs) * listening.fs + 768 * 1000000000) := by decide +kernel

theorem witness_NetworkTraffic_crf :
    let s := ((networked 0 id).modNet fun n => { n with crfCtl := 3#3, crfStamps := [0#64, 1#64, 2#64, 3#64, 4#64, 5#64] })
    s.net.crfCtl.getLsbD 1 = true ∧ s.portUp 0 = true ∧ s.fs = 48000 ∧ s.net.crfCtl.getLsbD 2 = false ∧ s.net.crfCtl.getLsbD 0 = true ∧
    s.portSends 0 = true ∧ 6 ≤ s.net.crfStamps.length ∧ (withDev (fun d => { d with clock := 1 }) s).mediaPort.isSome = true ∧
    s.dev.holdover = false := by decide +kernel

/-- An Announce of another clock, of a priority. -/
def announceT (p : Byte) (src : DWord) : GptpAnnounce := ⟨p, 248#8, 0xFE#8, 0x436A#16, 248#8, 1#64, 0#16, src, false⟩

/-- The gPTP port with a known Announce and a Sync that waits. -/
def timed (role : Nat) (g : Gptp → Gptp) (f : NetPort → NetPort) : State :=
  networked role fun x => f { x with gptp := g { x.gptp with best := some (announceT 90#8 7#64) } }

theorem witness_GptpExchange_sync :
    let s := timed 1 (fun g => { g with sync := some ⟨7#64, 1#16, 1000⟩ }) id
    s.gptpRole 0 ≠ 0 ∧ (s.net.ports.get 0).isGm = false ∧ (s.net.ports.get 0).asCapable = true ∧
    (s.net.ports.get 0).gptp.best = some (announceT 90#8 7#64) ∧ (s.net.ports.get 0).gptp.sync = some ⟨7#64, 1#16, 1000⟩ ∧
    (s.net.ports.get 0).gptp.fromSync = false ∧ s.portSends 0 = true := by decide +kernel

theorem witness_GptpExchange_announce :
    let s := timed 2 id id
    s.gptpRole 0 ≠ 0 ∧ (announceT 80#8 8#64).steps.toNat < 255 ∧ (announceT 80#8 8#64).source ≠ (s.net.ports.get 0).identity ∧
    betterRank (announceRank (announceT 80#8 8#64)) (announceRank (announceT 90#8 7#64)) = true ∧
    betterRank (announceRank (announceT 91#8 8#64)) (announceRank (announceT 90#8 7#64)) = false ∧
    ((networked 2 id).net.ports.get 0).gptp.best = none ∧ ((networked 2 id).ownAnnounce 0).isSome = true := by decide +kernel

theorem witness_GptpExchange_delay :
    let s := timed 2 (fun g => { g with t1 := 100, t2 := 200, t4 := 900 }) fun x => { x with isGm := true }
    (s.net.ports.get 0).gptp.t4 ≠ 0 ∧ (s.net.ports.get 0).gptp.peer = none ∧ (s.net.ports.get 0).isGm = true ∧
    (s.net.ports.get 0).asCapable = true := by decide +kernel

/-- The identity of chapter 14: 0xFFFE after the third byte of the address. -/
theorem test_identity : ((networked 0 id).net.ports.get 0).identity = 0x112233FFFE445566#64 := by decide +kernel

theorem test_sync_completes :
    ((after (.gptpFollowUp 0 ⟨7#64, 1#16, 5000, 4⟩) (timed 1 (fun g => { g with sync := some ⟨7#64, 1#16, 1000⟩ }) fun x =>
      { x with pdelay := 50#32 })).net.ports.get 0).gptp.refTime = 5054 := by decide +kernel

theorem test_elected : ((after (.gptpSyncTimeout 0) (timed 2 id id)).net.ports.get 0).isGm = true ∧
    ((after (.gptpSyncTimeout 0) (timed 1 id id)).net.ports.get 0).isGm = false := by decide +kernel

theorem test_pkt_entry : ((after (.rxFrame 0 (frameT 60 true)) (steered 0)).mem.cis.getBytes 0x4000 8,
    ((after (.rxFrame 0 (frameT 60 true)) (steered 0)).wells.get 3).p) = ([60#8, 0#8, 5#8, 0#8, 0#8, 0#8, 0#8, 0#8], 2#16) := by decide +kernel

theorem test_holdover :
    let s := withDev (fun d => { d with clock := 1 }) ((networked 0 id).modNet fun n => { n with crfCtl := 2#3 })
    (after .crfTimeout s).dev = { s.dev with holdover := true, mediaLock := false } ∧ ((after .crfTimeout s).evs.src.get 1005).pend = true := by
  decide +kernel

/-! ### USB (chapter 14) -/

/-- A device descriptor, and a configuration 1 of one MIDI streaming interface 0. -/
def descT : List Byte :=
  [18#8, 1#8, 0#8, 2#8, 0#8, 0#8, 0#8, 64#8, 0#8, 0#8, 0#8, 0#8, 0#8, 0#8, 0#8, 0#8, 0#8, 1#8] ++
    [9#8, 2#8, 18#8, 0#8, 1#8, 1#8, 0#8, 0x80#8, 50#8] ++ [9#8, 4#8, 0#8, 0#8, 0#8, 1#8, 3#8, 0#8, 0#8]

/-- RUNNING with the device on the bus, group 0 of both settings mapped to tenancy 0. -/
def onBus (f : UsbState → UsbState) : State :=
  (withDev (fun d => { d with usbDesc := descT, midiMap := [⟨0, 0, 0⟩, ⟨1, 0, 0⟩] }) run).modUsb fun u =>
    f { u with vbus := true, attached := true, phase := .configured, config := 1#8 }

theorem witness_UsbDevice_bus :
    run.dev.phase = .running ∧ run.usb.attached = false ∧ (onBus id).usb.attached = true ∧ (onBus id).usb.suspended = false ∧
    (onBus fun u => { u with suspended := true }).usb.suspended = true := by decide +kernel

theorem witness_UsbDevice_requests :
    let s := onBus id
    (((s.descriptor 2 0).getD []).getD 5 0#8 = 1#8) ∧ s.midiInterface = some 0 ∧ s.hasInterface 0 = true ∧ s.hasInterface 1 = false ∧
    (s.usb.phase = .configured) ∧ (onBus fun u => { u with phase := .default_ }).usb.phase = .default_ ∧
    (onBus fun u => { u with phase := .address }).usb.phase ≠ .configured ∧ (0x2600#16 : BitVec 16).toNat / 256 ∈ [1, 2, 3, 6, 0x26] ∧
    (0x0400#16 : BitVec 16).toNat / 256 ∉ [1, 2, 3, 6, 0x26] ∧ (0x82#8 : Byte).toNat % 32 = 2 ∧ (0x80#8 : Byte).toNat % 32 = 0 := by decide +kernel

theorem witness_UsbDevice_out :
    let note : RawEvent := default
    (onBus id).usb.alt = false ∧ (onBus id).usb.haltOut = false ∧ (onBus id).front.usb1.length < 16 ∧
    16 ≤ ((onBus id).modFront fun f => { f with usb1 := List.replicate 16 note }).front.usb1.length ∧
    (usbMidiMsg 0x643C9009#32).isSome = true ∧ (onBus id).midiMap 0 0 = some 0 ∧ (onBus id).midiMap 0 15 = none ∧
    (onBus fun u => { u with alt := true }).usb.alt = true ∧ (onBus id).usb.outPart = [] ∧ (umpMsg [0x20903C64#32]) = .midi1 0 0x90#8 0x3C#8 0x64#8 ∧
    umpWords 0x20903C64#32 = 1 ∧ (umpGroup 0x20903C64#32).bind ((onBus id).midiMap 1) = some 0 := by decide +kernel

theorem witness_UsbDevice_txdata :
    let s := onBus fun u => { u with tx := u.tx.upd 0 fun x => { x with asm := [0x40903C00#32] } }
    (([] : List Word) ++ [0x40903C00#32]).length < umpWords 0x40903C00#32 ∧
    umpWords 0x40903C00#32 ≤ ((s.usb.tx.get 0).asm ++ [0x12340000#32]).length ∧ s.midiMap 0 0 = some 0 ∧ umpGroup 0x40903C00#32 = some 0 ∧
    umpGroup 0x41903C00#32 = some 1 ∧ s.midiMap 0 1 = none ∧
    (let x : UsbTx := ⟨[], List.replicate 63 [0x20903C64#32], 0#3, 0⟩; x.fill + 1 ≤ 64 ∧ 64 < x.fill + 2) := by decide +kernel

theorem witness_UsbDevice_in :
    let s := onBus fun u => { u with tx := u.tx.upd 7 fun x => { x with queue := [[0x20903C64#32]] } }
    ((List.range 8).map fun i => (s.usb.rr + i) % 8).find? (fun k => !(s.usb.tx.get k).queue.isEmpty) = some 7 ∧ s.usb.haltIn = false ∧
    (s.usb.tx.get 7).queue = [[0x20903C64#32]] ∧ (usbConvert [0x20903C64#32]).isSome = true ∧ usbConvert [0x50000000#32] = none := by decide +kernel

/-- A USB-MIDI packet of cable 0, note on: code index 9 in byte 0, then the three MIDI bytes. -/
theorem test_usb_in : (after .usbInSend (onBus fun u => { u with tx := u.tx.upd 7 fun x => { x with queue := [[0x20903C64#32]] } })).outs.head? =
    some (.usbIn [0x643C9009#32]) := by decide +kernel

theorem test_get_descriptor : (after (.getDescriptor ⟨0x80#8, 6#8, 0x0200#16, 0#16, 9#16⟩) (onBus id)).outs.head? =
    some (.usbControl (some [9#8, 2#8, 18#8, 0#8, 1#8, 1#8, 0#8, 0x80#8, 50#8])) := by decide +kernel

/-! ### Timers, keybed and serial ports (chapter 15) -/

/-- Timer channel 0.0 started and running in a mode, changed. -/
def timing (mode : Nat) (f : TimerChan → TimerChan) : State := run.modTimers fun b => b.upd 0 fun c => c.upd 0 fun x =>
  f { x with cfg := BitVec.ofNat 15 mode, run := true, started := true }

theorem witness_TimersAndKeybed_ticks :
    let s := timing 4 fun x => { x with cnt := 0xFFFFFFFF#32, ext := 0xFFFF#16 }
    (s.dev.phase.hosted = true ∧ (s.tchan 0 0).started = true ∧ (s.tchan 0 0).run = true ∧ (s.tchan 0 0).mode = 4) ∧
    (s.tchan 0 0).cnt + 1#32 = (s.tchan 0 0).cmp ∧ (s.tchan 0 0).cfg.getLsbD 14 = false ∧
    ((timing 0x4003 id).tchan 0 0).mode = 3 ∧ ((timing 0x4003 id).tchan 0 0).cfg.getLsbD 14 = true ∧ ((timing 0x4003 id).tchan 0 0).msg = none ∧
    s.front.timers.length < 16 ∧ ((timing 5 id).tchan 0 0).mode = 5 ∧ ((timing 6 id).tchan 0 0).mode = 6 ∧ ((timing 1 id).tchan 0 0).mode ≤ 2 ∧
    ((timing 5 fun x => { x with add := 1#32 }).tchan 0 0).add.toNat ≤ 0 + 1 ∧ 0 + 1 < ((timing 5 fun x => { x with add := 2#32 }).tchan 0 0).add.toNat := by
  decide +kernel

theorem witness_TimersAndKeybed_captures :
    (0x181#15 : BitVec 15).toNat / 2 ^ 7 % 4 = 3 ∧ (0x101#15 : BitVec 15).toNat / 2 ^ 7 % 4 = 2 ∧
    ((timing 0x101 id).tchan 0 0).mode = 1 ∧ ((timing 0x101 id).tchan 0 0).cfg.getLsbD 14 = false ∧ ((timing 0x101 id).tchan 0 0).pin = false ∧
    ((timing 2 id).tchan 0 0).mode = 2 ∧ ((timing 2 id).tchan 0 0).first = false ∧
    ((timing 2 fun x => { x with first := true, pin := true }).tchan 0 0).first = true := by decide +kernel

theorem witness_TimersAndKeybed_registers :
    run.dev.phase = .running ∧ run.seen 0 = true ∧ run.periphOwner pcTimer 23 ≠ some 0 ∧ run.periphOwner pcTimer 0 = some 0 ∧
    run.time.framesRun = true ∧ (run.timerRec 0 0).isSome = true ∧ (run.tchan 0 0).started = false := by decide +kernel

/-- The keybed past its first scan. -/
def scanning (f : KeybedState → KeybedState) : State := run.modKeybed fun k => f { k with setup := false }

theorem witness_TimersAndKeybed_keys :
    let s := scanning fun k => { k with keys := k.keys.upd 32 fun x => { x with a := { x.a with closed := true } } }
    ∃ r, s.keybedRec = some (0, r) ∧ s.dev.phase.hosted = true ∧ s.keybed.en = true ∧ s.keybed.setup = false ∧ s.keybed.missed = [] ∧ 5 + 1 < r.lines ∧
      (∀ i < 16, i ≠ 0 → (0xFFFE#16 : BitVec 16).getLsbD i = true) ∧ (0xFFFE#16 : BitVec 16).getLsbD 0 = false ∧ 32 < r.keys ∧
      (s.keybed.keys.get 32).a.closed = true ∧ (s.keybed.keys.get 32).b.closed = false ∧ (s.keybed.keys.get 32).mute = false ∧
      (s.keybed.keys.get 32).sounding = false ∧ s.keybed.buffer.length + s.keybed.scan.length < 64 ∧ 7 + 1 = r.lines ∧ s.front.keybed = [] :=
  ⟨⟨61, 36, 0, 0⟩, by decide +kernel⟩

theorem test_timer_wrap : let s := after (.timerTick 0 0) (timing 1 fun x => { x with cnt := 0xFFFFFFFF#32, ext := 0xFFFF#16 })
    ((s.tchan 0 0).cnt, (s.tchan 0 0).ext, (s.tchan 0 0).stat) = (0#32, 0#16, 20#6) := by decide +kernel

theorem test_pwm : ((after (.timerTick 0 0) (timing 5 fun x => { x with cnt := 9#32, add := 10#32, cmp := 3#32, cmpNext := some 0#32 })).tchan 0 0).pin =
    false := by decide +kernel

theorem test_key : (after (.keybedSlotSample 5 0xFFFE#16) (scanning fun k => { k with keys := k.keys.upd 32 fun x =>
    { x with a := { x.a with closed := true } } })).keybed.scan.length = 1 := by decide +kernel

/-- A character port enabled and changed. -/
def charPort (n : Nat) (f : UartState → UartState) : State := run.modUarts fun b => b.upd n fun u => f { u with en := true }

theorem witness_CharacterPortsI2cFlash_uarts :
    (run.uartMode 2 = some .async ∧ run.uartMode 1 = some .panel9 ∧ run.uartMode 3 = some .card ∧ run.uartMode 0 = some .midi ∧ run.uartMode 7 = none) ∧
    ((charPort 1 fun u => { u with afilt := true }).uarts.get 1).afilt = true ∧ (run.uarts.get 3).rxRun < (run.uarts.get 3).card.toNat / 2 ^ 20 % 8 ∧
    (3 : Nat) ≤ (run.uarts.get 3).card.toNat / 2 ^ 20 % 8 ∧ run.uartTrigger 2 = 8 ∧
    16 ≤ ((charPort 2 fun u => { u with rx := List.replicate 16 0#32 }).uarts.get 2).rx.length ∧
    run.time.framesRun = true ∧ (run.front.uarts.get 0).length < 16 := by decide +kernel

theorem witness_CharacterPortsI2cFlash_registers :
    run.periphOwner pcUart 3 = some 0 ∧ ((charPort 2 fun u => { u with rx := [0x41#32] }).uarts.get 2).rx = 0x41#32 :: [] ∧
    (run.uarts.get 0).rx = [] ∧ (5 ≤ (0x25#32 : Word).toNat % 16) ∧ ((0x25#32 : Word).toNat / 16 % 4 ≠ 3) ∧ (0x29#32 : Word).toNat % 16 ≤ 9 ∧
    ((charPort 2 fun u => { u with tx := List.replicate 16 0#9 }).uarts.get 2).tx.length = 16 := by decide +kernel

/-- Note on by running status at the MIDI port: three characters, then two more data bytes. -/
theorem test_midi_running_status :
    let c (x : BitVec 9) : Instr := .uartRxChar 0 ⟨x, false, false, false⟩
    (after (c 0x40#9) (after (c 0x3E#9) (after (c 0x64#9) (after (c 0x3C#9) (after (c 0x90#9) (charPort 0 id)))))).front.uarts.get 0 =
      [plainEvent (midiMsg 0 0x90#8 0x3C#8 0x64#8) 0, plainEvent (midiMsg 0 0x90#8 0x3E#8 0x40#8) 0] := by decide +kernel

/-- An I2C controller changed. -/
def i2cT (f : I2cState → I2cState) : State := run.modI2c fun b => b.upd 0 fun x => f { x with ready := true }

theorem witness_CharacterPortsI2cFlash_i2c :
    run.periphOwner pcI2c 0 = some 0 ∧ (0x00FF#32 : Word).toNat / 2 ^ 8 % 256 = 0 ∧ (0x0100#32 : Word).toNat / 2 ^ 8 % 256 ≠ 0 ∧
    4 ≤ ((i2cT fun x => { x with cmds := List.replicate 4 0x150#32 }).i2c.get 0).cmds.length ∧ (run.i2c.get 0).cmds = [] ∧
    ((i2cT fun x => { x with cmds := [0x150#32] }).i2c.get 0).txf = [] ∧ ((i2cT fun x => { x with rxf := [1#8] }).i2c.get 0).rxf = 1#8 :: [] ∧
    (let x := (i2cT fun x => { x with cmds := [0x01D0#32], rxf := List.replicate 15 0#8 }).i2c.get 0;
      x.cmds = [0x01D0#32] ∧ x.ready = true ∧ x.ending = false ∧ (0x01D0#32 : Word).getLsbD 7 = true ∧ (0x01D0#32 : Word).toNat / 2 ^ 8 % 256 = 1 ∧
      x.rxf.length + 1 ≤ 16) ∧
    (0x0150#32 : Word).getLsbD 7 = false ∧ ((i2cT fun x => { x with cmds := [0x150#32], sent := 1 }).i2c.get 0).sent = 1 := by decide +kernel

theorem witness_CharacterPortsI2cFlash_flash :
    run.flash.released = false ∧ run.flash.busy = false ∧ (run.modFlash fun f => { f with released := true, busy := true }).flash.released = true ∧
    (run.modFlash fun f => { f with released := true, busy := true }).flash.busy = true ∧ (0xFFFFFFFC#32 : Word).toNat % 4 = 0 := by decide

/-! ### Stage pairs (chapter 17) -/

/-- RUNNING as one device of a stage pair with the link up, changed. -/
def paired (r : PairRole) (f : PairState → PairState) : State :=
  (withDev (fun d => { d with role := r }) run).modPair fun p => f { p with link := true, rxSeq := some 0xFFFF#16, req := true }

/-- A head that is next in sequence. -/
def nextT : LinkHead := ⟨true, 0#16⟩

theorem witness_StagePairs_link :
    (paired .primary id).inPair = true ∧ (paired .standby id).inPair = true ∧ run.inPair = false ∧ (paired .standby id).pair.link = true ∧
    (paired .standby fun p => { p with link := false }).pair.link = false ∧ (paired .standby id).pair.pdigestKnown = false ∧
    ((0#32 : Word) = (paired .standby id).pairCfg.digest ∨ (1#32 : Word) = (paired .standby id).pairCfg.digest) := by decide +kernel

theorem witness_StagePairs_heads :
    Claim.taken (paired .standby id) nextT ∧ ¬ Claim.taken (paired .standby id) ⟨true, 1#16⟩ ∧ ¬ Claim.taken (paired .standby id) ⟨false, 0#16⟩ ∧
    (⟨nextT, 0#64, 0#32, 0#32⟩ : FramePkt).head = nextT ∧ (⟨nextT, []⟩ : SyncPkt).head = nextT := by
  refine ⟨⟨rfl, ?_⟩, ?_, ?_, rfl, rfl⟩
  · intro q h; cases h; decide
  · rintro ⟨-, h⟩; exact absurd (h _ rfl) (by decide)
  · rintro ⟨h, -⟩; exact absurd h (by decide)

theorem witness_StagePairs_packets :
    (paired .primary fun p => { p with forwarder := true }).pair.forwarder = true ∧ (paired .standby id).pair.forwarder = false ∧
    (paired .standby id).dev.phase.frames = true ∧ (paired .standby id).role = .standby ∧
    (paired .standby fun p => { p with own := true }).pair.own = true ∧ (0#64).toNat < (1#64).toNat ∧ (paired .standby id).front.adeder.length < 256 ∧
    256 ≤ ((paired .standby id).modFront fun f => { f with adeder := List.replicate 256 default }).front.adeder.length := by decide +kernel

theorem witness_StagePairs_mirror :
    (∀ i < 64, (paired .standby id).mirrored (0x10FC0 + i) = true) ∧ (∃ i < 64, (paired .standby id).mirrored (0x10FC1 + i) = false) ∧
    0x10FC0 + 64 ≤ cisBytes ∧ (List.replicate 64 (7#8 : Byte)).length = 64 :=
  ⟨by decide +kernel, ⟨63, by decide, by decide +kernel⟩, by decide, by decide⟩

theorem witness_StagePairs_pins :
    (paired .standby fun p => { p with switch := some .frozen }).pair.switch = some .frozen ∧
    (paired .standby fun p => { p with switch := some (.incoming 2) }).pair.switch = some (.incoming 2) ∧ (paired .standby id).pair.req = true ∧
    (withDev (fun d => { d with role := .referee }) run).role = .referee ∧ run.role ≠ .referee ∧ run.pair.selOut = true ∧
    (run.modPair fun p => { p with selOut := false }).pair.selOut = false := by decide +kernel

/-- A PAIR_SYNC that holds its permit. -/
def syncT : LongOp := { opT .pairSync with permit := .granted, started := true }

/-- A device that has taken its partner's digest, equal to its own. -/
def agreed (s : State) : State := s.modPair fun p => { p with pdigestKnown := true, pdigest := s.pairCfg.digest }

theorem witness_StagePairs_commit :
    let s := agreed (withOp syncT (paired .primary fun p => { p with forwarder := true, syncAt := some 1#64 }))
    s.pair.pdigestKnown = true ∧ s.pair.pdigest = s.pairCfg.digest ∧ (paired .standby id).pair.pdigestKnown = false ∧ s.pair.syncAt = some 1#64 ∧ s.syncOp = some syncT ∧ s.findOp syncT.handle = some syncT ∧ syncT.done = none ∧
    s.time.frameIdx.toNat < (1#64 : DWord).toNat ∧ (s.modTime fun t => { t with frameIdx := 1#64 }).time.frameIdx.toNat = 1 ∧
    (paired .standby id).pair.syncWords = [] ∧ (paired .standby fun p => { p with syncWords := [0#32] }).pair.syncWords ≠ [] := by decide +kernel

theorem test_event_discarded_unsynchronises :
    let t := after (.syncPacket ⟨⟨false, 0#16⟩, []⟩) (paired .standby fun p => { p with synced := true })
    (t.pair.synced, t.pair.cause, t.pair.crcErr) = (false, 2#4, 1) := by decide +kernel

theorem test_unmarked_mirror : (after (.mirrorPacket ⟨nextT, 0, 0x11000, List.replicate 64 7#8⟩) (paired .standby id)).pair.cause = 8#4 := by
  decide +kernel

theorem test_oe_set : ((after .oeSet (paired .standby id)).pair.own, (after .oeSet (paired .standby fun p => { p with req := false })).pair.own) =
    (true, false) := by decide +kernel

/-! ### The Windlass and the supply watch (chapter 16) -/

/-- Twelve thermometer readings of one value, all of them sound. -/
def tmonT (x : BitVec 32) : List (BitVec 32 × Bool) := List.replicate 12 (x, true)

theorem witness_MonitorsAndStages :
    let rs := (List.range 12).map fun k => (tmonT 0x42BE0000#32).getD k (0#32, false)
    let med := medianF ((rs.filter Prod.snd).map Prod.fst)
    run.dev.phase.monitors = true ∧
    (rs.filter fun y => y.2 && gLe (fAbs (gSub y.1 med)) (gOfInt 15)).map Prod.fst = 0x42BE0000#32 :: List.replicate 11 0x42BE0000#32 ∧
    gLe (gOfInt 95) 0x42BE0000#32 = true ∧ gLe (gOfInt 95) 0x42BDFFFF#32 = false ∧ gLt 0x42B80000#32 (gOfInt 92) = false ∧
    gLt 0x42B7FFFF#32 (gOfInt 92) = true := by decide +kernel

theorem witness_MonitorsAndStages_rails :
    gLt (run.vmonLimit 5) (run.windlass.vmon.get 5) = false ∧
    (let s := run.modWindlass fun w => { w with vmon := Bank.all 16 0x3F800000#32 };
      ∀ i < 6, gLt (s.vmonLimit i) (s.windlass.vmon.get i) = true) := by decide +kernel

theorem test_warn_at_95 : ((after (.tmonSample (tmonT 0x42BE0000#32)) run).windlass.warn, (after (.tmonSample (tmonT 0x42BE0000#32)) run).windlass.tj) =
    (true, 0x42BE0000#32) := by decide +kernel

theorem test_reduce_steps_down : ((after (.tmonSample (tmonT 0x42C80000#32)) run).windlass.cap) = 7 := by decide +kernel

theorem test_rail_cause : (after (.vmonSample (List.replicate 16 0x3F000000#32)) run).supply.railPark = true := by decide +kernel

/-- RUNNING with a SAG detector of level 1 over 2 windows on SUP 0, one value in the window. -/
def supplied : State :=
  (withDev (fun d => { d with supply := [⟨0, .sag, 1, 2, 0x40000000#32, 0⟩] }) run).modSupply fun p =>
    { p with chans := p.chans.upd 0 fun c => { c with values := [0x3F800000#32] } }

/-- Detector 0 of SUP 0 changed. -/
def detecting (f : DetState → DetState) : State :=
  supplied.modSupply fun p => { p with chans := p.chans.upd 0 fun c => { c with dets := c.dets.upd 0 f } }

theorem witness_SupplyWatchAndPark_windows :
    (supplied.supply.chans.get 0).values.reverse ≠ [] ∧ (supplied.detRec 0 0).isSome = true ∧ (supplied.detRec 0 2).isSome = false ∧
    supplied.supply.level = 0 ∧
    (let x := ((detecting fun d => { d with active := true }).supply.chans.get 0).dets.get 0; x.active = true ∧ x.criterion = false) ∧
    (((detecting fun d => { d with criterion := true }).supply.chans.get 0).dets.get 0).criterion = true := by decide +kernel

theorem witness_SupplyWatchAndPark_pfail :
    run.supply.pfail = false ∧ (inPhase .parked run).dev.phase = .parked ∧ (inPhase .safe run).dev.phase = .safe ∧
    (inPhase .loading run).dev.phase = .loading ∧ (inPhase .aon run).dev.phase = .aon ∧
    (run.modSupply fun p => { p with pfail := true }).supply.pfail = true := by decide

theorem witness_SupplyWatchAndPark_park :
    let s := run.modSupply fun p => { p with swPark := true }
    s.parkCause = true ∧ s.supply.parking = none ∧ run.parkCause = false ∧ run.supply.parkHandle = none ∧
    (run.modSupply fun p => { p with parking := some (.fade 0) }).supply.parking = some (.fade 0) ∧
    (run.modSupply fun p => { p with parking := some .drain }).supply.parking = some .drain ∧
    ((inPhase .parked run).parkCause = false ∧ (inPhase .parked run).supply.level = 0) ∧
    (inPhase .parked s).opens .supply = true ∧ (inPhase .parked s).seen 0 = true ∧ (inPhase .parked s).seen 1 = true ∧ s.supply.railPark = false ∧
    s.supply.thermPark = false ∧ s.supply.level = 0 := by decide +kernel

/-- A second window under its threshold makes the detector active and the level 1. -/
theorem test_sag : let s := after (.supWindowEnd 0) (detecting fun d => { d with run := 1 })
    (s.supply.level, ((s.supply.chans.get 0).dets.get 0).active) = (1, true) := by decide +kernel

theorem test_pfail_level : (after .pfailAssert run).supply.level = 2 ∧ (after .pfailRelease (after .pfailAssert run)).supply.level = 0 := by
  decide +kernel

/-! ### Event sources, counters, trace and TAP (chapter 18) -/

theorem witness_SourcesCountersTraceTap_sources :
    run.sourceOwner 0 = some 0 ∧ run.sourceOwner 380 ≠ some 0 ∧ run.sourceOwner 1004 = some 0 ∧ sourceReserved 890 = true ∧ sourceReserved 0 = false ∧
    run.sourceOwner 890 = some 0 ∧ run.host.wcb = [] ∧ run.periphOwner pcEvtOut 0 = some 0 ∧ run.periphOwner pcEvtOut 3 ≠ some 0 ∧
    (run.evs.src.get 0).req = false ∧ run.dev.phase = .running ∧ run.seen 0 = true ∧
    ((run.modEvs fun e => { e with src := e.src.upd 1023 fun c => { c with pend := true, req := true } }).evs.src.get 1023).req = true := by
  decide +kernel

/-- Occurrences waiting for the trace port. -/
def tracing (on : Bool) (f : ObsState → ObsState) : State :=
  (withDev (fun d => { d with traceOn := on }) run).modObs fun o => f { o with
    traceQ := [⟨0#64, 1, some 0, 5, [0#32, 0#32, 5#32, 0#32]⟩], syncSent := true, allow := o.allow.put 0 true }

theorem witness_SourcesCountersTraceTap_trace :
    (run.obs.traceQ = []) ∧ (tracing true id).obs.syncSent = true ∧ (tracing true id).obs.sinceSync < 4096 ∧ (tracing true id).obs.lostRun = 0 ∧
    (tracing true id).cfg.dev.traceOn = true ∧ (tracing true id).cfg.dev.traceFilters = [] ∧ (tracing true id).obs.allow.get 0 = true ∧
    (tracing false id).cfg.dev.traceOn = false ∧ (tracing true fun o => { o with lostRun := 1 }).obs.lostRun ≠ 0 ∧
    (tracing true fun o => { o with syncSent := false }).obs.syncSent = false ∧
    (let n := (packetBytes 1 [0#32, 0#32, 5#32, 0#32]).length; (0 : Nat) + 13 + n ≤ 4088 ∧ 4088 < 4088 - n + 1 + n) := by decide +kernel

theorem test_snap : let s := after (.pcSnap 0 0 1#32) (run.modObs fun o => { o with perf := o.perf.upd 0 fun b => b.upd 63 fun c => { c with cnt := 7#32 } })
    (((s.obs.perf.get 0).get 63).shot, ((s.obs.perf.get 0).get 63).cnt) = (7#32, 0#32) := by decide +kernel

theorem test_evs_pin_of_another : let s := after (.evsCfgWrite 0 0 0x30010#32) run
    ((s.evs.src.get 0).out, (s.evs.src.get 0).pin, (s.evs.src.get 1004).pend) = (true, 0#2, true) := by decide +kernel

theorem test_idcode : (after .tapIdcode run).obs.tapDr.take 12 =
    [true, true, false, true, false, true, true, false, false, true, false, true] := by decide +kernel

theorem witness_SourcesCountersTraceTap_tap : run.dev.phase ≠ .off ∧ State.reset.dev.phase = .off := by decide

end Sys2Proof.Tests
end

section
/-! The frame of the operations that the commands share: what raising a source, posting a record, retiring the buffered host
stores and a register access leave as it was. -/

open Sys2Proof Sys2Proof.Machine Sys2Proof.Machine.Claim

namespace Sys2Proof.Machine

/-! ### Frames -/

theorem keptBut.refl (l : List Part) (s : State) : keptBut l s s :=
  ⟨rfl, fun p _ => by cases p <;> rfl⟩

theorem Part.same.trans {p : Part} {s t u : State} (h : p.same s t) (k : p.same t u) : p.same s u := by
  cases p <;> exact Eq.trans k h

theorem keptBut.trans {l : List Part} {s t u : State} (h : keptBut l s t) (k : keptBut l t u) : keptBut l s u :=
  ⟨k.1.trans h.1, fun p hp => (h.2 p hp).trans (k.2 p hp)⟩

theorem keptBut.mono {l m : List Part} {s t : State} (h : keptBut l s t) (hm : ∀ p ∈ l, p ∈ m) : keptBut m s t :=
  ⟨h.1, fun p hp => h.2 p fun hl => hp (hm p hl)⟩

/-- A state that differs in one part. -/
theorem keptBut_single {q : Part} {s t : State} (hpending : t.pending = s.pending) (h : ∀ p, p = q ∨ p.same s t) : keptBut [q] s t :=
  ⟨hpending, fun p hp => (h p).resolve_left fun hq => hp (List.mem_singleton.mpr hq)⟩

theorem keptBut_modTen (s : State) (f) : keptBut [.ten] s (s.modTen f) := keptBut_single rfl fun p => by cases p <;> simp [Part.same]
theorem keptBut_modDeny (s : State) (f) : keptBut [.deny] s (s.modDeny f) := keptBut_single rfl fun p => by cases p <;> simp [Part.same]
theorem keptBut_modHost (s : State) (f) : keptBut [.host] s (s.modHost f) := keptBut_single rfl fun p => by cases p <;> simp [Part.same]
theorem keptBut_modWells (s : State) (f) : keptBut [.wells] s (s.modWells f) := keptBut_single rfl fun p => by cases p <;> simp [Part.same]
theorem keptBut_modQports (s : State) (f) : keptBut [.qports] s (s.modQports f) := keptBut_single rfl fun p => by cases p <;> simp [Part.same]
theorem keptBut_modOps (s : State) (f) : keptBut [.ops] s (s.modOps f) := keptBut_single rfl fun p => by cases p <;> simp [Part.same]
theorem keptBut_modFront (s : State) (f) : keptBut [.front] s (s.modFront f) := keptBut_single rfl fun p => by cases p <;> simp [Part.same]
theorem keptBut_modMyc (s : State) (f) : keptBut [.myc] s (s.modMyc f) := keptBut_single rfl fun p => by cases p <;> simp [Part.same]
theorem keptBut_modMem (s : State) (f) : keptBut [.mem] s (s.modMem f) := keptBut_single rfl fun p => by cases p <;> simp [Part.same]
theorem keptBut_modFilter (s : State) (f) : keptBut [.filter] s (s.modFilter f) := keptBut_single rfl fun p => by cases p <;> simp [Part.same]
theorem keptBut_modSpout (s : State) (f) : keptBut [.spout] s (s.modSpout f) := keptBut_single rfl fun p => by cases p <;> simp [Part.same]
theorem keptBut_modSap (s : State) (f) : keptBut [.sap] s (s.modSap f) := keptBut_single rfl fun p => by cases p <;> simp [Part.same]
theorem keptBut_modUarts (s : State) (f) : keptBut [.uarts] s (s.modUarts f) := keptBut_single rfl fun p => by cases p <;> simp [Part.same]
theorem keptBut_modI2c (s : State) (f) : keptBut [.i2c] s (s.modI2c f) := keptBut_single rfl fun p => by cases p <;> simp [Part.same]
theorem keptBut_modFlash (s : State) (f) : keptBut [.flash] s (s.modFlash f) := keptBut_single rfl fun p => by cases p <;> simp [Part.same]
theorem keptBut_modPair (s : State) (f) : keptBut [.pair] s (s.modPair f) := keptBut_single rfl fun p => by cases p <;> simp [Part.same]
theorem keptBut_modEvs (s : State) (f) : keptBut [.evs] s (s.modEvs f) := keptBut_single rfl fun p => by cases p <;> simp [Part.same]
theorem keptBut_modObs (s : State) (f) : keptBut [.obs] s (s.modObs f) := keptBut_single rfl fun p => by cases p <;> simp [Part.same]
theorem keptBut_modOuts (s : State) (f) : keptBut [.outs] s (s.modOuts f) := keptBut_single rfl fun p => by cases p <;> simp [Part.same]
theorem keptBut_modFree (s : State) (f) : keptBut [.free] s (s.modFree f) := keptBut_single rfl fun p => by cases p <;> simp [Part.same]

/-- Beside the parts of l, t differs from s at most as reporting may, and no output and no pending bit of s is lost. -/
structure Touches (l : List Part) (s t : State) : Prop where
  kept : keptBut (l ++ reporting) s t
  outs : s.outs ⊆ t.outs
  pend : ∀ i, pendingSource s i → pendingSource t i

namespace Touches

variable {l m : List Part} {s t u : State}

theorem refl (l : List Part) (s : State) : Touches l s s := ⟨keptBut.refl _ s, List.Subset.refl _, fun _ h => h⟩

theorem trans (h : Touches l s t) (k : Touches l t u) : Touches l s u :=
  ⟨h.kept.trans k.kept, List.Subset.trans h.outs k.outs, fun i hi => k.pend i (h.pend i hi)⟩

theorem mono (h : Touches l s t) (hm : ∀ p ∈ l, p ∈ m ++ reporting) : Touches m s t :=
  ⟨h.kept.mono fun p hp => (List.mem_append.mp hp).elim (hm p) (List.mem_append_right m), h.outs, h.pend⟩

/-- What only reports may stand anywhere in a command. -/
theorem widen (h : Touches [] s t) : Touches l s t := h.mono fun _ hp => absurd hp List.not_mem_nil

/-- A part outside l and reporting is the same. -/
theorem same (h : Touches l s t) (p : Part) (hp : p ∉ l ++ reporting) : p.same s t := h.kept.2 p hp

/-- A change that leaves the outputs and the event sources alone. -/
theorem of_kept (h : keptBut m s t) (hm : ∀ p ∈ m, p ∈ l ++ reporting) (ho : t.outs = s.outs) (he : t.evs = s.evs) : Touches l s t :=
  ⟨h.mono hm, ho ▸ List.Subset.refl _, fun i hi => by rwa [pendingSource, he]⟩

theorem foldl {α : Type} {f : State → α → State} (h : ∀ s x, Touches l s (f s x)) (xs : List α) (s : State) :
    Touches l s (xs.foldl f s) := by
  induction xs generalizing s with
  | nil => exact .refl l s
  | cons x xs ih => exact (h s x).trans (ih (f s x))

end Touches

/-! ### What reports -/

theorem touches_modHost (s : State) (f) : Touches [] s (s.modHost f) := .of_kept (keptBut_modHost s f) (by decide) rfl rfl
theorem touches_modWells (s : State) (f) : Touches [] s (s.modWells f) := .of_kept (keptBut_modWells s f) (by decide) rfl rfl
theorem touches_modMem (s : State) (f) : Touches [] s (s.modMem f) := .of_kept (keptBut_modMem s f) (by decide) rfl rfl
theorem touches_modPair (s : State) (f) : Touches [] s (s.modPair f) := .of_kept (keptBut_modPair s f) (by decide) rfl rfl
theorem touches_modObs (s : State) (f) : Touches [] s (s.modObs f) := .of_kept (keptBut_modObs s f) (by decide) rfl rfl

theorem touches_modEvs (s : State) (f : EvsState → EvsState)
    (h : ∀ i, (s.evs.src.get i).pend = true → ((f s.evs).src.get i).pend = true) : Touches [] s (s.modEvs f) :=
  ⟨(keptBut_modEvs s f).mono (by decide), List.Subset.refl _, h⟩

theorem touches_emit (s : State) (o : Output) : Touches [] s (s.emit o) :=
  ⟨(keptBut_modOuts s _).mono (by decide), List.subset_cons_self o s.outs, fun _ h => h⟩

theorem mem_outs_emit (s : State) (o : Output) : o ∈ (s.emit o).outs := List.mem_cons_self

theorem touches_count (s : State) (n code inst k : Nat) : Touches [] s (s.count n code inst k) := touches_modObs s _

theorem touches_trace (s : State) (cls : Nat) (ten : Option Nat) (source : Nat) (words : List Word) :
    Touches [] s (s.trace cls ten source words) := by
  unfold State.trace
  split
  · exact touches_modObs s _
  · exact .refl _ s

theorem touches_unsynced (s : State) (cause : Nat) : Touches [] s (s.unsynced cause) := by
  unfold State.unsynced
  split
  · exact .refl _ s
  · exact touches_modPair s _

theorem touches_queueMirror (s : State) (line : Nat) : Touches [] s (s.queueMirror line) := by
  unfold State.queueMirror
  split
  · exact touches_modMem s _
  · exact (touches_modMem s _).trans (touches_unsynced _ _)

theorem touches_mirrorWrites (s : State) (ls : List Nat) : Touches [] s (s.mirrorWrites ls) := by
  unfold State.mirrorWrites
  split
  · refine .foldl (fun s x => ?_) ls s
    split
    · exact touches_queueMirror s x
    · exact .refl _ s
  · exact .refl _ s

theorem touches_cisStore (s : State) (x : Nat) (bs : List Byte) : Touches [] s (s.cisStore x bs) :=
  (touches_modMem s _).trans (touches_mirrorWrites _ _)

theorem touches_portAccess (s : State) (c : Nat) : Touches [] s (s.portAccess c) := by
  unfold State.portAccess
  split
  · exact touches_count s _ _ _ _
  · exact .refl _ s

theorem touches_msixFire (s : State) (n v : Nat) : Touches [] s (s.msixFire n v) := by
  unfold State.msixFire
  split
  · exact touches_emit s _
  · exact touches_modHost s _

theorem touches_pinRise (s : State) (p : Nat) : Touches [] s (s.pinRise p) := by
  unfold State.pinRise
  split
  · exact touches_modEvs s _ fun _ h => h
  · exact .refl _ s

theorem touches_evtStore (s : State) (w type : Nat) (payload : List Word) : Touches [] s (s.evtStore w type payload) := by
  unfold State.evtStore
  split
  · exact .refl _ s
  · dsimp only
    split
    · exact touches_modWells s _
    · exact ((touches_cisStore s _ _).trans (touches_modWells _ _)).trans (touches_count _ _ _ _ _)

theorem touches_deliverOut (s : State) (i : Nat) (detail : Word) : Touches [] s (s.deliverOut i detail) := by
  unfold State.deliverOut
  split
  · exact .refl _ s
  · dsimp only
    split
    · split
      · exact (touches_trace s _ _ _ _).trans (touches_pinRise _ _)
      · exact touches_trace s _ _ _ _
    · exact (touches_trace s _ _ _ _).trans (touches_msixFire _ _ _)

theorem touches_setPend (s : State) (i : Nat) (req : Bool) : Touches [] s (s.setPend i req) :=
  touches_modEvs s _ fun j hj => by
    rw [Bank.get_upd]
    split <;> simp [hj]

theorem pendingSource_setPend (s : State) {i : Nat} (req : Bool) (hi : i < 1024) : pendingSource (s.setPend i req) i := by
  simp [pendingSource, State.setPend, Bank.get_upd_same _ _ hi]

/-- A rise sets PEND; all that follows is its delivery. -/
theorem touches_rise_of_setPend (k : Nat) (s : State) (i : Nat) (req : Bool) (detail : Word) :
    Touches [] (s.setPend i req) (s.rise k i req detail) := by
  induction k generalizing s i req detail with
  | zero => exact .refl _ _
  | succ k ih =>
    have hrise (s : State) (i : Nat) (req : Bool) (d : Word) : Touches [] s (s.rise k i req d) :=
      (touches_setPend s i req).trans (ih s i req d)
    rw [State.rise]
    dsimp only
    split
    · exact .refl _ _
    · split
      · split
        · exact touches_deliverOut _ _ _
        · refine ((touches_deliverOut _ _ _).trans (touches_evtStore _ _ _ _)).trans (.foldl (fun s j => ?_) _ _)
          split
          · exact hrise _ _ _ _
          · exact .refl _ s
      · exact touches_deliverOut _ _ _

theorem touches_rise (k : Nat) (s : State) (i : Nat) (req : Bool) (detail : Word) : Touches [] s (s.rise k i req detail) :=
  (touches_setPend s i req).trans (touches_rise_of_setPend k s i req detail)

theorem touches_settle (s : State) (i : Nat) : Touches [] s (s.settle i) := by
  unfold State.settle
  split
  · split
    · exact .refl _ s
    · exact touches_rise _ s _ _ _
  · split
    · refine touches_modEvs s _ fun j hj => ?_
      rw [Bank.get_upd]
      split <;> simp [hj]
    · exact .refl _ s

theorem touches_settleAll (s : State) (is : List Nat) : Touches [] s (s.settleAll is) := .foldl touches_settle is s

theorem touches_pulse (s : State) (i : Nat) (detail : Word) : Touches [] s (s.pulse i detail) := touches_rise _ s _ _ _

theorem pendingSource_pulse (s : State) {i : Nat} (detail : Word) (hi : i < 1024) : pendingSource (s.pulse i detail) i :=
  (touches_rise_of_setPend _ s i false detail).pend i (pendingSource_setPend s false hi)

theorem touches_regRejected (s : State) (ofs : Nat) : Touches [] s (s.regRejected ofs) := touches_pulse s _ _

theorem pendingSource_regRejected (s : State) (ofs : Nat) : pendingSource (s.regRejected ofs) 1004 :=
  pendingSource_pulse s _ (by decide)

theorem touches_cisWrite (s : State) (x : Nat) (bs : List Byte) : Touches [] s (s.cisWrite x bs) := by
  have hs : Touches [] s ((s.cisStore x bs).portAccess (x / cisBytes)) := (touches_cisStore s x bs).trans (touches_portAccess _ _)
  unfold State.cisWrite
  dsimp only
  split
  · exact (hs.trans (touches_settleAll _ _)).trans (touches_settle _ _)
  · exact hs

/-! ### Register accesses -/

theorem touches_retire (s : State) (e : WcbEntry) : Touches [] s (s.retire e) :=
  .foldl (fun s _ => touches_cisWrite s _ _) _ s

theorem touches_retireAll (s : State) : Touches [] s s.retireAll := (touches_modHost s _).trans (.foldl touches_retire _ _)

/-- A denied access counted and logged, before its source rises (R92, R103). -/
def State.denialLogged (s : State) (t ofs : Nat) (write bar2 : Bool) : State :=
  let counted := s.modTen (fun b => b.upd t (fun x => { x with denied := errCount x.denied 1 }))
  if counted.deny.valid then counted
  else counted.modDeny (fun _ => { valid := true, ten := BitVec.ofNat 3 t, write := write, bar2 := bar2, ofs := w32 ofs })

theorem denied_eq (s : State) (t ofs : Nat) (write bar2 : Bool) :
    s.denied t ofs write bar2 = (s.denialLogged t ofs write bar2).pulse 1003 (w32 ofs) := rfl

theorem denialLogged_kept (s : State) (t ofs : Nat) (write bar2 : Bool) : keptBut [.ten, .deny] s (s.denialLogged t ofs write bar2) := by
  unfold State.denialLogged
  dsimp only
  split
  · exact (keptBut_modTen s _).mono (by decide)
  · exact ((keptBut_modTen s _).mono (by decide)).trans ((keptBut_modDeny _ _).mono (by decide))

theorem denialLogged_denied (s : State) {t : Nat} (ht : t < 8) (ofs : Nat) (write bar2 : Bool) :
    ((s.denialLogged t ofs write bar2).ten.get t).denied = errCount (s.ten.get t).denied 1 := by
  unfold State.denialLogged
  dsimp only
  split <;> simp [Bank.get_upd_same _ _ ht]

theorem denialLogged_deny (s : State) (t ofs : Nat) (write bar2 : Bool) : (s.denialLogged t ofs write bar2).deny =
    (if s.deny.valid then s.deny else { valid := true, ten := BitVec.ofNat 3 t, write := write, bar2 := bar2, ofs := w32 ofs }) := by
  unfold State.denialLogged
  simp only [State.modTen_deny]
  by_cases h : s.deny.valid = true <;> simp [h]

/-- A denied access, after the buffered stores have retired, does what R92 says. -/
theorem deniedTo_denied {s r : State} (h : Touches [] s r) {t : Nat} (ht : t < 8) (ofs : Nat) (write bar2 : Bool) :
    deniedTo s (r.denied t ofs write bar2) t ofs write bar2 := by
  have hp : Touches [] (r.denialLogged t ofs write bar2) (r.denied t ofs write bar2) := by
    rw [denied_eq]
    exact touches_pulse _ 1003 (w32 ofs)
  have hten : r.ten = s.ten := h.same .ten (by decide)
  have hdeny : r.deny = s.deny := h.same .deny (by decide)
  refine ⟨?_, pendingSource_pulse _ _ (by decide), ?_, ?_⟩
  · rw [hp.same .ten (by decide), denialLogged_denied r ht, hten]
  · rw [hp.same .deny (by decide), denialLogged_deny, hdeny]
  · exact ((h.kept.mono (by decide)).trans ((denialLogged_kept r t ofs write bar2).mono (by decide))).trans (hp.kept.mono (by decide))

theorem blockOf_isSome {ofs : Nat} (b : Block) (lo hi : Nat) (hb : (b, lo, hi) ∈ blockSpans) (hl : lo ≤ ofs) (hh : ofs ≤ hi) :
    (blockOf ofs).isSome = true := by
  simp only [blockOf, Option.isSome_map, List.find?_isSome]
  exact ⟨_, hb, by simp [hl, hh]⟩

theorem opens_of_running {s : State} (h : s.dev.phase = .running) (b : Block) : s.opens b = true := by
  simp [State.opens, DevPhase.opens, h]

theorem hostServed_of_running {s : State} (h : s.dev.phase = .running) : s.hostServed = true := opens_of_running h .ident

/-- In RUNNING a tenancy's access to a register that it sees acts on the state with the buffered stores retired. -/
theorem access_inRun {s : State} {t ofs : Nat} (h : inRun s t) (hb : (blockOf ofs).isSome = true) (write : Bool) (k : State → State) :
    s.access t ofs write true k = k s.retireAll := by
  obtain ⟨b, hb⟩ := Option.isSome_iff_exists.mp hb
  obtain ⟨hrun, hseen⟩ := h
  simp [State.access, hb, hostServed_of_running hrun, opens_of_running hrun, hseen]

/-- In RUNNING a tenancy's access to a register that it does not see is denied. -/
theorem access_inRun_denied {s : State} {t ofs : Nat} (h : inRun s t) (ht : t < 8) (hb : (blockOf ofs).isSome = true) (write : Bool)
    (k : State → State) : deniedTo s (s.access t ofs write false k) t ofs write false := by
  obtain ⟨b, hb⟩ := Option.isSome_iff_exists.mp hb
  obtain ⟨hrun, hseen⟩ := h
  simpa [State.access, hb, hostServed_of_running hrun, opens_of_running hrun, hseen]
    using deniedTo_denied (touches_retireAll s) ht ofs write false

/-- A command that is the access of a register that its tenancy sees does there what it does to the state with the stores retired. -/
theorem does_access {c : Instr} {s : State} {t ofs : Nat} {write sees : Bool} {k : State → State} {P : State → Prop}
    (hc : exec c s = .next (s.access t ofs write sees k)) (h : inRun s t) (hb : (blockOf ofs).isSome = true) (hs : sees = true)
    (hk : ∀ r, Touches [] s r → P (k r)) : Does c s P := by
  subst hs
  exact ⟨_, hc, access_inRun h hb write k ▸ hk _ (touches_retireAll s)⟩

/-- A command that is the access of a register that its tenancy does not see is denied. -/
theorem does_denied {c : Instr} {s : State} {t ofs : Nat} {write sees : Bool} {k : State → State}
    (hc : exec c s = .next (s.access t ofs write sees k)) (h : inRun s t) (ht : t < 8) (hb : (blockOf ofs).isSome = true)
    (hs : sees = false) : Does c s fun u => deniedTo s u t ofs write false := by
  subst hs
  exact ⟨_, hc, access_inRun_denied h ht hb write k⟩

/-- A register write that is rejected raises ES1004 and changes nothing. -/
theorem rejected_of_touches {s r : State} (h : Touches [] s r) (ofs : Nat) :
    pendingSource (r.regRejected ofs) 1004 ∧ keptBut accessing s (r.regRejected ofs) :=
  ⟨pendingSource_regRejected r ofs, (h.trans (touches_regRejected r ofs)).kept.mono (by decide)⟩

end Sys2Proof.Machine
end

section
/-! The mycelium's registers and tick boundaries (R198, R202, R206, R207). -/

open Sys2Proof Sys2Proof.Machine Sys2Proof.Machine.Claim

namespace Sys2Proof.Machine

/-- Every structure of tenancy n changed by g: the shape of a tick boundary and of a MYC_ARM. -/
def State.mapStructs (s : State) (n : Nat) (g : MycStruct → MycStruct) : State :=
  s.modMyc (fun b => b.upd n (fun t => { t with structs := t.structs.map g }))

theorem mycStruct_mapStructs (s : State) {n : Nat} (hn : n < 8) {g : MycStruct → MycStruct} (hg : ∀ x, (g x).id = x.id) (j : Nat) :
    (s.mapStructs n g).mycStruct n j = (s.mycStruct n j).map g := by
  have hkey : (fun x : MycStruct => x.id == j) ∘ g = fun x => x.id == j := funext fun x => congrArg (· == j) (hg x)
  simp only [State.mapStructs, State.mycStruct, State.modMyc_myc, Bank.get_upd_same _ _ hn, List.find?_map, hkey]

theorem mapStructs_other (s : State) {n m : Nat} (g : MycStruct → MycStruct) (hm : m ≠ n) : (s.mapStructs n g).myc.get m = s.myc.get m :=
  Bank.get_upd_other s.myc _ hm

theorem id_of_mycStruct {s : State} {n j : Nat} {x : MycStruct} (h : s.mycStruct n j = some x) : x.id = j := by
  simpa using List.find?_some h

/-- Only the structure id of tenancy n differs, and it is changed by f. -/
theorem mycStruct_mapStructs_if (s : State) {n id : Nat} (hn : n < 8) {p : MycStruct → Bool} {f : MycStruct → MycStruct}
    (hf : ∀ x, (f x).id = x.id) :
    let u := s.mapStructs n fun x => if x.id == id && p x then f x else x
    (∀ x, s.mycStruct n id = some x → p x = true → u.mycStruct n id = some (f x)) ∧ ∀ j, j ≠ id → u.mycStruct n j = s.mycStruct n j := by
  have hg : ∀ x : MycStruct, (if x.id == id && p x then f x else x).id = x.id := fun x => by split <;> simp [hf]
  refine ⟨fun x hx hp => ?_, fun j hj => ?_⟩
  · rw [mycStruct_mapStructs s hn hg, hx]
    simp [hp, id_of_mycStruct hx]
  · rw [mycStruct_mapStructs s hn hg]
    cases h : s.mycStruct n j with
    | none => rfl
    | some x => simp [id_of_mycStruct h, hj]

theorem tickOne_eq_mapStructs (s : State) {n id : Nat} {f : DWord} (h : f.toNat % 2 ^ (s.tcfg n).tickLog id = 0) :
    s.tickOne n id f = s.mapStructs n fun x => if x.id == id && !x.tickDue then x.tick f else x := by
  simp [State.tickOne, State.isTick, h, State.mapStructs]

theorem tickOne_eq_self (s : State) {n id : Nat} {f : DWord} (h : f.toNat % 2 ^ (s.tcfg n).tickLog id ≠ 0) : s.tickOne n id f = s := by
  simp [State.tickOne, State.isTick, h]

theorem mycArm_eq_mapStructs (s : State) (n id : Nat) {v : Word} (h : v.getLsbD 0 = true) :
    s.mycArm n id v = s.mapStructs n fun x => if x.id == id && true then { x with arm := true } else x := by
  simp [State.mycArm, h, State.updMycStruct, State.mapStructs]

/-- A host's macro write sets the value that the next tick takes, in the tenancy and in each of its structures. -/
theorem setMacro_host (x : MycTen) (m : Nat) (v : F32) : x.setMacro m v true =
    { x with structs := x.structs.map (fun y => { y with macrosNext := y.macrosNext.put m v, wellMacros := m :: y.wellMacros })
             macros := x.macros.put m v } := by
  simp [MycTen.setMacro]

theorem mycelium_isSome {ofs : Nat} (h : 0x160000 ≤ ofs ∧ ofs ≤ 0x17FFFF) : (blockOf ofs).isSome = true :=
  blockOf_isSome .mycelium 0x160000 0x17FFFF (by decide) h.1 h.2

theorem does_mycMacroWrite_finite {s : State} {t : Fin 8} (m : Fin 4) {v : Word} (h : inRun s t) (hv : fIsFinite v = true) :
    Does (.mycMacroWrite t m v) s fun u => (∀ x ∈ (u.myc.get t).structs, x.macrosNext.get m = v) ∧
      (u.myc.get t).macros = (s.myc.get t).macros.put m v ∧
      (u.myc.get t).structs.map MycStruct.macros = (s.myc.get t).structs.map MycStruct.macros ∧
      (u.myc.get t).glfos = (s.myc.get t).glfos ∧ (∀ n < 8, n ≠ t.val → u.myc.get n = s.myc.get n) ∧ keptBut (.myc :: accessing) s u := by
  refine does_access rfl h (mycelium_isSome (by omega)) rfl fun r hr => ?_
  have hmyc : r.myc = s.myc := hr.same .myc (by decide)
  have hu : r.mycMacro t m v = r.modMyc fun b => b.upd t fun x => x.setMacro m v true := by simp [State.mycMacro, hv]
  have hget : (r.mycMacro t m v).myc.get t = (s.myc.get t).setMacro m v true := by rw [hu, ← hmyc]; exact Bank.get_upd_same _ _ t.isLt
  simp only [hget, setMacro_host]
  refine ⟨fun x hx => ?_, trivial, by simp [Function.comp_def], trivial, fun n _ hn => ?_, ?_⟩
  · obtain ⟨y, _, rfl⟩ := List.mem_map.mp hx
    exact Bank.get_put_same _ v m.isLt
  · rw [hu, ← hmyc]; exact Bank.get_upd_other _ _ hn
  · rw [hu]; exact (hr.kept.mono (by decide)).trans ((keptBut_modMyc r _).mono (by decide))

theorem does_mycMacroWrite_rejected {s : State} {t : Fin 8} (m : Fin 4) {v : Word} (h : inRun s t) (hv : fIsFinite v = false) :
    Does (.mycMacroWrite t m v) s fun u => pendingSource u 1004 ∧ keptBut accessing s u := by
  refine does_access rfl h (mycelium_isSome (by omega)) rfl fun r hr => ?_
  simpa [State.mycMacro, hv] using rejected_of_touches hr _

theorem does_mycGlfoRateWrite_allowed {s : State} {t : Fin 8} (g : Fin 8) {v : Word} (h : inRun s t) (hv : rateAllowed v = true) :
    Does (.mycGlfoRateWrite t g v) s fun u => u.myc = s.myc.upd t (fun x =>
      { x with glfos := x.glfos.upd g fun y => { y with rate := v } }) ∧ keptBut (.myc :: accessing) s u := by
  refine does_access rfl h (mycelium_isSome (by omega)) rfl fun r hr => ?_
  have hmyc : r.myc = s.myc := hr.same .myc (by decide)
  simp only [State.mycRate, hv, if_true, State.modMyc_myc, hmyc, true_and]
  exact (hr.kept.mono (by decide)).trans ((keptBut_modMyc r _).mono (by decide))

theorem does_mycGlfoRateWrite_rejected {s : State} {t : Fin 8} (g : Fin 8) {v : Word} (h : inRun s t) (hv : rateAllowed v = false) :
    Does (.mycGlfoRateWrite t g v) s fun u => pendingSource u 1004 ∧ keptBut accessing s u := by
  refine does_access rfl h (mycelium_isSome (by omega)) rfl fun r hr => ?_
  simpa [State.mycRate, hv] using rejected_of_touches hr _

theorem does_mycArm {s : State} {t : Fin 8} {id : Fin 64} {v : Word} {x : MycStruct} (h : inRun s t) (hx : s.mycStruct t id = some x)
    (hv : v.getLsbD 0 = true) : Does (.mycArm t id v) s fun u =>
      u.mycStruct t id = some { x with arm := true } ∧ (∀ j, j ≠ id.val → u.mycStruct t j = s.mycStruct t j) ∧
      (∀ n < 8, n ≠ t.val → u.myc.get n = s.myc.get n) ∧ keptBut (.myc :: accessing) s u := by
  refine does_access rfl h (mycelium_isSome (by omega)) (by simp [hx]) fun r hr => ?_
  have hmyc : r.myc = s.myc := hr.same .myc (by decide)
  have hstruct (n j : Nat) : r.mycStruct n j = s.mycStruct n j := by rw [State.mycStruct, hmyc, State.mycStruct]
  have hmap := mycStruct_mapStructs_if r (id := id.val) (p := fun _ => true) t.isLt (f := fun x => { x with arm := true }) fun _ => rfl
  rw [mycArm_eq_mapStructs r _ _ hv]
  refine ⟨hmap.1 x (by rw [hstruct, hx]) rfl, fun j hj => ?_, fun n _ hn => ?_, ?_⟩
  · rw [← hstruct]; exact hmap.2 j hj
  · rw [← hmyc]; exact mapStructs_other r _ hn
  · exact (hr.kept.mono (by decide)).trans ((keptBut_modMyc r _).mono (by decide))

theorem does_mycArm_denied {s : State} {t : Fin 8} {id : Fin 64} (v : Word) (h : inRun s t) (hx : s.mycStruct t id = none) :
    Does (.mycArm t id v) s fun u => deniedTo s u t (0x160004 + 0x800 * id.val) true false :=
  does_denied rfl h t.isLt (mycelium_isSome (by omega)) (by simp [hx])

theorem does_tickBoundary {s : State} {t : Fin 8} {id : Fin 64} {x : MycStruct} (hrun : s.dev.phase = .running)
    (hx : s.mycStruct t id = some x) (hdue : x.tickDue = false)
    (htick : (s.time.frameIdx + 1#64).toNat % 2 ^ (s.tcfg t).tickLog id = 0) : Does (.tickBoundary t id) s fun u =>
      u.mycStruct t id = some (x.tick (s.time.frameIdx + 1#64)) ∧
      (∀ j, j ≠ id.val → u.mycStruct t j = s.mycStruct t j) ∧ (∀ n < 8, n ≠ t.val → u.myc.get n = s.myc.get n) ∧ keptBut [.myc] s u := by
  have hmap := mycStruct_mapStructs_if s (id := id.val) (p := fun x => !x.tickDue) t.isLt
    (f := fun x => x.tick (s.time.frameIdx + 1#64)) fun _ => rfl
  refine ⟨_, rfl, ?_⟩
  simp only [hrun, DevPhase.frames, if_true, tickOne_eq_mapStructs s htick]
  exact ⟨hmap.1 x hx (by simp [hdue]), hmap.2, fun n _ hn => mapStructs_other s _ hn, keptBut_modMyc s _⟩

theorem exec_tickBoundary_off_tick {s : State} {t : Fin 8} {id : Fin 64}
    (htick : (s.time.frameIdx + 1#64).toNat % 2 ^ (s.tcfg t).tickLog id ≠ 0) : exec (.tickBoundary t id) s = .next s := by
  change Host.Outcome.next _ = _
  rw [tickOne_eq_self s htick, ite_self]

/-- Settles O23: a tick boundary, MYC_ARM, and the macro and global LFO rate writes, each by its case. -/
theorem myceliumRegisters : Obligations.MyceliumRegisters := by
  unfold Obligations.MyceliumRegisters
  refine ⟨fun s t id x hrun hx hdue => ⟨does_tickBoundary hrun hx hdue, exec_tickBoundary_off_tick⟩, fun s t id v h => ⟨?_, ?_⟩,
    fun s t m v h => ⟨does_mycMacroWrite_finite m h, does_mycMacroWrite_rejected m h⟩,
    fun s t g v h => ⟨does_mycGlfoRateWrite_allowed g h, does_mycGlfoRateWrite_rejected g h⟩⟩
  · exact fun x hx hv => does_mycArm h hx hv
  · exact does_mycArm_denied v h

end Sys2Proof.Machine
end

section
/-! Register reads and writes by access code, and the same over PCIe and xSPI (R6, R11, R110, R128). -/

open Sys2Proof Sys2Proof.Machine Sys2Proof.Machine.Claim

namespace Sys2Proof.Machine

/-- A read that leaves the state r after s and gives v answers v. -/
theorem head_outs_answer (t : Nat) (x : State × Word) : (answer t x).outs.head? = some (.regRead t x.2) := rfl

theorem retireAll_dev (s : State) : s.retireAll.dev = s.dev := (touches_retireAll s).same .dev (by decide)

theorem retireAll_opens (s : State) (b : Block) : s.retireAll.opens b = s.opens b := by simp [State.opens, retireAll_dev]

theorem retireAll_seen (s : State) (t : Nat) : s.retireAll.seen t = s.seen t := by
  have h : s.retireAll.spawn = s.spawn := (touches_retireAll s).same .spawn (by decide)
  simp [State.seen, State.present, State.cfg, h]

/-- IDENT reads its constants for a tenancy that is present and for one that is not (R11, R93). -/
theorem readReg_ident {s : State} (h : s.hostServed = true) (t : Nat) {ofs : Nat} (hb : blockOf ofs = some .ident) :
    s.readReg t ofs = (s.retireAll, readIdent t ofs) := by
  have ho : s.retireAll.opens .ident = true := (retireAll_opens s .ident).trans h
  simp only [State.readReg, h, if_true, hb, ho, Bool.not_true, Bool.false_eq_true, if_false]
  split <;> rfl

theorem exec_rcRead_ident {s : State} (h : s.hostServed = true) (t : Fin 8) {ofs : Nat} (hb : blockOf (ofs / 4 * 4) = some .ident) :
    exec (.rcRead t ofs) s = .next (answer t (s.retireAll, readIdent t (ofs / 4 * 4))) := by
  change Host.Outcome.next _ = _
  rw [if_pos h, readReg_ident h t hb]

/-- A read of its own quick port by a tenancy in RUNNING. -/
theorem exec_rcRead_qport {s : State} {t : Fin 8} {ofs : Nat} (h : inRun s t) (hb : blockOf (ofs / 4 * 4) = some .qport) :
    exec (.rcRead t ofs) s = .next (answer t (s.retireAll.readQport t (ofs / 4 * 4))) := by
  obtain ⟨hrun, hseen⟩ := h
  have ho : s.retireAll.opens .qport = true := (retireAll_opens s .qport).trans (opens_of_running hrun _)
  have hv : s.retireAll.seen t = true := (retireAll_seen s t).trans hseen
  change Host.Outcome.next _ = _
  simp [hostServed_of_running hrun, State.readReg, hb, ho, hv, State.sees, State.readBlock]

/-- A write of its own quick port by a tenancy in RUNNING. -/
theorem exec_registerWrite_qport {s : State} {t : Fin 8} {ofs : Nat} (v : Word) (h : inRun s t) (hb : blockOf (ofs / 4 * 4) = some .qport) :
    exec (.registerWrite t ofs v) s = .next (s.retireAll.writeQport t (ofs / 4 * 4) v) := by
  have hne : ofs / 4 * 4 ≠ 0x2020C := fun hc => by simp [hc, blockOf, blockSpans] at hb
  change Host.Outcome.next (s.writeReg t (ofs / 4 * 4) v) = _
  rw [State.writeReg, if_neg hne]
  simp only [hb, State.sees]
  rw [access_inRun h (by simp [hb])]
  rfl

theorem blockOf_qpArg (a : Fin 8) : blockOf ((0x1000 + 4 * a.val) / 4 * 4) = some .qport := by decide +revert

theorem does_write_qpArg {s : State} {t : Fin 8} (a : Fin 8) (v : Word) (h : inRun s t) :
    Does (.registerWrite t (0x1000 + 4 * a.val) v) s fun u =>
      ((u.qports.get t.val).args.get a.val = v) ∧ (∀ b < 8, b ≠ a.val → (u.qports.get t.val).args.get b = (s.qports.get t.val).args.get b) ∧
      (∀ n < 8, n ≠ t.val → u.qports.get n = s.qports.get n) ∧ keptBut (.qports :: accessing) s u := by
  have hr := touches_retireAll s
  have hq : s.retireAll.qports = s.qports := hr.same .qports (by decide)
  have hofs : (0x1000 + 4 * a.val) / 4 * 4 < 0x1020 := by omega
  have hidx : ((0x1000 + 4 * a.val) / 4 * 4 - 0x1000) / 4 = a.val := by omega
  refine ⟨_, exec_registerWrite_qport v h (blockOf_qpArg a), ?_⟩
  simp only [State.writeQport, hofs, if_true, hidx, State.modQports_qports, hq, Bank.get_upd_same _ _ t.isLt]
  refine ⟨Bank.get_put_same _ v a.isLt, fun b _ hb => Bank.get_put_other _ v hb, fun n _ hn => Bank.get_upd_other _ _ hn, ?_⟩
  exact (hr.kept.mono (by decide)).trans ((keptBut_modQports _ _).mono (by decide))

theorem does_read_qpArg {s : State} {t : Fin 8} (a : Fin 8) (h : inRun s t) : Does (.rcRead t (0x1000 + 4 * a.val)) s fun u =>
    u.outs.head? = some (.regRead t.val ((s.qports.get t.val).args.get a.val)) ∧ keptBut accessing s u := by
  have hr := touches_retireAll s
  have hq : s.retireAll.qports = s.qports := hr.same .qports (by decide)
  have hofs : (0x1000 + 4 * a.val) / 4 * 4 < 0x1020 := by omega
  have hidx : ((0x1000 + 4 * a.val) / 4 * 4 - 0x1000) / 4 = a.val := by omega
  refine ⟨_, exec_rcRead_qport h (blockOf_qpArg a), ?_⟩
  simp only [State.readQport, hofs, if_true, hidx, State.ro, hq, head_outs_answer, true_and]
  exact (hr.trans (touches_emit _ _)).kept.mono (by decide)

/-- QP_REFLEX_DROP is of code RC: its read returns the count and clears it. -/
theorem does_read_reflexDrop {s : State} {t : Fin 8} (h : inRun s t) : Does (.rcRead t 0x1084) s fun u =>
    u.outs.head? = some (.regRead t.val (w32 (s.qports.get t.val).reflexDrop)) ∧ (u.qports.get t.val).reflexDrop = 0 ∧
    keptBut (.qports :: accessing) s u := by
  have hr := touches_retireAll s
  have hq : s.retireAll.qports = s.qports := hr.same .qports (by decide)
  have hread : s.retireAll.readQport t 0x1084 =
      (s.retireAll.modQports fun b => b.upd t fun q => { q with reflexDrop := 0 }, w32 (s.qports.get t.val).reflexDrop) := by
    simp [State.readQport, hq]
  refine ⟨_, exec_rcRead_qport h (by decide), ?_⟩
  rw [show 0x1084 / 4 * 4 = 0x1084 from rfl, hread]
  refine ⟨rfl, ?_, ?_⟩
  · simp [answer, State.emit, Bank.get_upd_same _ _ t.isLt]
  · exact ((hr.kept.mono (by decide)).trans ((keptBut_modQports _ _).mono (by decide))).trans ((touches_emit _ _).kept.mono (by decide))

/-- A one-word PCIe write is the register's write. -/
theorem exec_pcie_write {s : State} (t : Fin 8) {ofs : Nat} (v : Word) (h : s.pcieServed = true) (hofs : ofs + 4 ≤ bar0Size) :
    exec (.pcieMemoryRequest t .bar0 ofs (.write [v])) s = exec (.registerWrite t ofs v) s := by
  change Host.Outcome.next _ = Host.Outcome.next (s.writeReg t (ofs / 4 * 4) v)
  rw [if_pos h]
  simp [State.memRequest, reqBytes, hofs, State.bar0Request, State.writeRegs, regAt]

theorem wordOf_bytes (v : Word) : wordOf (byteOf v 0) (byteOf v 1) (byteOf v 2) (byteOf v 3) = v := by
  apply BitVec.eq_of_toNat_eq
  simp only [wordOf, byteOf, w32, BitVec.toNat_ofNat]
  omega

theorem wordsOf_wordBytes (v : Word) : wordsOf (wordBytes v) = [v] := by
  simp [wordBytes, wordsOf, wordOf_bytes]

/-- An xSPI WRITE of one word in single mode is the register's write by the tenancy of the chip select. -/
theorem exec_xspi_write {s : State} {cs : Fin 2} {t : Fin 8} {ofs : Nat} (v : Word) (h : s.hostServed = true)
    (hcs : s.csTen cs = some t.val) (hmode : (s.host.xspi.get cs.val).octal = false) (hofs : ofs < 2147483648) :
    exec (.xspiWrite { cs := cs, op := 0xE2#8, inv := 0#8 } (w32 ofs) (wordBytes v)) s = exec (.registerWrite t ofs v) s := by
  have haddr : (w32 ofs).toNat = ofs := by simp only [w32, BitVec.toNat_ofNat]; omega
  have hreg : ofs / 4 * 4 < 2147483648 := by omega
  have hput : s.xspiPuts t (w32 ofs) (wordBytes v) = s.xspiPut t (regAt ofs) v := by
    have hwhole : (wordBytes v).take ((wordBytes v).length / 4 * 4) = wordBytes v := List.take_of_length_le (by simp [wordBytes])
    rw [State.xspiPuts, hwhole, wordsOf_wordBytes]
    simp [haddr, Nat.mod_eq_of_lt (show ofs < 4294967296 by omega)]
  change Host.Outcome.next _ = Host.Outcome.next (s.writeReg t (ofs / 4 * 4) v)
  simp only [h, if_true, State.xspiRun, hcs, hmode, Bool.false_and, Bool.or_false]
  rw [if_neg (by decide), hput]
  simp [State.xspiPut, regAt, hreg, Nat.mod_eq_of_lt hreg]

/-- Settles O13: reads and writes of IDENT and of the quick port, and a one-word write over each host link. -/
theorem registerAccess : Obligations.RegisterAccess := by
  unfold Obligations.RegisterAccess
  refine ⟨fun s t h => ⟨?_, ?_, ?_⟩, fun s t a v hrun hseen => ⟨does_write_qpArg a v ⟨hrun, hseen⟩, does_read_qpArg a ⟨hrun, hseen⟩⟩,
    fun s t hrun hseen => does_read_reflexDrop ⟨hrun, hseen⟩, fun s t ofs v h _ hofs => exec_pcie_write t v h hofs,
    fun s cs t ofs v h hcs hmode _ hofs => exec_xspi_write v h hcs hmode hofs⟩
  · exact ⟨_, exec_rcRead_ident h t (by decide), rfl, rfl, rfl⟩
  · exact ⟨_, exec_rcRead_ident h t (by decide), rfl⟩
  · exact ⟨_, exec_rcRead_ident h t (by decide), rfl⟩

end Sys2Proof.Machine
end

section
/-! The serial audio ports (R322 to R324, R327). -/

open Sys2Proof Sys2Proof.Machine Sys2Proof.Machine.Claim

namespace Sys2Proof.Machine

/-- Port p replaced by x, and the others kept. -/
theorem portOnly_of_sap {s t : State} {p : Nat} {x : Sap} (hp : p < 8) {f : Sap → Sap} (ht : t.sap = s.sap.upd p f) (hx : f (s.sap.get p) = x) :
    portOnly s t p x := by
  refine ⟨?_, fun k _ hk => ?_⟩
  · rw [ht, Bank.get_upd_same _ _ hp, hx]
  · rw [ht, Bank.get_upd_other _ _ hk]

theorem touches_modSap (s : State) (f) : Touches [.sap] s (s.modSap f) := .of_kept (keptBut_modSap s f) (by decide) rfl rfl

theorem sap_isSome {ofs : Nat} (h : 0x320000 ≤ ofs ∧ ofs ≤ 0x32FFFF) : (blockOf ofs).isSome = true :=
  blockOf_isSome .sap 0x320000 0x32FFFF (by decide) h.1 h.2

/-- Measuring the phase of a port sets that phase alone; a controller's is 0. -/
theorem sapMeasure_spec (s : State) (p : Nat) : Touches [.sap, .free] s (s.sapMeasure p) ∧
    ∃ ph, (s.sapMeasure p).sap = s.sap.upd p (fun x => { x with phase := ph }) ∧ (sapTarget (s.sap.get p).cfg = false → ph = 0#11) := by
  unfold State.sapMeasure
  split
  · next h =>
    exact ⟨.of_kept (((keptBut_modSap s _).mono (by decide)).trans ((keptBut_modFree _ _).mono (by decide)))
      (m := [.sap, .free]) (by decide) rfl rfl, _, rfl, by simp [h]⟩
  · exact ⟨(touches_modSap s _).mono (by decide), _, rfl, fun _ => rfl⟩

theorem Bank.upd_upd {α : Type} {n : Nat} [Inhabited α] (b : Bank α n) (i : Nat) (f g : α → α) :
    (b.upd i f).upd i g = b.upd i fun x => g (f x) := by
  refine Bank.ext_get fun j hj => ?_
  simp only [Bank.get_upd]
  split <;> rfl

/-- A change of EN quiets the port; starting it measures its phase. -/
theorem sapCtrl_spec (s : State) {p : Nat} (hp : p < 8) {v : Word} (h : v.getLsbD 0 ≠ (s.sap.get p).en) :
    Touches [.sap, .free] s (s.sapCtrl p v) ∧ ∃ ph,
      (s.sapCtrl p v).sap = s.sap.upd p (fun x => { x.quiet with en := !(s.sap.get p).en, phase := ph }) ∧
      (sapTarget (s.sap.get p).cfg = false → (s.sap.get p).en = false → ph = 0#11) ∧ ((s.sap.get p).en = true → ph = (s.sap.get p).phase) := by
  have hon : v.getLsbD 0 = !(s.sap.get p).en := by simpa [Bool.eq_not] using h
  have hq : Touches [.sap, .free] s (s.modSap (fun b => b.upd p (fun x => { x.quiet with en := v.getLsbD 0 }))) :=
    (touches_modSap s _).mono (by decide)
  unfold State.sapCtrl
  simp only [beq_iff_eq, h, if_false]
  cases hen : (s.sap.get p).en with
  | true =>
    simp only [hen, Bool.not_true] at hon
    simp only [hon, Bool.false_eq_true, if_false] at hq ⊢
    refine ⟨hq.trans (touches_settle _ _).widen, (s.sap.get p).phase, ?_, by simp, fun _ => rfl⟩
    rw [(touches_settle _ _).same .sap (by decide)]
    refine Bank.ext_get fun j hj => ?_
    simp only [State.modSap_sap, Bank.get_upd]
    split
    · next hij => rw [← hij.1]; simp [Sap.quiet]
    · rfl
  | false =>
    simp only [hen, Bool.not_false] at hon
    simp only [hon, if_true] at hq ⊢
    obtain ⟨hm, ph, hsap, hph⟩ := sapMeasure_spec (s.modSap (fun b => b.upd p (fun x => { x.quiet with en := true }))) p
    refine ⟨(hq.trans hm).trans (touches_settle _ _).widen, ph, ?_, fun ht _ => hph ?_, by simp⟩
    · rw [(touches_settle _ _).same .sap (by decide), hsap, State.modSap_sap, Bank.upd_upd]
      rfl
    · simpa [Bank.get_upd_same _ _ hp, Sap.quiet] using ht

theorem does_sapCtrlWrite_change {s : State} {t p : Fin 8} {v : Word} (h : inRun s t) (hown : s.periphOwner pcSap p = some t.val)
    (hv : v.getLsbD 0 ≠ (s.sap.get p).en) : let x := s.sap.get p
    Does (.sapCtrlWrite t p v) s fun u => keptBut (.sap :: .free :: accessing) s u ∧
      portOnly s u p
        { x with
          en := !x.en, rx := Bank.all 16 0#32, tx := Bank.all 16 0#32, sent := Bank.all 16 0#32, rxq := [], txq := [], repeatIn := false,
          dropIn := false, repeatOut := false, dropOut := false, noFs := false, status := x.status &&& 5#3, phase := (u.sap.get p).phase } ∧
      (x.cfg.getLsbD 5 = false → x.en = false → (u.sap.get p).phase = 0#11) ∧ (x.en = true → (u.sap.get p).phase = x.phase) := by
  refine does_access rfl h (sap_isSome (by omega)) (by simp [hown]) fun r hr => ?_
  have hr0 : r.sap = s.sap := hr.same .sap (by decide)
  obtain ⟨hu, ph, hsap, hctl, htgt⟩ := sapCtrl_spec r p.isLt (v := v) (by rwa [hr0])
  rw [hr0] at hsap hctl htgt
  have hph : ((r.sapCtrl p v).sap.get p).phase = ph := by rw [hsap, Bank.get_upd_same _ _ p.isLt]
  exact ⟨(hr.widen.trans hu).kept.mono (by decide), portOnly_of_sap p.isLt hsap (by rw [hph]; rfl), fun hc he => hph.trans (hctl hc he),
    fun he => hph.trans (htgt he)⟩

theorem does_sapCtrlWrite_same {s : State} {t p : Fin 8} {v : Word} (h : inRun s t) (hown : s.periphOwner pcSap p = some t.val)
    (hv : v.getLsbD 0 = (s.sap.get p).en) : Does (.sapCtrlWrite t p v) s fun u => keptBut accessing s u := by
  refine does_access rfl h (sap_isSome (by omega)) (by simp [hown]) fun r hr => ?_
  have hr0 : r.sap = s.sap := hr.same .sap (by decide)
  rw [State.sapCtrl, hr0, hv, beq_self_eq_true, if_pos rfl]
  exact hr.kept.mono (by decide)

theorem does_sapCfgWrite_enabled {s : State} {t p : Fin 8} (v : Word) (h : inRun s t) (hown : s.periphOwner pcSap p = some t.val)
    (hen : (s.sap.get p).en = true) : Does (.sapCfgWrite t p v) s fun u => pendingSource u 1004 ∧ keptBut accessing s u := by
  refine does_access rfl h (sap_isSome (by omega)) (by simp [hown]) fun r hr => ?_
  have hr0 : r.sap = s.sap := hr.same .sap (by decide)
  simpa [State.sapCfg, hr0, hen] using rejected_of_touches hr _

theorem touches_rejectIf (s : State) (bad : Bool) (ofs : Nat) : Touches [] s (s.rejectIf bad ofs) := by
  unfold State.rejectIf
  split
  · exact touches_regRejected s ofs
  · exact .refl _ s

theorem pendingSource_rejectIf (s : State) {bad : Bool} (ofs : Nat) (h : bad = true) : pendingSource (s.rejectIf bad ofs) 1004 := by
  simpa [State.rejectIf, h] using pendingSource_regRejected s ofs

/-- A word code that SAP_CFG reserves. -/
def sapBadWord (v : Word) : Bool := bits v 4 3 == 3

/-- A slots code that a controller may not have at a frame rate. -/
def sapBadSlots (fs : Nat) (v : Word) : Bool := v.getLsbD 0 && !v.getLsbD 5 && decide (sapSlotLimit fs < bits v 2 1)

/-- The configuration that a write leaves: reserved fields keep their value (R8). -/
def sapNewCfg (fs : Nat) (old v : Word) : Word :=
  w32 (flag (v.getLsbD 0) 0 + fld (if sapBadSlots fs v then bits old 2 1 else bits v 2 1) 1 +
    fld (if sapBadWord v then bits old 4 3 else bits v 4 3) 3 + flag (v.getLsbD 5) 5)

/-- A write of SAP_CFG to a port that is off. -/
theorem sapCfg_eq (s : State) {p : Nat} (v : Word) (h : (s.sap.get p).en = false) : s.sapCfg p v =
    (s.modSap fun b => b.upd p fun x => { x with cfg := sapNewCfg s.fs x.cfg v }).rejectIf (sapBadWord v || sapBadSlots s.fs v)
      (0x320004 + 0x100 * p) := by
  rw [State.sapCfg]
  dsimp only
  rw [if_neg (by simp [h])]
  rfl

theorem does_sapCfgWrite {s : State} {t p : Fin 8} (v : Word) (h : inRun s t) (hown : s.periphOwner pcSap p = some t.val)
    (hen : (s.sap.get p).en = false) : let x := s.sap.get p
    let badWord := v.toNat / 8 % 4 = 3
    let badSlots := v.getLsbD 0 = true ∧ v.getLsbD 5 = false ∧
      (if s.fs ≤ 48000 then 3 else if s.fs ≤ 96000 then 2 else 1) < v.toNat / 2 % 4
    Does (.sapCfgWrite t p v) s fun u => keptBut (.sap :: accessing) s u ∧ (badWord ∨ badSlots → pendingSource u 1004) ∧
      portOnly s u p { x with cfg := BitVec.ofNat 32 ((if v.getLsbD 0 = true then 1 else 0) +
        2 * (if badSlots then x.cfg.toNat / 2 % 4 else v.toNat / 2 % 4) + 8 * (if badWord then x.cfg.toNat / 8 % 4 else v.toNat / 8 % 4) +
        (if v.getLsbD 5 = true then 32 else 0)) } := by
  intro x badWord badSlots
  have hword : sapBadWord v = true ↔ badWord := by simp [badWord, sapBadWord, bits]
  have hslots : sapBadSlots s.fs v = true ↔ badSlots := by simp [badSlots, sapBadSlots, sapSlotLimit, bits, and_assoc]
  refine does_access rfl h (sap_isSome (by omega)) (by simp [hown]) fun r hr => ?_
  have hr0 : r.sap = s.sap := hr.same .sap (by decide)
  have hfs : r.fs = s.fs := congrArg (fun x : SpawnState => fsHz x.active.dev.fs) (hr.same .spawn (by decide))
  have hrej := touches_rejectIf (r.modSap fun b => b.upd p fun x => { x with cfg := sapNewCfg s.fs x.cfg v }) (sapBadWord v || sapBadSlots s.fs v)
    (0x320004 + 0x100 * p)
  rw [sapCfg_eq r v (by rwa [hr0]), hfs]
  refine ⟨((hr.widen.trans (touches_modSap r _)).trans hrej.widen).kept.mono (by decide), fun hb => ?_,
    portOnly_of_sap (f := fun x => { x with cfg := sapNewCfg s.fs x.cfg v }) p.isLt ?_ ?_⟩
  · exact pendingSource_rejectIf _ _ (by simpa [hword, hslots] using hb)
  · rw [hrej.same .sap (by decide), State.modSap_sap, hr0]
  · simp only [x, sapNewCfg, hword, hslots, w32, fld, flag, bits, Nat.reduceAdd, Nat.reduceSub, Nat.reducePow]
    rw [Nat.mul_comm 2, Nat.mul_comm 8]

theorem sapFollows_iff (s : State) (p : Nat) : s.sapFollows p = true ↔ (s.sap.get p).en = true ∧ (s.sap.get p).cfg.getLsbD 5 = true := by
  simp [State.sapFollows, sapTarget]

/-- A port changed by f, and its source settled. -/
theorem portOnly_settle (s : State) {p : Nat} (hp : p < 8) (f : Sap → Sap) (i : Nat) :
    let t := (s.modSap fun b => b.upd p f).settle i
    keptBut (.sap :: reporting) s t ∧ portOnly s t p (f (s.sap.get p)) := by
  have h := touches_settle (s.modSap fun b => b.upd p f) i
  exact ⟨((touches_modSap s _).trans h.widen).kept.mono (by decide), portOnly_of_sap hp (h.same .sap (by decide)) rfl⟩

/-- A port with a slip to make good at the next boundary (R324). -/
def Sap.slipped (late : Bool) (x : Sap) : Sap := { x with
  repeatIn := late, dropIn := !late, repeatOut := !late, dropOut := late, status := x.status ||| 1#3, slipCnt := errCount x.slipCnt 1 }

theorem does_sapSlip {s : State} {p : Fin 8} (late : Bool) (h : s.sapFollows p = true) : let x := s.sap.get p
    Does (.sapSlip p late) s fun t => keptBut (.sap :: .free :: reporting) s t ∧ portOnly s t p
      { x with
        repeatIn := late, dropIn := !late, repeatOut := !late, dropOut := late, status := x.status ||| 1#3,
        slipCnt := errCount x.slipCnt 1, phase := (t.sap.get p).phase } := by
  have hslip : s.sapSlip p late = ((s.modSap fun b => b.upd p (Sap.slipped late)).sapMeasure p).settle (838 + p) := rfl
  refine ⟨_, rfl, ?_⟩
  rw [if_pos h, hslip]
  obtain ⟨hm, ph, hsap, -⟩ := sapMeasure_spec (s.modSap fun b => b.upd p (Sap.slipped late)) p
  have hset := touches_settle ((s.modSap fun b => b.upd p (Sap.slipped late)).sapMeasure p) (838 + p)
  rw [State.modSap_sap, Bank.upd_upd, ← show _ = _ from hset.same .sap (by decide)] at hsap
  refine ⟨((((touches_modSap s _).mono (by decide)).trans hm).trans hset.widen).kept.mono (by decide), portOnly_of_sap p.isLt hsap ?_⟩
  rw [hsap, Bank.get_upd_same _ _ p.isLt]
  rfl

/-- Settles O51: the owner's SAP_CTRL and SAP_CFG writes, their denial, and the slip, loss and return of FS of an enabled target. -/
theorem serialAudioPorts : Obligations.SerialAudioPorts := by
  unfold Obligations.SerialAudioPorts
  refine ⟨fun s t p v h => ⟨fun hown => ⟨?_, ?_⟩, fun hown => ⟨does_sapCtrlWrite_same h hown, does_sapCtrlWrite_change h hown,
    does_sapCfgWrite_enabled v h hown, does_sapCfgWrite v h hown⟩⟩, fun s p late => ⟨fun hen htgt => ?_, fun hoff => ?_⟩⟩
  · exact does_denied rfl h t.isLt (sap_isSome (by omega)) (by simp [hown])
  · exact does_denied rfl h t.isLt (sap_isSome (by omega)) (by simp [hown])
  · have hf : s.sapFollows p = true := (sapFollows_iff s p).mpr ⟨hen, htgt⟩
    refine ⟨does_sapSlip late hf, ⟨_, rfl, ?_⟩, fun hno => ⟨_, rfl, ?_⟩⟩
    · rw [if_pos hf]; exact portOnly_settle s p.isLt _ _
    · rw [if_pos (by simp [hf, hno])]; exact portOnly_settle s p.isLt _ _
  · have hf : s.sapFollows p = false := Bool.eq_false_iff.mpr fun hc => by
      obtain ⟨hen, htgt⟩ := (sapFollows_iff s p).mp hc
      exact hoff.elim (fun h => Bool.noConfusion (hen.symm.trans h)) fun h => Bool.noConfusion (htgt.symm.trans h)
    refine ⟨?_, ?_, ?_⟩ <;> change Host.Outcome.next _ = _ <;> simp [hf]

end Sys2Proof.Machine
end

section
/-! A write of EVS_CFG that is itself the cause of a rise of the source it writes (R8, R278, R404, R415, R419). -/

open Sys2Proof Sys2Proof.Machine Sys2Proof.Machine.Claim

namespace Sys2Proof.Machine

/-- A synchronised primary in RUNNING whose mirror queue is full, and whose steward takes ES1004 as SOURCE records in an EVT well that lies in a
MIRROR region. -/
def fullMirror : State :=
  { State.reset with
    dev := { DevState.reset with phase := .running }
    spawn := { SpawnState.reset with active := { AppliedCfg.empty with
      dev := { DeviceCfg.default with present := 1, role := .primary }
      ten := AppliedCfg.empty.ten.put 0 { TenancyCfg.default with
        wells := [{ well := 0, type := .evt, k := 4, ring := 0 }]
        cisterns := { regions := [{ cistern := 0, mirror := true, wipeOnRespawn := false, offset := 0, length := 1024 }], sealedRec := none } } } }
    mem := { MemState.reset with
      banks := MemState.reset.banks.upd 0 fun b => { b with owner := some 0 }
      mirrorQ := List.replicate 256 (0, List.replicate 64 0#8) }
    pair := { PairState.reset with synced := true }
    evs := { EvsState.reset with
      src := EvsState.reset.src.upd 1004 fun c => { c with mask := false, well := true }
      well := EvsState.reset.well.put 0 0x100#32 } }

/-- The steward names a pin that it does not hold for source 992, PAIR_STATUS.UNSYNCED. ES1004 posts a record, the record finds the mirror queue
full, the pair loses its synchronisation, and source 992 rises: its pending bit stands after a write that clears it. -/
theorem fullMirror_evsCfgWrite :
    ∃ w, exec (.evsCfgWrite 0 992 0x13#32) fullMirror = .next w ∧ (w.evs.src.get 992).pend = true :=
  ⟨_, rfl, by decide +kernel⟩

/-- Refutes O60: the clause that a PEND cleared without a request stays clear leaves out the rise that the write's own ES1004 can cause. -/
theorem not_sourcesCountersTraceTap : ¬ Obligations.SourcesCountersTraceTap := by
  unfold Obligations.SourcesCountersTraceTap
  rintro ⟨hcfg, -⟩
  obtain ⟨w, hw, hpend⟩ := fullMirror_evsCfgWrite
  obtain ⟨-, -, howned⟩ := hcfg fullMirror 0 992 0x13#32 ⟨rfl, rfl⟩
  obtain ⟨u, hu, -, -, -, -, -, -, -, hclear, -⟩ := howned (by decide +kernel) (by decide)
  obtain rfl : w = u := Host.Outcome.next.inj (hw.symm.trans hu)
  have hfalse : (w.evs.src.get 992).pend = false :=
    hclear rfl (.inr (by decide)) (by decide) (by decide +kernel) (by decide)
  exact Bool.noConfusion (hpend.symm.trans hfalse)

end Sys2Proof.Machine
end

section
/-! What the filter chain's controls and the ends of the calibrations rest on: a channel changed with its source, and an operation in
flight changed or ended (R122, R126, R383). -/

open Sys2Proof Sys2Proof.Machine Sys2Proof.Machine.Claim

namespace Sys2Proof.Machine

/-! ### A channel changed -/

theorem touches_modFilter (s : State) (f) : Touches [.filter] s (s.modFilter f) := .of_kept (keptBut_modFilter s f) (by decide) rfl rfl

theorem touches_updChan (s : State) (c : Nat) (f : FcChan → FcChan) : Touches [.filter] s (s.updChan c f) :=
  (touches_modFilter s _).trans (touches_settle _ _).widen

theorem updChan_filter (s : State) (c : Nat) (f : FcChan → FcChan) :
    (s.updChan c f).filter = { s.filter with chans := s.filter.chans.upd c f } :=
  (touches_settle (s.modFilter fun x => { x with chans := x.chans.upd c f }) (788 + c)).same .filter (by decide)

theorem chan_updChan_same (s : State) {c : Nat} (hc : c < 44) (f : FcChan → FcChan) : (s.updChan c f).chan c = f (s.chan c) := by
  rw [State.chan, updChan_filter]
  exact Bank.get_upd_same _ _ hc

theorem chan_updChan_other (s : State) {c k : Nat} (hk : k ≠ c) (f : FcChan → FcChan) : (s.updChan c f).chan k = s.chan k := by
  rw [State.chan, updChan_filter]
  exact Bank.get_upd_other _ _ hk

theorem chanOnly_updChan (s : State) (c : Nat) (f : FcChan → FcChan) : chanOnly s (s.updChan c f) c :=
  ⟨fun _ _ hk => chan_updChan_other s hk f, by rw [updChan_filter]⟩

theorem chanOnly_trans {s t u : State} {c : Nat} (h : chanOnly s t c) (k : chanOnly t u c) : chanOnly s u c :=
  ⟨fun j hj hn => (k.1 j hj hn).trans (h.1 j hj hn), by rw [k.2, h.2]⟩

/-- The filter chain alone decides which channels differ. -/
theorem chanOnly_congr {s r t u : State} {c : Nat} (hr : r.filter = s.filter) (hu : u.filter = t.filter) (h : chanOnly r t c) : chanOnly s u c := by
  simp only [chanOnly, State.chan, hu, ← hr]
  exact h

theorem chan_congr {s r : State} (h : r.filter = s.filter) (c : Nat) : r.chan c = s.chan c := by rw [State.chan, h, State.chan]

/-! ### The configuration -/

section
variable {s r : State} (h : r.spawn = s.spawn)
include h

theorem fs_congr : r.fs = s.fs := by rw [State.fs, State.cfg, h, State.fs]

theorem channelRec_congr (c : Nat) : r.channelRec c = s.channelRec c := by simp only [State.channelRec, State.tcfg, State.cfg, h]

theorem presetOf_congr (c : Nat) : r.presetOf c = s.presetOf c := by simp only [State.presetOf, channelRec_congr h]

theorem burstLength_congr (c : Nat) : r.burstLength c = s.burstLength c := by simp only [State.burstLength, presetOf_congr h]

end

/-! ### An operation in flight -/

theorem touches_updOp (s : State) (h : Word) (f : LongOp → LongOp) : Touches [.ops] s (s.updOp h f) :=
  .of_kept (keptBut_modOps s _) (by decide) rfl rfl

theorem findOp_congr {s r : State} (h : r.ops = s.ops) (x : Word) : r.findOp x = s.findOp x := by rw [State.findOp, h, State.findOp]

theorem touches_tracePermit (s : State) (n kind du : Nat) : Touches [] s (s.tracePermit n kind du) := touches_trace s _ _ _ _

theorem handle_of_findOp {s : State} {h : Word} {o : LongOp} (hf : s.findOp h = some o) : o.handle = h := by
  simpa using List.find?_some hf

theorem findOp_updOp {s : State} {h : Word} {o : LongOp} (f : LongOp → LongOp) (hf : ∀ o, (f o).handle = o.handle)
    (ho : s.findOp h = some o) : (s.updOp h f).findOp h = some (f o) := by
  have hkey (x : LongOp) : (if x.handle == h then f x else x).handle = x.handle := by split <;> simp [hf]
  have hmap : (s.updOp h f).findOp h = (s.findOp h).map fun x => if x.handle == h then f x else x := by
    simp only [State.updOp, State.findOp, State.modOps_ops, List.find?_map, Function.comp_def, hkey]
  simp [hmap, ho, handle_of_findOp ho]

theorem touches_releasePermit (s : State) (h : Word) : Touches [.ops] s (s.releasePermit h) := by
  unfold State.releasePermit
  split
  · exact .refl _ s
  · split
    · exact (touches_updOp s h _).trans (touches_tracePermit _ _ _ _).widen
    · exact touches_updOp s h _

theorem findOp_releasePermit {s : State} {h : Word} {o : LongOp} (ho : s.findOp h = some o) :
    (s.releasePermit h).findOp h = some { o with permit := .notNeeded } := by
  have hupd := findOp_updOp (fun o => { o with permit := .notNeeded }) (fun _ => rfl) ho
  rw [State.releasePermit, ho]
  dsimp only
  split
  · exact (findOp_congr ((touches_tracePermit _ _ _ _).same .ops (by decide)) h).trans hupd
  · exact hupd

theorem touches_finishOp (s : State) (h : Word) (status : BitVec 16) (res : List Word) : Touches [.ops] s (s.finishOp h status res) :=
  (touches_releasePermit s h).trans (touches_updOp _ _ _)

/-- An operation that has no completion yet ends with the status and the results given. -/
theorem inFlight_finishOp {s : State} {h : Word} {o : LongOp} (ho : s.findOp h = some o) (hd : o.done = none) (status : BitVec 16)
    (res : List Word) :
    inFlight (s.finishOp h status res) h fun x => ended x status ∧ x.done.map Completion.res = some res := by
  refine ⟨_, findOp_updOp _ (fun o => by split <;> rfl) (findOp_releasePermit ho), ?_⟩
  simp [hd, ended, handle_of_findOp ho]

/-- An operation that reaches its commit point and ends. -/
theorem inFlight_commit_finishOp {s : State} {h : Word} {o : LongOp} (ho : s.findOp h = some o) (hd : o.done = none) (status : BitVec 16)
    (res : List Word) :
    inFlight ((s.updOp h fun o => { o with committed := true }).finishOp h status res) h fun x =>
      ended x status ∧ x.done.map Completion.res = some res :=
  inFlight_finishOp (findOp_updOp (fun o => { o with committed := true }) (fun _ => rfl) ho) hd status res

end Sys2Proof.Machine
end

section
/-! The owner's writes to the filter chain: FREEZE, phase and triggers (R286, R294, R297, R298), and drift steps (R299, R300, R305). -/

open Sys2Proof Sys2Proof.Machine Sys2Proof.Machine.Claim

namespace Sys2Proof.Machine

theorem filter_isSome {ofs : Nat} (h : 0x300000 ≤ ofs ∧ ofs ≤ 0x30FFFF) : (blockOf ofs).isSome = true :=
  blockOf_isSome .filter 0x300000 0x30FFFF (by decide) h.1 h.2

/-! ### FREEZE and phase -/

theorem does_fcFreezeWrite {s : State} {t : Fin 8} {c : Fin 44} (v : Word) (h : inRun s t) (hown : s.fcOwner c = some t.val) :
    Does (.fcFreezeWrite t c v) s fun u => u.chan c = { (s.chan c) with freeze := v.getLsbD 0 } ∧ chanOnly s u c ∧
      keptBut (.filter :: accessing) s u := by
  refine does_access rfl h (filter_isSome (by omega)) (by simp [hown]) fun r hr => ?_
  have hf : r.filter = s.filter := hr.same .filter (by decide)
  exact ⟨by rw [State.fcCtrl, chan_updChan_same r c.isLt, chan_congr hf], chanOnly_congr hf rfl (chanOnly_updChan r c _),
    (hr.widen.trans (touches_updChan r c _)).kept.mono (by decide)⟩

theorem does_fcPhaseWrite_ain {s : State} {t : Fin 8} {c : Fin 44} (v : Word) (h : inRun s t) (hown : s.fcOwner c = some t.val)
    (hc : c.val < 8) : Does (.fcPhaseWrite t c v) s fun u => chanOnly s u c ∧ keptBut (.filter :: accessing) s u ∧
      ((s.chan c).on = false → u.chan c = { (s.chan c) with phase := v.setWidth 7, delay := v.setWidth 7 }) ∧
      ((s.chan c).on = true → (s.chan c).ramp = .idle → u.chan c = { (s.chan c) with phase := v.setWidth 7, ramp := .down 32 }) := by
  have hp : BitVec.ofNat 7 (bits v 6 0) = v.setWidth 7 := by
    apply BitVec.eq_of_toNat_eq
    simp [bits]
  refine does_access rfl h (filter_isSome (by omega)) (by simp [hown]) fun r hr => ?_
  have hf : r.filter = s.filter := hr.same .filter (by decide)
  simp only [State.fcPhase, if_neg (Nat.not_le.mpr hc)]
  refine ⟨chanOnly_congr hf rfl (chanOnly_updChan r c _), (hr.widen.trans (touches_updChan r c _)).kept.mono (by decide), fun hon => ?_,
    fun hon hramp => ?_⟩
  · simp only [chan_updChan_same r c.isLt, chan_congr hf, hp, hon, Bool.not_false, if_true]
  · simp only [chan_updChan_same r c.isLt, chan_congr hf, hp, hon, hramp, Bool.not_true, Bool.false_eq_true, if_false]

theorem does_fcPhaseWrite_reserved {s : State} {t : Fin 8} {c : Fin 44} (v : Word) (h : inRun s t) (hown : s.fcOwner c = some t.val)
    (hc : 8 ≤ c.val) : Does (.fcPhaseWrite t c v) s fun u => pendingSource u 1004 ∧ keptBut accessing s u := by
  refine does_access rfl h (filter_isSome (by omega)) (by simp [hown]) fun r hr => ?_
  simpa [State.fcPhase, hc] using rejected_of_touches hr _

/-! ### Triggers -/

/-- FC_TRIG as a write of source 3 leaves it. -/
def softTrig (v : Word) : Word := BitVec.ofNat 32 (3 + 4 * (v.toNat / 4 % 8) + 256 * (v.toNat / 256 % 256))

theorem bits_softTrig (v : Word) : bits (softTrig v) 1 0 = 3 := by
  simp only [bits, softTrig, BitVec.toNat_ofNat]
  omega

/-- A channel that a write of source 3 leaves: a held trigger stays only beside SWTRIG. -/
def FcChan.softTriggered (v : Word) (ch : FcChan) : FcChan := { ch with trig := softTrig v, held := ch.held && v.getLsbD 16 }

theorem triggered_softTriggered (v : Word) (ch : FcChan) : (ch.softTriggered v).triggered = true := by
  simp [FcChan.triggered, FcChan.softTriggered, bits_softTrig]

theorem fcTrigReg_software (s : State) {c : Nat} {v : Word} (h8 : 8 ≤ c) (h40 : c < 40) (hdrift : s.presetOf c ≠ presetDrift)
    (hsrc : v.toNat % 4 = 3) : s.fcTrigReg c v =
      if v.getLsbD 16 = true then (s.updChan c (FcChan.softTriggered v)).fcTrigger c else s.updChan c (FcChan.softTriggered v) := by
  have h10 : bits v 1 0 = 3 := by simpa [bits] using hsrc
  have htrig : w32 (3 + fld (bits v 4 2) 2 + fld (bits v 15 8) 8) = softTrig v := by
    simp only [w32, fld, bits, softTrig]
    congr 1
    omega
  rw [State.fcTrigReg]
  simp only [h10, Nat.reduceBNe, h8, decide_true, h40, Bool.and_self, Bool.not_true, Bool.false_or, Bool.true_and, beq_iff_eq, hdrift,
    ↓reduceIte, Nat.reduceBEq, Bool.false_and, Bool.false_eq_true, htrig, bits_softTrig, BEq.rfl, Bool.and_true, Bool.or_false]
  rfl

section
variable {s : State} {c : Nat} (hact : s.fcActive c = true) (htrig : (s.chan c).triggered = true)
include hact htrig

theorem fcTrigger_idle (hb : (s.chan c).busy = false) :
    s.fcTrigger c = s.updChan c fun ch => { ch with burst := some { left := s.burstLength c } } := by
  simp [State.fcTrigger, hact, htrig, hb]

theorem fcTrigger_held {r : ChannelRec} (hb : (s.chan c).busy = true) (hr : s.channelRec c = some r) (hp : r.pend1 = true)
    (hh : (s.chan c).held = false) : s.fcTrigger c = s.updChan c fun ch => { ch with held := true } := by
  simp [State.fcTrigger, hact, htrig, hb, hr, hp, hh]

theorem fcTrigger_lost {r : ChannelRec} (hb : (s.chan c).busy = true) (hr : s.channelRec c = some r)
    (hp : r.pend1 = false ∨ (s.chan c).held = true) :
    s.fcTrigger c = s.updChan c fun ch => { ch with ovlCnt := errCount ch.ovlCnt 1, status := ch.status ||| 2#5 } := by
  rcases hp with hp | hp <;> simp [State.fcTrigger, hact, htrig, hb, hr, hp]

end

/-- A trigger changes at most its channel, and the trigger register not at all. -/
theorem fcTrigger_frame (s : State) {c : Nat} (hc : c < 44) :
    Touches [.filter] s (s.fcTrigger c) ∧ chanOnly s (s.fcTrigger c) c ∧ ((s.fcTrigger c).chan c).trig = (s.chan c).trig := by
  have hupd (f : FcChan → FcChan) (hf : ∀ ch, (f ch).trig = ch.trig) :
      Touches [.filter] s (s.updChan c f) ∧ chanOnly s (s.updChan c f) c ∧ ((s.updChan c f).chan c).trig = (s.chan c).trig :=
    ⟨touches_updChan s c f, chanOnly_updChan s c f, by rw [chan_updChan_same s hc, hf]⟩
  unfold State.fcTrigger
  dsimp only
  split
  · exact ⟨.refl _ s, ⟨fun _ _ _ => rfl, rfl⟩, rfl⟩
  · split
    · exact hupd _ fun _ => rfl
    · split <;> split <;> exact hupd _ fun _ => rfl

theorem exec_trigWrite {s : State} {t : Fin 8} {c : Fin 44} {v : Word} {i : Instr} (hi : i ∈ [Instr.fcTrigWrite t c v, .swtrig t c v]) :
    exec i s = .next (s.access t (0x300008 + 0x80 * c.val) true (s.fcOwner c == some t.val) (fun s => s.fcTrigReg c v)) := by
  rcases List.mem_cons.mp hi with rfl | hi
  · rfl
  · rw [List.mem_singleton.mp hi]
    rfl

theorem fcActive_congr {s r : State} {c : Nat} (hon : (r.chan c).on = (s.chan c).on) (hd : r.dev = s.dev) : r.fcActive c = s.fcActive c := by
  rw [State.fcActive, hon, hd, State.fcActive]

theorem does_trigWrite {s : State} {t : Fin 8} {c : Fin 44} {v : Word} {i : Instr} (hi : i ∈ [Instr.fcTrigWrite t c v, .swtrig t c v])
    (h : inRun s t) (hown : s.fcOwner c = some t.val) (h8 : 8 ≤ c.val) (h40 : c.val < 40) (hdrift : s.presetOf c ≠ presetDrift)
    (hsrc : v.toNat % 4 = 3) (hact : s.fcActive c = true) : let ch := s.chan c
    Does i s fun u => (u.chan c).trig = softTrig v ∧ chanOnly s u c ∧ keptBut (.filter :: accessing) s u ∧
      (v.getLsbD 16 = false → (u.chan c).burst = ch.burst ∧ (u.chan c).held = false) ∧
      (v.getLsbD 16 = true → ch.burst = none → ch.cal = none → (u.chan c).burst = some { left := 2 ^ presetM (s.presetOf c) }) ∧
      (∀ b r, v.getLsbD 16 = true → ch.burst = some b → s.channelRec c = some r → (u.chan c).burst = some b ∧
        (r.pend1 = true → ch.held = false → (u.chan c).held = true ∧ (u.chan c).ovlCnt = ch.ovlCnt) ∧
        (r.pend1 = false ∨ ch.held = true → (u.chan c).ovlCnt = errCount ch.ovlCnt 1 ∧ (u.chan c).status.getLsbD 1 = true)) := by
  refine does_access (exec_trigWrite hi) h (filter_isSome (by omega)) (by simp [hown]) fun r hr => ?_
  have hf : r.filter = s.filter := hr.same .filter (by decide)
  have hs1 : Touches [.filter] s (r.updChan c (FcChan.softTriggered v)) := hr.widen.trans (touches_updChan r c _)
  have honly : chanOnly s (r.updChan c (FcChan.softTriggered v)) c := chanOnly_congr hf rfl (chanOnly_updChan r c _)
  have hspawn : (r.updChan c (FcChan.softTriggered v)).spawn = s.spawn := hs1.same .spawn (by decide)
  have hchan : (r.updChan c (FcChan.softTriggered v)).chan c = (s.chan c).softTriggered v := by
    rw [chan_updChan_same r c.isLt, chan_congr hf]
  rw [fcTrigReg_software r h8 h40 (by rwa [presetOf_congr (hr.same .spawn (by decide))]) hsrc]
  generalize r.updChan c (FcChan.softTriggered v) = s1 at hs1 honly hspawn hchan ⊢
  have hact1 : s1.fcActive c = true := (fcActive_congr (by rw [hchan]; rfl) (hs1.same .dev (by decide))).trans hact
  have htrig1 : (s1.chan c).triggered = true := hchan ▸ triggered_softTriggered v _
  by_cases hsw : v.getLsbD 16 = true
  · obtain ⟨htch, honly', htrig⟩ := fcTrigger_frame s1 c.isLt
    simp only [hsw, if_true, Bool.true_eq_false, false_imp_iff, true_imp_iff, true_and]
    refine ⟨htrig.trans (by rw [hchan]; rfl), chanOnly_trans honly honly', (hs1.trans htch).kept.mono (by decide), fun hb hc => ?_,
      fun b x hb hx => ?_⟩
    · rw [fcTrigger_idle hact1 htrig1 (by simp [hchan, FcChan.busy, FcChan.softTriggered, hb, hc]), chan_updChan_same s1 c.isLt,
        burstLength_congr hspawn]
      rfl
    · have hbusy : (s1.chan c).busy = true := by simp [hchan, FcChan.busy, FcChan.softTriggered, hb]
      have hheld : (s1.chan c).held = (s.chan c).held := by simp only [hchan, FcChan.softTriggered, hsw, Bool.and_true]
      have hburst : (s1.chan c).burst = some b := by rw [hchan]; exact hb
      have hovl : (s1.chan c).ovlCnt = (s.chan c).ovlCnt := by rw [hchan]; rfl
      have hx1 : s1.channelRec c = some x := (channelRec_congr hspawn c).trans hx
      by_cases hp : x.pend1 = true ∧ (s.chan c).held = false
      · rw [fcTrigger_held hact1 htrig1 hbusy hx1 hp.1 (hheld.trans hp.2), chan_updChan_same s1 c.isLt]
        exact ⟨hburst, fun _ _ => ⟨rfl, hovl⟩, fun hn => by simp [hp] at hn⟩
      · have hn : x.pend1 = false ∨ (s.chan c).held = true := by
          cases hpend : x.pend1
          · exact .inl rfl
          · exact .inr (by simpa [hpend] using hp)
        rw [fcTrigger_lost hact1 htrig1 hbusy hx1 (by rwa [hheld]), chan_updChan_same s1 c.isLt]
        exact ⟨hburst, fun h1 h2 => absurd ⟨h1, h2⟩ hp, fun _ => ⟨by rw [← hovl], by simp⟩⟩
  · simp only [hsw, Bool.false_eq_true, if_false, false_imp_iff, implies_true, and_true, hchan]
    exact ⟨rfl, honly, hs1.kept.mono (by decide), fun _ => ⟨rfl, by simp only [FcChan.softTriggered, hsw, Bool.and_false]⟩⟩

/-! ### Drift steps -/

/-- The next AIN channel that is on, from the one after the last served (R300). -/
theorem driftNext_lt {s : State} {c : Nat} (h : s.driftNext = some c) : c < 8 := by
  obtain ⟨i, _, rfl⟩ := List.mem_map.mp (List.mem_of_find?_eq_some h)
  omega

/-- The spare judged and the channel of a drift step chosen. -/
def State.driftChosen (s : State) (c : Nat) (fault : Bool) : State :=
  (s.modFilter fun f => { f with spareFault := fault }).modFilter fun f => { f with driftLast := c }

theorem driftBegin_eq {s : State} {x : BitVec 32} {c : Nat} (hrun : s.dev.phase = .running) (hfree : s.spareFree = true)
    (hper : s.filter.driftPer ≠ 0#16) (hlevel : s.supply.level = 0) (hc : s.driftNext = some c) :
    let fault := s.filter.spareFault || gLt (gRatio 1 100) (fAbs x)
    s.driftBegin x = if fault = true then (s.driftChosen c fault).driftSkipped c
      else ((s.driftChosen c fault).modFilter fun f => { f with drift := some c }).lend c none := by
  simp [State.driftBegin, hrun, hfree, hper, hlevel, hc, State.driftChosen]

theorem does_driftStep {s : State} {x : Word} {c : Nat} (hrun : s.dev.phase = .running) (hper : s.filter.driftPer ≠ 0#16)
    (hhold : s.calHold = false) (hdrift : s.filter.drift = none) (hlevel : s.supply.level = 0) (hc : s.driftNext = some c) :
    let fault := s.filter.spareFault || gLt (gRatio 1 100) (fAbs x)
    Does (.driftStep x) s fun t => t.filter.driftLast = c ∧ t.filter.spareFault = fault ∧ (∀ k < 44, k ≠ c → t.chan k = s.chan k) ∧
      keptBut (.filter :: reporting) s t ∧
      (fault = false → t.filter.drift = some c ∧
        (t.chan c).cal = some { handle := none, kind := 0, tries := 1, disturbed := false, codes := [], step := .beside (calSettle s.fs) } ∧
        (t.chan c).driftSkip = (s.chan c).driftSkip) ∧
      (fault = true → t.filter.drift = none ∧ (t.chan c).driftSkip = errCount (s.chan c).driftSkip 1 ∧
        (t.chan c).status.getLsbD 3 = true) := by
  intro fault
  have hc44 : c < 44 := by have := driftNext_lt hc; omega
  have hfree : s.spareFree = true := by simp [State.spareFree, hhold, hdrift]
  have hch : Touches [.filter] s (s.driftChosen c fault) := (touches_modFilter s _).trans (touches_modFilter _ _)
  refine ⟨_, rfl, ?_⟩
  rw [driftBegin_eq hrun hfree hper hlevel hc]
  by_cases hfault : fault = true
  · rw [if_pos hfault, State.driftSkipped]
    refine ⟨by rw [updChan_filter]; rfl, by rw [updChan_filter]; rfl, fun k _ hk => chan_updChan_other _ hk _,
      (hch.trans (touches_updChan _ _ _)).kept.mono (by decide), fun hn => absurd hfault (by simp [hn]), fun _ => ⟨?_, ?_, ?_⟩⟩
    · rw [updChan_filter]; exact hdrift
    · rw [chan_updChan_same _ hc44]; rfl
    · rw [chan_updChan_same _ hc44]; simp
  · rw [if_neg hfault, State.lend]
    refine ⟨by rw [updChan_filter]; rfl, by rw [updChan_filter]; rfl, fun k _ hk => chan_updChan_other _ hk _,
      ((hch.trans (touches_modFilter _ _)).trans (touches_updChan _ _ _)).kept.mono (by decide), fun _ => ⟨?_, ?_, ?_⟩,
      fun hn => absurd hn hfault⟩
    · rw [updChan_filter]; rfl
    · rw [chan_updChan_same _ hc44]; rfl
    · rw [chan_updChan_same _ hc44]; rfl

end Sys2Proof.Machine
end

section
/-! The ends of the calibrations (R299 to R302, R321), and the obligation of the filter chain's controls. -/

open Sys2Proof Sys2Proof.Machine Sys2Proof.Machine.Claim

namespace Sys2Proof.Machine

/-! ### The operation of a calibration -/

theorem touches_commit_finishOp (s : State) (h : Word) (status : BitVec 16) (res : List Word) :
    Touches [.ops] s ((s.updOp h fun o => { o with committed := true }).finishOp h status res) :=
  (touches_updOp s h _).trans (touches_finishOp _ h status res)

theorem calRuns_of_measures {s : State} {k : ChanCal} {h : Word} {o : LongOp} (hstep : k.step = .measure) (hk : k.handle = some h)
    (hm : measures s h o) : s.calRuns k = true := by
  obtain ⟨ho, -, hdone, hpermit⟩ := hm
  simp [State.calRuns, hstep, hk, ho, hdone, hpermit]

theorem calRuns_of_drift (s : State) {k : ChanCal} (hstep : k.step = .measure) (hk : k.handle = none) : s.calRuns k = true := by
  simp [State.calRuns, hstep, hk]

/-- A calibration that ends with a completion, from a state that has the same operations: what the end leaves. -/
theorem inFlight_end {s r : State} {h : Word} {o : LongOp} (hm : measures s h o) (hr : r.ops = s.ops) (status : BitVec 16) (res : List Word) :
    inFlight (r.finishOp h status res) h fun x => ended x status ∧ x.done.map Completion.res = some res :=
  inFlight_finishOp ((findOp_congr hr h).trans hm.1) hm.2.2.1 status res

theorem inFlight_commit_end {s r : State} {h : Word} {o : LongOp} (hm : measures s h o) (hr : r.ops = s.ops) (status : BitVec 16)
    (res : List Word) :
    inFlight ((r.updOp h fun o => { o with committed := true }).finishOp h status res) h fun x =>
      ended x status ∧ x.done.map Completion.res = some res :=
  inFlight_commit_finishOp ((findOp_congr hr h).trans hm.1) hm.2.2.1 status res

/-! ### AIN: offsets and drift (R299, R300) -/

/-- A channel goes back to its own modulator after its measurement (R299). -/
def State.calLeave (s : State) (c : Nat) : State := s.updChan c fun ch => ch.calLeave s.fs

theorem touches_calLeave (s : State) (c : Nat) : Touches [.filter] s (s.calLeave c) := touches_updChan s c _

theorem chan_calLeave {s r : State} {c : Nat} {k : ChanCal} (hc : c < 44) (hr : r.spawn = s.spawn) (hcal : (r.chan c).cal = some k) :
    (r.calLeave c).chan c = { (r.chan c) with cal := some { k with step := .settle (calSettle s.fs) } } := by
  rw [State.calLeave, chan_updChan_same r hc, fs_congr hr, FcChan.calLeave, hcal]
  rfl

/-- The measured offset of a channel is written. -/
def State.writeOffset (s : State) (c : Nat) (mean : Word) : State := s.updChan c fun ch => { ch with coef0 := mean }

theorem touches_writeOffset (s : State) (c : Nat) (mean : Word) : Touches [.filter] s (s.writeOffset c mean) := touches_updChan s c _

theorem chan_writeOffset (s : State) {c : Nat} (hc : c < 44) (mean : Word) :
    (s.writeOffset c mean).chan c = { (s.chan c) with coef0 := mean } := chan_updChan_same s hc _

theorem touches_driftSkipped (s : State) (c : Nat) : Touches [.filter] s (s.driftSkipped c) := touches_updChan s c _

theorem chan_driftSkipped (s : State) {c : Nat} (hc : c < 44) : (s.driftSkipped c).chan c =
    { (s.chan c) with driftSkip := errCount (s.chan c).driftSkip 1, status := (s.chan c).status ||| 8#5 } := chan_updChan_same s hc _

section
variable {s : State} {c : Fin 8} {k : ChanCal} (mean : Word) (hcal : (s.chan c).cal = some k) (hruns : s.calRuns k = true)
include hcal hruns

theorem ainCalEnd_drift (hk : k.handle = none) :
    s.ainCalEnd c mean = if k.disturbed = true then (s.driftSkipped c).calLeave c else (s.writeOffset c mean).calLeave c := by
  simp only [State.ainCalEnd, hcal, hruns, hk, Bool.not_true, Bool.false_eq_true, if_false]
  rfl

theorem ainCalEnd_done {h : Word} (hk : k.handle = some h) (hd : k.disturbed = false) : let r := (s.writeOffset c mean).calLeave c
    s.ainCalEnd c mean = (r.updOp h fun o => { o with committed := true }).finishOp h csDone (r.calResults 0 c) := by
  simp only [State.ainCalEnd, hcal, hruns, hk, hd, Bool.not_true, Bool.false_eq_true, if_false]
  rfl

theorem ainCalEnd_retry {h : Word} (hk : k.handle = some h) (hd : k.disturbed = true) (ht : k.tries < 4) :
    s.ainCalEnd c mean = s.updChan c fun ch => { ch with cal := some { k with tries := k.tries + 1, disturbed := false } } := by
  simp only [State.ainCalEnd, hcal, hruns, hk, hd, ht, Bool.not_true, Bool.false_eq_true, if_false, if_true]

theorem ainCalEnd_disturbed {h : Word} (hk : k.handle = some h) (hd : k.disturbed = true) (ht : 4 ≤ k.tries) :
    s.ainCalEnd c mean = (s.calLeave c).finishOp h csDisturbed (s.calResults 0 c) := by
  simp only [State.ainCalEnd, hcal, hruns, hk, hd, Nat.not_lt.mpr ht, Bool.not_true, Bool.false_eq_true, if_false, if_true]
  rfl

end

theorem does_ainCalMeasureEnd_drift {s : State} {c : Fin 8} {k : ChanCal} (mean : Word) (hcal : (s.chan c).cal = some k)
    (hstep : k.step = .measure) (hk : k.handle = none) : let left := some { k with step := .settle (calSettle s.fs) }
    Does (.ainCalMeasureEnd c mean) s fun t => chanOnly s t c ∧ keptBut (.filter :: reporting) s t ∧ t.chan c = (if k.disturbed = true
      then { (s.chan c) with cal := left, driftSkip := errCount (s.chan c).driftSkip 1, status := (s.chan c).status ||| 8#5 }
      else { (s.chan c) with cal := left, coef0 := mean }) := by
  have hc : c.val < 44 := by omega
  refine ⟨_, rfl, ?_⟩
  rw [ainCalEnd_drift mean hcal (calRuns_of_drift s hstep hk) hk]
  split
  · have ht := touches_driftSkipped s c
    refine ⟨chanOnly_trans (chanOnly_updChan s c _) (chanOnly_updChan _ c _), (ht.trans (touches_calLeave _ c)).kept, ?_⟩
    rw [chan_calLeave hc (ht.same .spawn (by decide)) (by rw [chan_driftSkipped s hc]; exact hcal), chan_driftSkipped s hc]
  · have ht := touches_writeOffset s c mean
    refine ⟨chanOnly_trans (chanOnly_updChan s c _) (chanOnly_updChan _ c _), (ht.trans (touches_calLeave _ c)).kept, ?_⟩
    rw [chan_calLeave hc (ht.same .spawn (by decide)) (by rw [chan_writeOffset s hc]; exact hcal), chan_writeOffset s hc]

section
variable {s : State} {c : Fin 8} {k : ChanCal} {h : Word} {o : LongOp} (mean : Word) (hcal : (s.chan c).cal = some k)
  (hstep : k.step = .measure) (hk : k.handle = some h) (hm : measures s h o)
include hcal hstep hk hm

theorem does_ainCalMeasureEnd_done (hd : k.disturbed = false) : Does (.ainCalMeasureEnd c mean) s fun t =>
    t.chan c = { (s.chan c) with coef0 := mean, cal := some { k with step := .settle (calSettle s.fs) } } ∧
      inFlight t h (fun x => ended x csDone ∧ x.done.map Completion.res = some [mean, (s.chan c).coef1]) ∧
      (∀ j < 44, j ≠ c.val → t.chan j = s.chan j) ∧ keptBut (.filter :: .ops :: reporting) s t := by
  have hc : c.val < 44 := by omega
  have hoff := touches_writeOffset s c mean
  have hr := hoff.trans (touches_calLeave _ c)
  have hchan : ((s.writeOffset c mean).calLeave c).chan c =
      { (s.chan c) with coef0 := mean, cal := some { k with step := .settle (calSettle s.fs) } } := by
    rw [chan_calLeave hc (hoff.same .spawn (by decide)) (by rw [chan_writeOffset s hc]; exact hcal), chan_writeOffset s hc]
  have honly : chanOnly s ((s.writeOffset c mean).calLeave c) c := chanOnly_trans (chanOnly_updChan s c _) (chanOnly_updChan _ c _)
  refine ⟨_, rfl, ?_⟩
  rw [ainCalEnd_done mean hcal (calRuns_of_measures hstep hk hm) hk hd]
  generalize (s.writeOffset c mean).calLeave c = r at hr hchan honly ⊢
  have hend := touches_commit_finishOp r h csDone (r.calResults 0 c)
  have hf := hend.same .filter (by decide)
  refine ⟨(chan_congr hf c).trans hchan, ?_, fun j hj hn => (chan_congr hf j).trans (honly.1 j hj hn), ?_⟩
  · have := inFlight_commit_end hm (hr.same .ops (by decide)) csDone (r.calResults 0 c)
    rwa [show r.calResults 0 c = [mean, (s.chan c).coef1] by simp only [State.calResults, hchan]] at this ⊢
  · exact ((hr.mono (by decide)).trans (hend.mono (by decide)) : Touches [.filter, .ops] s _).kept

theorem does_ainCalMeasureEnd_retry (hd : k.disturbed = true) (ht : k.tries < 4) : Does (.ainCalMeasureEnd c mean) s fun t =>
    t.chan c = { (s.chan c) with cal := some { k with tries := k.tries + 1, disturbed := false } } ∧ chanOnly s t c ∧
      keptBut (.filter :: reporting) s t := by
  refine ⟨_, rfl, ?_⟩
  rw [ainCalEnd_retry mean hcal (calRuns_of_measures hstep hk hm) hk hd ht]
  exact ⟨chan_updChan_same s (by omega) _, chanOnly_updChan s c _, (touches_updChan s c _).kept⟩

theorem does_ainCalMeasureEnd_disturbed (hd : k.disturbed = true) (ht : 4 ≤ k.tries) : Does (.ainCalMeasureEnd c mean) s fun t =>
    t.chan c = { (s.chan c) with cal := some { k with step := .settle (calSettle s.fs) } } ∧
      inFlight t h (fun x => ended x csDisturbed ∧ x.done.map Completion.res = some [(s.chan c).coef0, (s.chan c).coef1]) ∧
      (∀ j < 44, j ≠ c.val → t.chan j = s.chan j) ∧ keptBut (.filter :: .ops :: reporting) s t := by
  have hr := touches_calLeave s c
  have hend := touches_finishOp (s.calLeave c) h csDisturbed (s.calResults 0 c)
  have hf := hend.same .filter (by decide)
  refine ⟨_, rfl, ?_⟩
  rw [ainCalEnd_disturbed mean hcal (calRuns_of_measures hstep hk hm) hk hd ht]
  refine ⟨(chan_congr hf c).trans (chan_calLeave (by omega) rfl hcal), inFlight_end hm (hr.same .ops (by decide)) csDisturbed _,
    fun j hj hn => (chan_congr hf j).trans ((chanOnly_updChan s c _).1 j hj hn), ?_⟩
  exact ((hr.mono (by decide)).trans (hend.mono (by decide)) : Touches [.filter, .ops] s _).kept

end

/-! ### SEN: zeros and spans (R301) -/

/-- The mean of the codes that a SEN calibration gathered. -/
def ChanCal.mean (k : ChanCal) : Word := gRatio (k.codes.sum : Nat) 256

/-- The measured value is no zero, or no span: its noise, its window or its distance from the other coefficient. -/
def senBad (ch : FcChan) (k : ChanCal) : Bool :=
  let sum := k.codes.sum
  let sq := (k.codes.map fun x => x * x).sum
  let noise := ch.calNoise.toNat * 256
  let win := if k.kind = 1 then ch.zWin else ch.sWin
  let other := if k.kind = 1 then ch.coef1 else ch.coef0
  decide (noise * noise < 256 * sq - sum * sum) || decide (sum < 256 * bits win 15 0) || decide (256 * bits win 31 16 < sum) ||
    gLt (fAbs (gSub k.mean other)) (gOfInt 1024)

/-- What R301 asks of the measured value. -/
def senPlausible (ch : FcChan) (k : ChanCal) : Prop :=
  let sum := k.codes.sum
  let win := if k.kind = 1 then ch.zWin else ch.sWin
  256 * (k.codes.map fun x => x * x).sum - sum * sum ≤ (256 * ch.calNoise.toNat) * (256 * ch.calNoise.toNat) ∧
    256 * (win.toNat % 2 ^ 16) ≤ sum ∧ sum ≤ 256 * (win.toNat / 2 ^ 16) ∧
    gLt (fAbs (gSub k.mean (if k.kind = 1 then ch.coef1 else ch.coef0))) (gOfInt 1024) = false

theorem senBad_eq_false_iff (ch : FcChan) (k : ChanCal) : senBad ch k = false ↔ senPlausible ch k := by
  have hhi (w : Word) : bits w 31 16 = w.toNat / 2 ^ 16 := Nat.mod_eq_of_lt (by have := w.isLt; omega)
  have hlo (w : Word) : bits w 15 0 = w.toNat % 2 ^ 16 := by simp [bits]
  simp only [senBad, senPlausible, Bool.or_eq_false_iff, decide_eq_false_iff_not, Nat.not_lt, hhi, hlo, Nat.mul_comm ch.calNoise.toNat,
    and_assoc]

/-- A SEN channel after its measurement. -/
def FcChan.senMeasured (k : ChanCal) (bad : Bool) (ch : FcChan) : FcChan := { ch with
  cal := none, coef0 := if !bad && k.kind = 1 then k.mean else ch.coef0, coef1 := if !bad && k.kind = 2 then k.mean else ch.coef1 }

theorem senCalEnd_of_measures {s : State} {i : Fin 32} {h : Word} {k : ChanCal} {o : LongOp} (hcal : (s.chan (8 + i.val)).cal = some k)
    (hstep : k.step = .measure) (hk : k.handle = some h) (hm : measures s h o) (hlen : k.codes.length = 256) :
    let c := 8 + i.val
    let bad := senBad (s.chan c) k
    let r := s.updChan c fun ch => (ch.senMeasured k bad).release (s.burstLength c)
    s.senCalEnd i = if bad = true then r.finishOp h csImplausible (r.calResults 1 i)
      else (r.updOp h fun o => { o with committed := true }).finishOp h csDone (r.calResults 1 i) := by
  simp only [State.senCalEnd, hcal, calRuns_of_measures hstep hk hm, hlen, hk, Bool.not_true, bne_self_eq_false, Bool.or_self,
    Bool.false_eq_true, if_false]
  rfl

theorem release_of_not_held {ch : FcChan} (h : ch.held = false) (n : Nat) : ch.release n = ch := by simp [FcChan.release, h]

/-- The end of a SEN measurement, with p for whether its value is plausible. -/
theorem does_senCalMeasureEnd {s : State} {i : Fin 32} {h : Word} {k : ChanCal} {o : LongOp} (p : Prop) [Decidable p]
    (hp : senBad (s.chan (8 + i.val)) k = false ↔ p) (hcal : (s.chan (8 + i.val)).cal = some k)
    (hstep : k.step = .measure) (hk : k.handle = some h) (hm : measures s h o) (hlen : k.codes.length = 256)
    (hheld : (s.chan (8 + i.val)).held = false) : let c := 8 + i.val
    let ch := s.chan c
    Does (.senCalMeasureEnd i) s fun t => (t.chan c).cal = none ∧ chanOnly s t c ∧ keptBut (.filter :: .ops :: reporting) s t ∧
      (t.chan c).coef0 = (if p ∧ k.kind = 1 then k.mean else ch.coef0) ∧ (t.chan c).coef1 = (if p ∧ k.kind = 2 then k.mean else ch.coef1) ∧
      inFlight t h (fun x => ended x (if p then csDone else csImplausible) ∧
        x.done.map Completion.res = some [(t.chan c).coef0, (t.chan c).coef1]) := by
  intro c ch
  have hc : c < 44 := by omega
  have hbad : senBad ch k = !decide p := by
    have hp' : senBad ch k = false ↔ p := hp
    cases hb : senBad ch k <;> simp [← hp', hb]
  have hneg : senBad ch k = true → ¬ p := fun h => by simpa [hbad] using h
  have hpos : ¬ senBad ch k = true → p := fun h => by simpa [hbad] using h
  refine ⟨_, rfl, ?_⟩
  rw [senCalEnd_of_measures hcal hstep hk hm hlen]
  have hr := touches_updChan s c fun x => (x.senMeasured k (senBad ch k)).release (s.burstLength c)
  have honly := chanOnly_updChan s c fun x => (x.senMeasured k (senBad ch k)).release (s.burstLength c)
  have hchan := chan_updChan_same s hc fun x => (x.senMeasured k (senBad ch k)).release (s.burstLength c)
  rw [release_of_not_held (show (ch.senMeasured k _).held = false from hheld)] at hchan
  generalize s.updChan c _ = r at hr honly hchan ⊢
  have hops : r.ops = s.ops := hr.same .ops (by decide)
  suffices hend : ∀ t : State, Touches [.ops] r t → inFlight t h (fun x => ended x (if p then csDone else csImplausible) ∧
      x.done.map Completion.res = some (r.calResults 1 i)) → _ by
    split
    · next hb =>
      refine hend _ (touches_finishOp r h _ _) ?_
      rw [if_neg (hneg hb)]
      exact inFlight_end hm hops _ _
    · next hb =>
      refine hend _ (touches_commit_finishOp r h _ _) ?_
      rw [if_pos (hpos hb)]
      exact inFlight_commit_end hm hops _ _
  intro t ht hin
  have hf : t.filter = r.filter := ht.same .filter (by decide)
  have htc : t.chan c = ch.senMeasured k (!decide p) := by rw [chan_congr hf, hchan, hbad]
  refine ⟨by rw [htc]; rfl, chanOnly_congr rfl hf honly, ((hr.mono (by decide)).trans (ht.mono (by decide)) : Touches [.filter, .ops] s _).kept,
    by simp [htc, FcChan.senMeasured], by simp [htc, FcChan.senMeasured], ?_⟩
  rwa [show [(t.chan c).coef0, (t.chan c).coef1] = r.calResults 1 i by rw [chan_congr hf]; rfl]

/-! ### Outputs: CV and AOUT coefficients (R321) -/

theorem touches_modSpout (s : State) (f) : Touches [.spout] s (s.modSpout f) := .of_kept (keptBut_modSpout s f) (by decide) rfl rfl

theorem touches_endOutCal (s : State) (cls ch : Nat) : Touches [.spout] s (s.endOutCal cls ch) := by
  unfold State.endOutCal
  split <;> exact (touches_modSpout s _).trans (touches_settle _ _).widen

theorem endOutCal_aout_spout (s : State) (n : Nat) : (s.endOutCal 3 n).spout =
    { s.spout with lga := s.spout.lga.upd (n / 4) fun g => { g with cal := none, status := g.status ||| 2#2 } } :=
  (touches_settle _ _).same .spout (by decide)

theorem endOutCal_cv_spout (s : State) (n : Nat) : (s.endOutCal 2 n).spout =
    { s.spout with lgc := s.spout.lgc.upd (n / 8) fun g => { g with cal := none, status := g.status ||| 8#4 } } :=
  (touches_settle _ _).same .spout (by decide)

/-- The class and the channel that a CALIBRATE names. -/
def LongOp.calClass (o : LongOp) : Nat := (o.args.get 0).toNat % 256
def LongOp.calChannel (o : LongOp) : Nat := (o.args.get 0).toNat / 256 % 256

theorem calArgs_eq (o : LongOp) : calArgs o.args = (o.calClass, o.calChannel, (o.args.get 1).toNat) := by
  simp [calArgs, bits, LongOp.calClass, LongOp.calChannel]

/-- A CV coefficient measured: the offset, or else the gain. -/
def Cv.measured (kind v : Word) (x : Cv) : Cv :=
  if kind.toNat = 0 then { x with offset := gSub (gOfInt 2048) v } else { x with gain := gDiv (gOfInt 258048) v }

section
variable {s : State} {h : Word} {o : LongOp} (hm : measures s h o) (r : OutputCal)
include hm

theorem outCalEnd_waits_aout (hcls : o.calClass = 3) (hmute : (s.spout.aouts.get o.calChannel).mute ≠ 64) : s.outCalEnd h r = s := by
  obtain ⟨ho, -⟩ := hm
  simp [State.outCalEnd, State.outCalReady, ho, calArgs_eq, hcls, hmute]

theorem outCalEnd_waits_cv (hcls : o.calClass = 2) (hgain : o.args.get 1 ≠ 0#32)
    (hout : (s.spout.cvs.get o.calChannel).out ≠ 260096#18) : s.outCalEnd h r = s := by
  obtain ⟨ho, -⟩ := hm
  have hg : (o.args.get 1).toNat ≠ 0 := fun e => hgain (BitVec.eq_of_toNat_eq e)
  simp [State.outCalEnd, State.outCalReady, ho, calArgs_eq, hcls, hg, hout]

theorem outCalEnd_aout (hcls : o.calClass = 3) (hmute : (s.spout.aouts.get o.calChannel).mute = 64) : let n := o.calChannel
    let u := (s.modSpout fun p => { p with aouts := p.aouts.upd n fun x => { x with offset := r.value } }).endOutCal 3 n
    s.outCalEnd h r = if r.disturbed = true then
        if o.retries < 3 then s.updOp h fun o => { o with retries := o.retries + 1 }
        else (s.endOutCal 3 n).finishOp h csDisturbed (s.calResults 3 n)
      else (u.updOp h fun o => { o with committed := true }).finishOp h csDone (u.calResults 3 n) := by
  obtain ⟨ho, hcode, hdone, hpermit⟩ := hm
  simp [State.outCalEnd, State.outCalReady, ho, calArgs_eq, hcls, hcode, hdone, hpermit, hmute]

theorem outCalEnd_cv (hcls : o.calClass = 2) (hready : o.args.get 1 = 0#32 ∨ (s.spout.cvs.get o.calChannel).out = 260096#18) :
    let n := o.calChannel
    let u := (s.modSpout fun p => { p with cvs := p.cvs.upd n (Cv.measured (o.args.get 1) r.value) }).endOutCal 2 n
    s.outCalEnd h r = if r.loaded = true then (s.endOutCal 2 n).finishOp h csLoaded (s.calResults 2 n)
      else (u.updOp h fun o => { o with committed := true }).finishOp h csDone (u.calResults 2 n) := by
  obtain ⟨ho, hcode, hdone, hpermit⟩ := hm
  have hzero : (o.args.get 1 = 0#32) = ((o.args.get 1).toNat = 0) := propext BitVec.toNat_inj.symm
  have hr : s.outCalReady (2, o.calChannel, (o.args.get 1).toNat) = true := by simpa [State.outCalReady, hzero] using hready
  simp only [State.outCalEnd, hr, ho, hcode, hdone, hpermit, bne_self_eq_false, Option.isSome_none, calArgs_eq, hcls]
  rfl

end

/-- A channel that OUTPUT_CAL_MEASURE_END ends: the operation ended, its group free, and the Spout as after the write of the coefficient. -/
theorem ends_outCal {s r t : State} (hr : Touches [.spout] s r) (ht : Touches [.ops] r t) :
    t.spout = r.spout ∧ keptBut (.spout :: .ops :: reporting) s t :=
  ⟨ht.same .spout (by decide), ((hr.mono (by decide)).trans (ht.mono (by decide)) : Touches [.spout, .ops] s t).kept⟩

section
variable {s : State} {h : Word} {o : LongOp} (hm : measures s h o) (r : OutputCal)
include hm

theorem does_outputCal_aout_done (hcls : o.calClass = 3) (hn : o.calChannel < 16)
    (hmute : (s.spout.aouts.get o.calChannel).mute = 64) (hd : r.disturbed = false) : let n := o.calChannel
    Does (.outputCalMeasureEnd h r) s fun t => (t.spout.aouts.get n).offset = r.value ∧
      (t.spout.lga.get (n / 4)).cal = none ∧ inFlight t h (fun x => ended x csDone) ∧
      (∀ k < 16, k ≠ n → t.spout.aouts.get k = s.spout.aouts.get k) ∧
      t.spout.cvs = s.spout.cvs ∧ keptBut (.spout :: .ops :: reporting) s t := by
  intro n
  have hr := (touches_modSpout s fun p => { p with aouts := p.aouts.upd n fun x => { x with offset := r.value } }).trans
    (touches_endOutCal _ 3 n)
  refine ⟨_, rfl, ?_⟩
  rw [outCalEnd_aout hm r hcls hmute, if_neg (by simp [hd])]
  obtain ⟨hspout, hkept⟩ := ends_outCal hr (touches_commit_finishOp _ h csDone _)
  obtain ⟨x, hx, hend, -⟩ := inFlight_commit_end hm (hr.same .ops (by decide)) csDone _
  rw [hspout, endOutCal_aout_spout]
  exact ⟨congrArg Aout.offset (Bank.get_upd_same _ _ hn), congrArg Lga.cal (Bank.get_upd_same _ _ (by omega)), ⟨x, hx, hend⟩,
    fun k _ hk => Bank.get_upd_other _ _ hk, rfl, hkept⟩

theorem does_outputCal_aout_disturbed (hcls : o.calClass = 3) (hmute : (s.spout.aouts.get o.calChannel).mute = 64)
    (hd : r.disturbed = true) : Does (.outputCalMeasureEnd h r) s fun t => t.spout.aouts = s.spout.aouts ∧ t.spout.cvs = s.spout.cvs ∧
      inFlight t h (fun x => if o.retries < 3 then x = { o with retries := o.retries + 1 } else ended x csDisturbed) ∧
      keptBut (.spout :: .ops :: reporting) s t := by
  refine ⟨_, rfl, ?_⟩
  rw [outCalEnd_aout hm r hcls hmute, if_pos hd]
  split
  · have ht := touches_updOp s h fun o => { o with retries := o.retries + 1 }
    exact ⟨rfl, rfl, ⟨_, findOp_updOp (fun o => { o with retries := o.retries + 1 }) (fun _ => rfl) hm.1, rfl⟩,
      (ht.mono (by decide) : Touches [.spout, .ops] s _).kept⟩
  · have hr := touches_endOutCal s 3 o.calChannel
    obtain ⟨hspout, hkept⟩ := ends_outCal hr (touches_finishOp _ h csDisturbed (s.calResults 3 o.calChannel))
    obtain ⟨x, hx, hend, -⟩ := inFlight_end hm (hr.same .ops (by decide)) csDisturbed (s.calResults 3 o.calChannel)
    rw [hspout, endOutCal_aout_spout]
    exact ⟨rfl, rfl, ⟨x, hx, hend⟩, hkept⟩

theorem does_outputCal_cv (hcls : o.calClass = 2) (hn : o.calChannel < 16)
    (hready : o.args.get 1 = 0#32 ∨ (s.spout.cvs.get o.calChannel).out = 260096#18) : let n := o.calChannel
    Does (.outputCalMeasureEnd h r) s fun t => t.spout.aouts = s.spout.aouts ∧ (t.spout.lgc.get (n / 8)).cal = none ∧
      (∀ k < 16, k ≠ n → t.spout.cvs.get k = s.spout.cvs.get k) ∧ keptBut (.spout :: .ops :: reporting) s t ∧
      (r.loaded = true → t.spout.cvs = s.spout.cvs ∧ inFlight t h (fun x => ended x csLoaded)) ∧
      (r.loaded = false → inFlight t h (fun x => ended x csDone) ∧ t.spout.cvs.get n = (if o.args.get 1 = 0#32
        then { (s.spout.cvs.get n) with offset := gSub (gOfInt 2048) r.value }
        else { (s.spout.cvs.get n) with gain := gDiv (gOfInt 258048) r.value })) := by
  intro n
  refine ⟨_, rfl, ?_⟩
  rw [outCalEnd_cv hm r hcls hready]
  split
  · next hl =>
    have hr := touches_endOutCal s 2 n
    obtain ⟨hspout, hkept⟩ := ends_outCal hr (touches_finishOp _ h csLoaded (s.calResults 2 n))
    obtain ⟨x, hx, hend, -⟩ := inFlight_end hm (hr.same .ops (by decide)) csLoaded (s.calResults 2 n)
    rw [hspout, endOutCal_cv_spout]
    exact ⟨rfl, congrArg Lgc.cal (Bank.get_upd_same _ _ (by omega)), fun _ _ _ => rfl, hkept, fun _ => ⟨rfl, x, hx, hend⟩,
      fun hn => by simp [hl] at hn⟩
  · next hl =>
    have hr := (touches_modSpout s fun p => { p with cvs := p.cvs.upd n (Cv.measured (o.args.get 1) r.value) }).trans
      (touches_endOutCal _ 2 n)
    obtain ⟨hspout, hkept⟩ := ends_outCal hr (touches_commit_finishOp _ h csDone _)
    obtain ⟨x, hx, hend, -⟩ := inFlight_commit_end hm (hr.same .ops (by decide)) csDone _
    rw [hspout, endOutCal_cv_spout]
    refine ⟨rfl, congrArg Lgc.cal (Bank.get_upd_same _ _ (by omega)), fun k _ hk => Bank.get_upd_other _ _ hk, hkept,
      fun hy => absurd hy hl, fun _ => ⟨⟨x, hx, hend⟩, (Bank.get_upd_same _ _ hn).trans ?_⟩⟩
    exact ite_congr (propext (BitVec.toNat_inj (y := 0#32))) (fun _ => rfl) fun _ => rfl

end

/-- Settles O49: each write, drift step and end of a measurement by the equation for its branch, on the frame of a channel changed and of an
operation ended. -/
theorem filterControlsAndCalibration : Obligations.FilterControlsAndCalibration := by
  refine ⟨fun s t c v h => ⟨fun hown => ?_, fun hown => ?_⟩, fun s x c hrun hper hhold hdrift hlevel hc =>
    does_driftStep hrun hper hhold hdrift hlevel hc, fun s c mean h k o hcal hstep hk hm => ⟨?_, ?_, ?_⟩,
    fun s c mean k hcal hstep hk => does_ainCalMeasureEnd_drift mean hcal hstep hk, fun s i h k o hcal hstep hk _ hm hlen hheld => ?_,
    fun s h o r hm => ⟨fun hcls hmute => ?_, fun hcls hgain hout => ?_, ?_, fun hcls _ hmute hd => ?_, ?_⟩⟩
  · exact ⟨does_denied rfl h t.isLt (filter_isSome (by omega)) (by simp [hown]),
      does_denied rfl h t.isLt (filter_isSome (by omega)) (by simp [hown]),
      fun i hi => does_denied (exec_trigWrite hi) h t.isLt (filter_isSome (by omega)) (by simp [hown])⟩
  · exact ⟨does_fcFreezeWrite v h hown, does_fcPhaseWrite_ain v h hown, does_fcPhaseWrite_reserved v h hown,
      fun h8 h40 hd hsrc hact i hi => does_trigWrite hi h hown h8 h40 hd hsrc hact⟩
  · exact does_ainCalMeasureEnd_done mean hcal hstep hk hm
  · exact does_ainCalMeasureEnd_retry mean hcal hstep hk hm
  · exact does_ainCalMeasureEnd_disturbed mean hcal hstep hk hm
  · exact does_senCalMeasureEnd _ (senBad_eq_false_iff _ k) hcal hstep hk hm hlen hheld
  · exact congrArg _ (outCalEnd_waits_aout hm r hcls hmute)
  · exact congrArg _ (outCalEnd_waits_cv hm r hcls hgain hout)
  · exact does_outputCal_aout_done hm r
  · exact does_outputCal_aout_disturbed hm r hcls hmute hd
  · exact does_outputCal_cv hm r

end Sys2Proof.Machine
end

section
/-! The I2C controllers (R369 to R371, R378) and the boot-flash controller (R372, R373, R379). -/

open Sys2Proof Sys2Proof.Machine Sys2Proof.Machine.Claim

namespace Sys2Proof.Machine

/-! ### A controller changed -/

theorem touches_modI2c (s : State) (f) : Touches [.i2c] s (s.modI2c f) := .of_kept (keptBut_modI2c s f) (by decide) rfl rfl

theorem touches_updI2c (s : State) (c : Nat) (f : I2cState → I2cState) : Touches [.i2c] s (s.updI2c c f) :=
  (touches_modI2c s _).trans (touches_settleAll _ _).widen

theorem updI2c_i2c (s : State) (c : Nat) (f : I2cState → I2cState) : (s.updI2c c f).i2c = s.i2c.upd c f :=
  (touches_settleAll (s.modI2c fun b => b.upd c f) _).same .i2c (by decide)

/-- From s to t only the I2C controller c changes, to x. -/
structure I2cTo (s t : State) (c : Fin 2) (x : I2cState) : Prop where
  touches : Touches [.i2c] s t
  only : i2cOnly s t c x

namespace I2cTo

variable {s t u : State} {c : Fin 2} {x : I2cState}

theorem of_touches (h : Touches [] s t) (c : Fin 2) : I2cTo s t c (s.i2c.get c) :=
  ⟨h.widen, by rw [h.same .i2c (by decide)], fun k _ _ => by rw [h.same .i2c (by decide)]⟩

theorem get_eq (h : I2cTo s t c x) : t.i2c.get c = x := h.only.1

theorem congr (h : I2cTo s t c x) {y : I2cState} (e : x = y) : I2cTo s t c y := e ▸ h

theorem upd (h : I2cTo s t c x) (f : I2cState → I2cState) : I2cTo s (t.updI2c c f) c (f x) where
  touches := h.touches.trans (touches_updI2c t c f)
  only := by
    rw [i2cOnly, updI2c_i2c, Bank.get_upd_same _ _ c.isLt, h.get_eq]
    exact ⟨rfl, fun k hk hn => (Bank.get_upd_other _ _ hn).trans (h.only.2 k hk hn)⟩

theorem report (h : I2cTo s t c x) (k : Touches [] t u) : I2cTo s u c x where
  touches := h.touches.trans k.widen
  only := by rw [i2cOnly, k.same .i2c (by decide)]; exact h.only

theorem kept (h : I2cTo s t c x) : i2cOnly s t c x ∧ keptBut (.i2c :: reporting) s t := ⟨h.only, h.touches.kept⟩

theorem keptAccess (h : I2cTo s t c x) : i2cOnly s t c x ∧ keptBut (.i2c :: accessing) s t := ⟨h.only, h.touches.kept.mono (by decide)⟩

/-- No byte flows where no entry is under way, or no byte waits. -/
theorem flow (h : I2cTo s t c x) (hx : x.cmds = [] ∨ x.txf = []) : I2cTo s (t.i2cFlow c) c x := by
  suffices hid : t.i2cFlow c = t by rwa [hid]
  rw [State.i2cFlow, h.get_eq]
  rcases hx with hx | hx
  · simp [hx]
  · cases x.cmds <;> simp [hx]

/-- The last entry of the queue ends. -/
theorem endLast (h : I2cTo s t c x) {cmd : Word} (hx : x.cmds = [cmd]) (st : BitVec 6) (stop : Bool) : I2cTo s (t.i2cEnd c st stop) c
    { x with cmds := [], sent := 0, held := [], ending := false, busHeld := !stop, stat := x.stat ||| st } := by
  have hdrop : x.cmds.drop 1 = [] := by simp [hx]
  rw [State.i2cEnd, ← hdrop]
  exact (h.upd _).flow (.inl hdrop)

/-- Nothing waits for the receive FIFO. -/
theorem fillIdle (h : I2cTo s t c x) (hheld : x.held = []) (hend : x.ending = false) : I2cTo s (t.i2cFill c) c x := by
  have hfill : t.i2cFill c = t.updI2c c fun y => { y with rxf := y.rxf ++ y.held.take 0, held := y.held.drop 0 } := by
    simp [State.i2cFill, h.get_eq, hheld, hend]
  rw [hfill]
  exact (h.upd _).congr (by simp)

/-- The bytes of a read enter the receive FIFO, and the last entry of the queue ends. -/
theorem fillLast (h : I2cTo s t c x) {cmd : Word} (hx : x.cmds = [cmd]) (hend : x.ending = true) (hroom : x.rxf.length + x.held.length ≤ 16) :
    I2cTo s (t.i2cFill c) c { x with
      cmds := [], sent := 0, held := [], ending := false, busHeld := !cmd.getLsbD 16, stat := x.stat ||| 1#6, rxf := x.rxf ++ x.held } := by
  have hmin : min x.held.length (16 - x.rxf.length) = x.held.length := by omega
  simp only [State.i2cFill, h.get_eq, hx, hmin, hend, Nat.le_refl, decide_true, Bool.and_self, if_true]
  exact ((h.upd _).endLast hx 1#6 _).congr (by simp)

end I2cTo

/-! ### The registers of a controller -/

theorem i2cPort_isSome {ofs : Nat} (h : 0x398000 ≤ ofs ∧ ofs ≤ 0x39BFFF) : (blockOf ofs).isSome = true :=
  blockOf_isSome .i2c 0x398000 0x39BFFF (by decide) h.1 h.2

theorem i2cCount_eq (v : Word) : i2cCount v = v.toNat / 2 ^ 8 % 256 := rfl

section
variable {s : State} {t : Fin 8} {c : Fin 2} (v : Word) (h : inRun s t) (hown : s.periphOwner pcI2c c = some t.val)
include h hown

theorem does_i2cCmdWrite_rejected (hbad : v.toNat / 2 ^ 8 % 256 = 0 ∨ 4 ≤ (s.i2c.get c).cmds.length) :
    Does (.i2cCmdWrite t c v) s fun w => pendingSource w 1004 ∧ keptBut accessing s w := by
  refine does_access rfl h (i2cPort_isSome (by omega)) (by simp [hown]) fun r hr => ?_
  rw [State.i2cCmd, if_pos (by rwa [(I2cTo.of_touches hr c).get_eq, i2cCount_eq])]
  exact rejected_of_touches hr _

theorem does_i2cCmdWrite (hcount : v.toNat / 2 ^ 8 % 256 ≠ 0) (hlen : (s.i2c.get c).cmds.length < 4) (htxf : (s.i2c.get c).txf = []) :
    Does (.i2cCmdWrite t c v) s fun w =>
      i2cOnly s w c { (s.i2c.get c) with cmds := (s.i2c.get c).cmds ++ [v &&& 0x1FFFF#32] } ∧ keptBut (.i2c :: accessing) s w := by
  refine does_access rfl h (i2cPort_isSome (by omega)) (by simp [hown]) fun r hr => ?_
  have hto := I2cTo.of_touches hr c
  rw [State.i2cCmd, if_neg (by rw [hto.get_eq, i2cCount_eq]; omega)]
  exact ((hto.upd _).flow (.inr htxf)).keptAccess

theorem does_i2cDataWrite (hcmds : (s.i2c.get c).cmds = []) : let x := s.i2c.get c
    Does (.i2cDataWrite t c v) s fun w => keptBut (.i2c :: accessing) s w ∧
      i2cOnly s w c (if x.txf.length < 16 then { x with txf := x.txf ++ [v.setWidth 8] } else x) := by
  have hbyte : byteOf v 0 = v.setWidth 8 := BitVec.eq_of_toNat_eq (by simp [byteOf])
  refine does_access rfl h (i2cPort_isSome (by omega)) (by simp [hown]) fun r hr => And.symm ?_
  rw [State.i2cPut, hbyte]
  exact (((I2cTo.of_touches hr c).upd _).flow (.inl (by split <;> exact hcmds))).keptAccess

theorem does_i2cDataRead {b : Byte} {rest : List Byte} (hrxf : (s.i2c.get c).rxf = b :: rest) (hheld : (s.i2c.get c).held = [])
    (hend : (s.i2c.get c).ending = false) : Does (.i2cDataRead t c) s fun w => keptBut (.i2c :: accessing) s w ∧
      i2cOnly s w c { (s.i2c.get c) with rxf := rest } ∧ Output.regRead t (BitVec.ofNat 32 (b.toNat + 2 ^ 31)) ∈ w.outs := by
  refine does_access rfl h (i2cPort_isSome (by omega)) (by simp [hown]) fun r hr => ?_
  have hto := I2cTo.of_touches hr c
  have hget : r.i2cGet c = ((r.updI2c c fun x => { x with rxf := rest }).i2cFill c, w32 (b.toNat + 2147483648)) := by
    simp [State.i2cGet, hto.get_eq, hrxf]
  rw [hget]
  obtain ⟨honly, hkept⟩ := (((hto.upd fun x => { x with rxf := rest }).fillIdle hheld hend).report (touches_emit _ _)).keptAccess
  exact ⟨hkept, honly, mem_outs_emit _ _⟩

theorem does_i2cDataRead_empty (hrxf : (s.i2c.get c).rxf = []) :
    Does (.i2cDataRead t c) s fun w => Output.regRead t 0#32 ∈ w.outs ∧ keptBut accessing s w := by
  refine does_access rfl h (i2cPort_isSome (by omega)) (by simp [hown]) fun r hr => ?_
  have hget : r.i2cGet c = (r, 0#32) := by simp [State.i2cGet, (I2cTo.of_touches hr c).get_eq, hrxf]
  rw [hget]
  exact ⟨mem_outs_emit _ _, (hr.trans (touches_emit _ _)).kept.mono (by decide)⟩

theorem does_i2cEnable_off (hv : v.getLsbD 0 = false) (bus : BusClear) : Does (.i2cEnable t c v bus) s fun w =>
    i2cOnly s w c { (s.i2c.get c) with en := false, ready := false } ∧ keptBut (.i2c :: accessing) s w := by
  refine does_access rfl h (i2cPort_isSome (by omega)) (by simp [hown]) fun r hr => ?_
  rw [State.i2cCtrl, if_neg (Bool.eq_false_iff.mp hv)]
  exact ((I2cTo.of_touches hr c).upd _).keptAccess

theorem does_i2cEnable_idle (hv : v.getLsbD 0 = true) (hcmds : (s.i2c.get c).cmds = []) : Does (.i2cEnable t c v .idle) s fun w =>
    i2cOnly s w c { (s.i2c.get c) with en := true, ready := true, busHeld := false } ∧ keptBut (.i2c :: accessing) s w := by
  refine does_access rfl h (i2cPort_isSome (by omega)) (by simp [hown]) fun r hr => ?_
  rw [State.i2cCtrl, if_pos hv]
  exact (((I2cTo.of_touches hr c).upd _).flow (.inl hcmds)).keptAccess

theorem does_i2cEnable_stuck (hv : v.getLsbD 0 = true) : Does (.i2cEnable t c v .stuck) s fun w =>
    i2cOnly s w c { (s.i2c.get c) with en := false, ready := false, stat := (s.i2c.get c).stat ||| 16#6 } ∧
      keptBut (.i2c :: accessing) s w := by
  refine does_access rfl h (i2cPort_isSome (by omega)) (by simp [hown]) fun r hr => ?_
  rw [State.i2cCtrl, if_pos hv]
  exact ((I2cTo.of_touches hr c).upd _).keptAccess

end

/-! ### The end of an entry -/

/-- A controller whose last entry is over. -/
def I2cState.cleared (x : I2cState) : I2cState := { x with cmds := [], sent := 0, held := [], ending := false }

section
variable {s : State} {c : Fin 2} {cmd : Word} (hcmds : (s.i2c.get c).cmds = [cmd]) (hready : (s.i2c.get c).ready = true)
  (hend : (s.i2c.get c).ending = false)
include hcmds hready hend

theorem does_i2cEntryDone_nack (k : Nat) : Does (.i2cEntryDone c (.nack k)) s fun t =>
    i2cOnly s t c { (s.i2c.get c).cleared with busHeld := false, stat := (s.i2c.get c).stat ||| 3#6 } ∧ keptBut (.i2c :: reporting) s t := by
  have he : s.i2cEntryDone c (.nack k) = s.i2cEnd c 3#6 true := by simp [State.i2cEntryDone, hcmds, hready, hend]
  exact ⟨_, rfl, he ▸ ((I2cTo.of_touches (.refl [] s) c).endLast hcmds 3#6 true).kept⟩

theorem does_i2cEntryDone_arbLost : Does (.i2cEntryDone c .arbLost) s fun t =>
    i2cOnly s t c { (s.i2c.get c).cleared with busHeld := false, stat := (s.i2c.get c).stat ||| 5#6 } ∧ keptBut (.i2c :: reporting) s t := by
  have he : s.i2cEntryDone c .arbLost = s.i2cEnd c 5#6 true := by simp [State.i2cEntryDone, hcmds, hready, hend]
  exact ⟨_, rfl, he ▸ ((I2cTo.of_touches (.refl [] s) c).endLast hcmds 5#6 true).kept⟩

theorem does_i2cEntryDone_written (hw : cmd.getLsbD 7 = false) (hsent : (s.i2c.get c).sent = cmd.toNat / 2 ^ 8 % 256) :
    Does (.i2cEntryDone c (.done [])) s fun t => keptBut (.i2c :: reporting) s t ∧
      i2cOnly s t c { (s.i2c.get c).cleared with busHeld := !cmd.getLsbD 16, stat := (s.i2c.get c).stat ||| 1#6 } := by
  have he : s.i2cEntryDone c (.done []) = s.i2cEnd c 1#6 (cmd.getLsbD 16) := by
    simp [State.i2cEntryDone, hcmds, hready, hend, show i2cReads cmd = false from hw, hsent, i2cCount_eq]
  exact ⟨_, rfl, he ▸ ((I2cTo.of_touches (.refl [] s) c).endLast hcmds 1#6 _).kept.symm⟩

theorem does_i2cEntryDone_read {d : List Byte} (hr : cmd.getLsbD 7 = true) (hd : d.length = cmd.toNat / 2 ^ 8 % 256)
    (hroom : (s.i2c.get c).rxf.length + d.length ≤ 16) : Does (.i2cEntryDone c (.done d)) s fun t =>
      i2cOnly s t c { (s.i2c.get c).cleared with
        rxf := (s.i2c.get c).rxf ++ d, busHeld := !cmd.getLsbD 16, stat := (s.i2c.get c).stat ||| 1#6 } ∧ keptBut (.i2c :: reporting) s t := by
  have he : s.i2cEntryDone c (.done d) =
      ((s.emit (.i2c c cmd [])).updI2c c fun x => { x with held := d, ending := true }).i2cFill c := by
    simp [State.i2cEntryDone, hcmds, hready, hend, show i2cReads cmd = true from hr, hd, i2cCount_eq]
  have hd := (I2cTo.of_touches (touches_emit s (.i2c c cmd [])) c).upd fun x => { x with held := d, ending := true }
  exact ⟨_, rfl, he ▸ (hd.fillLast hcmds rfl hroom).kept⟩

end

theorem does_i2cTimeout_idle {s : State} {c : Fin 2} (hcmds : (s.i2c.get c).cmds ≠ []) (hready : (s.i2c.get c).ready = true) :
    Does (.i2cTimeout c .idle) s fun t => keptBut (.i2c :: reporting) s t ∧ i2cOnly s t c
      { (s.i2c.get c) with
        cmds := [], sent := 0, held := [], ending := false, busHeld := false, ready := true, en := true,
        stat := (s.i2c.get c).stat ||| 8#6 } := by
  have he : s.i2cTimeout c .idle = (s.updI2c c fun x => { x with
      cmds := [], sent := 0, held := [], ending := false, busHeld := false, ready := false, stat := x.stat ||| 8#6 }).i2cClear c .idle := by
    simp [State.i2cTimeout, hcmds, hready]
  exact ⟨_, rfl, he ▸ ((((I2cTo.of_touches (.refl [] s) c).upd _).upd _).flow (.inl rfl)).kept.symm⟩

/-! ### The boot-flash controller -/

theorem touches_modFlash (s : State) (f) : Touches [.flash] s (s.modFlash f) := .of_kept (keptBut_modFlash s f) (by decide) rfl rfl

theorem flash_isSome {ofs : Nat} (h : 0x39C000 ≤ ofs ∧ ofs ≤ 0x39FFFF) : (blockOf ofs).isSome = true :=
  blockOf_isSome .flash 0x39C000 0x39FFFF (by decide) h.1 h.2

section
variable {s : State} (v : Word) (hrun : s.dev.phase = .running)
include hrun

theorem steward_inRun : inRun s 0 := ⟨hrun, rfl⟩

theorem does_flCtrlWrite : Does (.flCtrlWrite 0 v) s fun t =>
    t.flash = { s.flash with released := v.getLsbD 0 } ∧ keptBut (.flash :: accessing) s t := by
  refine does_access rfl (steward_inRun hrun) (flash_isSome (by decide)) rfl fun r hr => ?_
  refine ⟨?_, (hr.widen.trans (touches_modFlash r _)).kept.mono (by decide)⟩
  rw [State.flCtrl, State.modFlash_flash, hr.same .flash (by decide)]

theorem does_flRaddrWrite (hrel : s.flash.released = false) (hv : v.toNat % 4 = 0) : Does (.flRaddrWrite 0 v) s fun t =>
    t.flash = { s.flash with busy := true, addr := v } ∧ Output.flashRead v ∈ t.outs ∧ keptBut (.flash :: accessing) s t := by
  refine does_access rfl (steward_inRun hrun) (flash_isSome (by decide)) rfl fun r hr => ?_
  have hf : r.flash = s.flash := hr.same .flash (by decide)
  rw [State.flRaddr, if_neg (by simp [hf, hrel, hv])]
  refine ⟨?_, mem_outs_emit _ _, ((hr.widen.trans (touches_modFlash r _)).trans (touches_emit _ _).widen).kept.mono (by decide)⟩
  rw [← hf]
  rfl

theorem does_flRaddrWrite_rejected (hbad : s.flash.released = true ∨ v.toNat % 4 ≠ 0) :
    Does (.flRaddrWrite 0 v) s fun t => pendingSource t 1004 ∧ keptBut accessing s t := by
  refine does_access rfl (steward_inRun hrun) (flash_isSome (by decide)) rfl fun r hr => ?_
  have hf : r.flash = s.flash := hr.same .flash (by decide)
  rw [State.flRaddr, if_pos (by simpa [hf] using hbad)]
  exact rejected_of_touches hr _

end

theorem does_flReadDone {s : State} (d : Option Word) (hbusy : s.flash.busy = true) : Does (.flReadDone d) s fun t =>
    keptBut [.flash] s t ∧ t.flash = { s.flash with busy := false, dsTimeout := d.isNone, rdata := d.getD s.flash.rdata } :=
  ⟨_, congrArg Host.Outcome.next (if_pos hbusy), keptBut_modFlash s _, rfl⟩

theorem exec_flReadDone_idle {s : State} (d : Option Word) (hbusy : s.flash.busy = false) : exec (.flReadDone d) s = .next s :=
  congrArg Host.Outcome.next (if_neg (by simp [hbusy]))

end Sys2Proof.Machine
end

section
/-! The character ports: what storing a character, the MIDI parser and the registers leave (R361 to R367, R377). -/

open Sys2Proof Sys2Proof.Machine Sys2Proof.Machine.Claim

namespace Sys2Proof.Machine

/-! ### A port changed -/

theorem touches_modUarts (s : State) (f) : Touches [.uarts] s (s.modUarts f) := .of_kept (keptBut_modUarts s f) (by decide) rfl rfl

theorem touches_modFront (s : State) (f) : Touches [.front] s (s.modFront f) := .of_kept (keptBut_modFront s f) (by decide) rfl rfl

theorem touches_updUart (s : State) (n : Nat) (f : UartState → UartState) : Touches [.uarts] s (s.updUart n f) :=
  (touches_modUarts s _).trans (touches_settleAll _ _).widen

theorem updUart_uarts (s : State) (n : Nat) (f : UartState → UartState) : (s.updUart n f).uarts = s.uarts.upd n f :=
  (touches_settleAll (s.modUarts fun b => b.upd n f) _).same .uarts (by decide)

/-- From s to t only the port n changes, to u. -/
structure UartTo (s t : State) (n : Fin 8) (u : UartState) : Prop where
  touches : Touches [.uarts] s t
  only : uartOnly s t n u

namespace UartTo

variable {s t w : State} {n : Fin 8} {u : UartState}

theorem of_touches (h : Touches [] s t) (n : Fin 8) : UartTo s t n (s.uarts.get n) :=
  ⟨h.widen, by rw [h.same .uarts (by decide)], fun k _ _ => by rw [h.same .uarts (by decide)]⟩

theorem get_eq (h : UartTo s t n u) : t.uarts.get n = u := h.only.1

theorem upd (h : UartTo s t n u) (f : UartState → UartState) : UartTo s (t.updUart n f) n (f u) where
  touches := h.touches.trans (touches_updUart t n f)
  only := by
    rw [uartOnly, updUart_uarts, Bank.get_upd_same _ _ n.isLt, h.get_eq]
    exact ⟨rfl, fun k hk hn => (Bank.get_upd_other _ _ hn).trans (h.only.2 k hk hn)⟩

theorem report (h : UartTo s t n u) (k : Touches [] t w) : UartTo s w n u where
  touches := h.touches.trans k.widen
  only := by rw [uartOnly, k.same .uarts (by decide)]; exact h.only

theorem kept (h : UartTo s t n u) : uartOnly s t n u ∧ keptBut (.uarts :: reporting) s t := ⟨h.only, h.touches.kept⟩

theorem keptAccess (h : UartTo s t n u) : uartOnly s t n u ∧ keptBut (.uarts :: accessing) s t :=
  ⟨h.only, h.touches.kept.mono (by decide)⟩

end UartTo

/-! ### The configuration -/

section
variable {s r : State} (h : r.spawn = s.spawn) (n : Nat)
include h

theorem uartRec_congr : r.uartRec n = s.uartRec n := by simp only [State.uartRec, State.tcfg, h]

theorem uartMode_congr : r.uartMode n = s.uartMode n := by simp only [State.uartMode, uartRec_congr h]

end

theorem portsRun_of_running {s : State} (h : s.dev.phase = .running) : s.portsRun = true := by simp [State.portsRun, DevPhase.hosted, h]

/-! ### A character stored (R363) -/

theorem store_room {u : UartState} (k : Nat) (e : Word) (h : u.rx.length < 16) :
    (u.store k e).rx = u.rx ++ [if u.ovr = true then e ||| 0x10000#32 else e] ∧ (u.store k e).ovr = false ∧
      (k ≤ u.rx.length + 1 → (u.store k e).stat.getLsbD 0 = true) := by
  rw [UartState.store, if_neg (Nat.not_le.mpr h)]
  exact ⟨rfl, rfl, fun hk => by simp [hk]⟩

theorem store_full {u : UartState} (k : Nat) (e : Word) (h : 16 ≤ u.rx.length) :
    u.store k e = { u with ovr := true, ovrCnt := errCount u.ovrCnt 1 } := if_pos h

/-- What R363 says of the port u that stores a character of word e with trigger level k, giving y. -/
def stores (u y : UartState) (k : Nat) (e : Word) : Prop :=
  (u.rx.length < 16 → y.rx = u.rx ++ [if u.ovr = true then e ||| 0x10000#32 else e] ∧ y.ovr = false ∧
    (k ≤ u.rx.length + 1 → y.stat.getLsbD 0 = true)) ∧
  (16 ≤ u.rx.length → y.rx = u.rx ∧ y.ovr = true ∧ y.ovrCnt = errCount u.ovrCnt 1)

theorem stores_store (u : UartState) (k : Nat) (e : Word) : stores u (u.store k e) k e := by
  refine ⟨store_room k e, fun h => ?_⟩
  rw [store_full k e h]
  exact ⟨rfl, rfl, rfl⟩

/-- A character without an error, stored in an empty queue after no overrun. -/
theorem store_clean {u : UartState} {e : Word} (k : Nat) (hrx : u.rx = []) (hovr : u.ovr = false) (he : e >>> 16 = 0#32) :
    ∃ x, u.store k e = { u with rx := [e], stat := x } := by
  refine ⟨if k ≤ 1 then u.stat ||| 1#7 else u.stat, ?_⟩
  simp [UartState.store, hrx, hovr, he]

theorem store_addressed (u : UartState) (k : Nat) (e : Word) : (u.store k e).addressed = u.addressed := by
  unfold UartState.store
  split <;> rfl

/-! ### The MIDI parser (R364) -/

/-- A parser's step with the port's status replaced. -/
def MidiStep.withStat (r : MidiStep) (x : BitVec 7) : MidiStep := { r with u := { r.u with stat := x } }

/-- A step of the parser that neither depends on the port's status nor changes it, and leaves the receive queue. -/
structure Parses (f : UartState → MidiStep) (u : UartState) : Prop where
  stat : ∀ x, f { u with stat := x } = (f u).withStat x
  rx : (f u).u.rx = u.rx

theorem midiData_parses (u : UartState) (b : Byte) : Parses (·.midiData b) u := by
  unfold UartState.midiData
  constructor <;> dsimp only <;> split
  · intro x; split <;> rfl
  · intro x
    generalize (if u.parts.isEmpty = true then u.running.toList else u.parts) = head
    cases head with
    | nil => rfl
    | cons st l => dsimp only; split <;> rfl
  · split <;> rfl
  · generalize (if u.parts.isEmpty = true then u.running.toList else u.parts) = head
    cases head with
    | nil => rfl
    | cons st l => dsimp only; split <;> rfl

theorem midiStatus_parses (u : UartState) (b : Byte) : Parses (·.midiStatus b) u := by
  unfold UartState.midiStatus
  constructor <;> dsimp only
  · intro x
    split
    · split <;> rfl
    · split
      · rfl
      · split
        · rfl
        · split <;> rfl
  · split
    · split <;> rfl
    · split
      · rfl
      · split
        · rfl
        · split <;> rfl

/-- What an overrun, and an error of the character, make of a message in progress (R364). -/
def UartState.interrupted (u : UartState) : UartState := { u with running := none, parts := if u.running.isSome then [] else u.parts }

theorem parse_eq (u : UartState) (e : Word) : u.parse e =
    let b := byteOf e 0
    let v := b.toNat
    let w := if e.getLsbD 16 then u.interrupted else u
    if e.getLsbD 17 || e.getLsbD 18 then { u := w.interrupted, out := [], lost := 1 }
    else if v = 0xF4 ∨ v = 0xF5 ∨ v = 0xF9 ∨ v = 0xFD then { u := w, out := [], lost := 1 }
    else if 0xF8 ≤ v then { u := w, out := [midiMsg 0 b 0#8 0#8], lost := 0 }
    else if 0x80 ≤ v then w.midiStatus b
    else w.midiData b := rfl

theorem parse_parses (u : UartState) (e : Word) : Parses (·.parse e) u := by
  have hw (x : BitVec 7) : (if e.getLsbD 16 then UartState.interrupted { u with stat := x } else { u with stat := x }) =
      { (if e.getLsbD 16 then u.interrupted else u) with stat := x } := by split <;> rfl
  have hrx : (if e.getLsbD 16 then u.interrupted else u).rx = u.rx := by split <;> rfl
  generalize hv : (if e.getLsbD 16 then u.interrupted else u) = w at hw hrx
  obtain ⟨hdata, hdrx⟩ := midiData_parses w (byteOf e 0)
  obtain ⟨hstatus, hsrx⟩ := midiStatus_parses w (byteOf e 0)
  constructor
  · intro x
    simp only [parse_eq]
    rw [hw x, hv]
    split
    · rfl
    · split
      · rfl
      · split
        · rfl
        · split
          · exact hstatus x
          · exact hdata x
  · simp only [parse_eq, hv]
    split
    · exact hrx
    · split
      · exact hrx
      · split
        · exact hrx
        · split
          · exact hsrx.trans hrx
          · exact hdrx.trans hrx

/-! ### The parser takes a character (R130, R364) -/

/-- A step of the parser, its drops and discards flagged and counted. -/
def MidiStep.counted (r : MidiStep) : UartState :=
  if r.lost = 0 then r.u else { r.u with stat := r.u.stat ||| 32#7, errCnt := errCount r.u.errCnt r.lost }

theorem uartParse_nil {s : State} {n : Nat} (h : (s.uarts.get n).rx = []) : s.uartParse n = s := by simp [State.uartParse, h]

theorem uartParse_cons {s : State} {n : Nat} {e : RxEntry} {rest : List RxEntry} (h : (s.uarts.get n).rx = e :: rest)
    (hroom : (s.front.uarts.get n).length < 16) : let r := { (s.uarts.get n) with rx := rest }.parse e
    s.uartParse n = (s.updUart n fun _ => r.counted).modFront fun f =>
      { f with uarts := f.uarts.upd n fun q => q ++ r.out.map fun m => plainEvent m 0 } := by
  simp only [State.uartParse, h, ingressMax, if_neg (Nat.not_le.mpr hroom)]
  rfl

theorem foldl_of_fixed {α β : Type} (f : α → β → α) {a : α} (h : ∀ b, f a b = a) (l : List β) : l.foldl f a = a := by
  induction l with
  | nil => rfl
  | cons b l ih => rw [List.foldl_cons, h b, ih]

/-- In RUNNING, with frames, the parser of a MIDI port with one character takes it and then finds none. -/
theorem uartPump_one {s : State} {n : Nat} (hmode : s.uartMode n = some .midi) (hrun : s.dev.phase = .running) (hframes : s.time.framesRun = true)
    (h : ((s.uartParse n).uarts.get n).rx = []) : s.uartPump n = s.uartParse n := by
  have hfixed (l : List Nat) : l.foldl (fun s _ => s.uartParse n) (s.uartParse n) = s.uartParse n :=
    foldl_of_fixed (fun (r : State) (_ : Nat) => r.uartParse n) (fun _ => uartParse_nil h) l
  have hcond : (s.uartMode n == some .midi && s.portsRun && (s.time.framesRun || s.dev.phase == .parked)) = true := by
    simp [hmode, portsRun_of_running hrun, hframes]
  rw [State.uartPump, if_pos hcond, List.range_succ_eq_map, List.foldl_cons, hfixed]

end Sys2Proof.Machine
end

section
/-! The character ports' commands (R363 to R367, R377), and the obligation of the serial ports. -/

open Sys2Proof Sys2Proof.Machine Sys2Proof.Machine.Claim

namespace Sys2Proof.Machine

/-! ### A character received -/

section
variable {s : State} {n : Nat} (c : RxChar) (hrun : s.dev.phase = .running) (hen : (s.uarts.get n).en = true)
include hrun hen

theorem uartRxChar_card (hmode : s.uartMode n = some .card) : s.uartRxChar n c = s.cardChar n c := by
  rw [State.uartRxChar, hmode]
  simp [hrun, hen, portsRun_of_running hrun]

theorem uartRxChar_panel9 (hmode : s.uartMode n = some .panel9) : s.uartRxChar n c = s.panelChar n c := by
  rw [State.uartRxChar, hmode]
  simp [hrun, hen, portsRun_of_running hrun]

theorem uartRxChar_async (hmode : s.uartMode n = some .async) : s.uartRxChar n c =
    (s.updUart n fun u => u.store (s.uartTrigger n) (rxWord (c.data.toNat % 2 ^ u.charBits .async) c)).uartPump n := by
  rw [State.uartRxChar, hmode]
  simp [hrun, hen, portsRun_of_running hrun]

theorem uartRxChar_midi (hmode : s.uartMode n = some .midi) : s.uartRxChar n c =
    (s.updUart n fun u => u.store (s.uartTrigger n) (rxWord (c.data.toNat % 256) c)).uartPump n := by
  rw [State.uartRxChar, hmode]
  simp [hrun, hen, portsRun_of_running hrun, UartState.charBits]

end

theorem exec_uartRxChar_off {s : State} {n : Fin 8} (c : RxChar) (hrun : s.dev.phase = .running)
    (hoff : s.uartMode n = none ∨ (s.uarts.get n).en = false) : exec (.uartRxChar n c) s = .next s := by
  refine congrArg Host.Outcome.next ?_
  rw [State.uartRxChar]
  cases hmode : s.uartMode n with
  | none => rfl
  | some m => simp [hrun, hoff.resolve_left (by simp [hmode])]

theorem uartPump_of_not_midi {s : State} {n : Nat} (h : s.uartMode n ≠ some .midi) : s.uartPump n = s := by simp [State.uartPump, h]

/-- A port that takes a character in PANEL9 mode: an address first decides whether it is addressed (R365). -/
def UartState.panelTaken (u : UartState) (address trigger : Nat) (c : RxChar) : UartState :=
  let u1 := { u with addressed := if c.data.getLsbD 8 then c.data.toNat == address else u.addressed }
  if u1.addressed || !u.afilt then u1.store trigger (rxWord c.data.toNat c) else u1

theorem panelChar_eq (s : State) (n : Nat) (c : RxChar) :
    s.panelChar n c = s.updUart n fun _ => (s.uarts.get n).panelTaken (s.uartMatch n) (s.uartTrigger n) c := rfl

theorem stores_panelTaken {u : UartState} (address trigger : Nat) (c : RxChar) (h : u.afilt = false) :
    stores u (u.panelTaken address trigger c) trigger (rxWord c.data.toNat c) := by
  rw [UartState.panelTaken, if_pos (by simp [h])]
  exact stores_store { u with addressed := if c.data.getLsbD 8 then c.data.toNat == address else u.addressed } trigger _

/-- With AFILT a character is stored only while the port is addressed (R365). -/
theorem panelTaken_filtered {u : UartState} (address trigger : Nat) (c : RxChar) (h : u.afilt = true) :
    let y := u.panelTaken address trigger c
    y.addressed = (if c.data.getLsbD 8 = true then c.data.toNat == address else u.addressed) ∧ (y.addressed = false → y.rx = u.rx) ∧
      (y.addressed = true → u.rx.length < 16 → y.rx.length = u.rx.length + 1) := by
  rw [UartState.panelTaken, h]
  generalize (if c.data.getLsbD 8 = true then c.data.toNat == address else u.addressed) = hit
  cases hit with
  | false => exact ⟨rfl, fun _ => rfl, fun hy => Bool.noConfusion hy⟩
  | true =>
    have haddr := store_addressed { u with addressed := true, afilt := true } trigger (rxWord c.data.toNat c)
    simp only [Bool.true_or, if_true]
    refine ⟨haddr, fun hy => Bool.noConfusion (haddr.symm.trans hy), fun _ hlen => ?_⟩
    obtain ⟨hrx, -⟩ := store_room (u := { u with addressed := true, afilt := true }) trigger (rxWord c.data.toNat c) hlen
    exact (congrArg List.length hrx).trans List.length_append

theorem does_uartRxChar_store {s : State} {n : Fin 8} (c : RxChar) (hrun : s.dev.phase = .running) (hen : (s.uarts.get n).en = true)
    (hmode : s.uartMode n = some .async ∨ (s.uartMode n = some .panel9 ∧ (s.uarts.get n).afilt = false)) : let u := s.uarts.get n
    Does (.uartRxChar n c) s fun t => uartOnly s t n (t.uarts.get n) ∧ keptBut (.uarts :: reporting) s t ∧
      stores u (t.uarts.get n) (s.uartTrigger n)
        (rxWord (if s.uartMode n = some .panel9 then c.data.toNat else c.data.toNat % 2 ^ (u.fmt.toNat % 16)) c) := by
  intro u
  have hto := UartTo.of_touches (.refl [] s) n
  refine ⟨_, rfl, ?_⟩
  rcases hmode with hmode | ⟨hmode, hafilt⟩
  · have hbits : u.charBits .async = u.fmt.toNat % 16 := by simp [UartState.charBits, bits]
    have hpump (f : UartState → UartState) : (s.updUart n f).uartPump n = s.updUart n f :=
      uartPump_of_not_midi (by simp [uartMode_congr ((touches_updUart s n f).same .spawn (by decide)), hmode])
    rw [uartRxChar_async c hrun hen hmode, hpump, hmode]
    have hy := hto.upd fun u => u.store (s.uartTrigger n) (rxWord (c.data.toNat % 2 ^ u.charBits .async) c)
    rw [hy.get_eq]
    rw [if_neg (by decide), ← hbits]
    exact ⟨hy.only, hy.touches.kept, stores_store _ _ _⟩
  · rw [uartRxChar_panel9 c hrun hen hmode, hmode]
    have hy := hto.upd fun _ => u.panelTaken (s.uartMatch n) (s.uartTrigger n) c
    rw [panelChar_eq, hy.get_eq]
    exact ⟨hy.only, hy.touches.kept, stores_panelTaken _ _ c hafilt⟩

theorem does_uartRxChar_filtered {s : State} {n : Fin 8} (c : RxChar) (hrun : s.dev.phase = .running) (hen : (s.uarts.get n).en = true)
    (hmode : s.uartMode n = some .panel9) (hafilt : (s.uarts.get n).afilt = true) : let u := s.uarts.get n
    Does (.uartRxChar n c) s fun t => let y := t.uarts.get n
      uartOnly s t n y ∧ keptBut (.uarts :: reporting) s t ∧
      y.addressed = (if c.data.getLsbD 8 = true then c.data.toNat == s.uartMatch n else u.addressed) ∧ (y.addressed = false → y.rx = u.rx) ∧
      (y.addressed = true → u.rx.length < 16 → y.rx.length = u.rx.length + 1) := by
  intro u
  have hy := (UartTo.of_touches (.refl [] s) n).upd fun _ => (s.uarts.get n).panelTaken (s.uartMatch n) (s.uartTrigger n) c
  refine ⟨_, rfl, ?_⟩
  rw [uartRxChar_panel9 c hrun hen hmode, panelChar_eq]
  dsimp only
  rw [hy.get_eq]
  exact ⟨hy.only, hy.touches.kept, panelTaken_filtered _ _ c hafilt⟩

theorem does_uartRxChar_signalled {s : State} {n : Fin 8} {c : RxChar} (hrun : s.dev.phase = .running) (hen : (s.uarts.get n).en = true)
    (hmode : s.uartMode n = some .card) (htx : (s.uarts.get n).tx = []) (hpar : c.parity = true)
    (hretry : (s.uarts.get n).rxRun < (s.uarts.get n).card.toNat / 2 ^ 20 % 8) : let u := s.uarts.get n
    Does (.uartRxChar n c) s fun t => uartOnly s t n { u with rxRun := u.rxRun + 1 } ∧ Output.uartError n ∈ t.outs ∧
      keptBut (.uarts :: reporting) s t := by
  have hcard : s.cardChar n c = (s.updUart n fun u => { u with rxRun := u.rxRun + 1 }).emit (.uartError n) := by
    have hrun : decide ((s.uarts.get n).rxRun < bits (s.uarts.get n).card 22 20) = true := decide_eq_true hretry
    simp [State.cardChar, htx, hpar, hrun]
  have hy := ((UartTo.of_touches (.refl [] s) n).upd fun u => { u with rxRun := u.rxRun + 1 }).report (touches_emit _ (.uartError n))
  refine ⟨_, rfl, ?_⟩
  rw [uartRxChar_card c hrun hen hmode, hcard]
  exact ⟨hy.only, mem_outs_emit _ _, hy.touches.kept⟩

/-! ### A MIDI character (R364) -/

theorem counted_parser (r : MidiStep) : r.counted.rx = r.u.rx ∧ r.counted.parts = r.u.parts ∧ r.counted.running = r.u.running := by
  unfold MidiStep.counted
  split <;> exact ⟨rfl, rfl, rfl⟩

/-- A port whose queue holds one character, with a status that does not matter, and the parser's step on it. -/
theorem uartParse_only {s r : State} {n : Fin 8} {u : UartState} {e : RxEntry} {x : BitVec 7} (h : UartTo s r n { u with rx := [e], stat := x })
    (hroom : (s.front.uarts.get n).length < 16) : let p := { u with rx := [] }.parse e
    let t := r.uartParse n
    t.uarts.get n = (p.withStat x).counted ∧ Touches [.uarts, .front] s t ∧
      t.front.uarts.get n = s.front.uarts.get n ++ p.out.map fun m => plainEvent m 0 := by
  intro p
  have hfront : r.front = s.front := h.touches.same .front (by decide)
  have hp : { (r.uarts.get n) with rx := [] }.parse e = p.withStat x := by
    rw [h.get_eq]
    exact (parse_parses { u with rx := [] } e).stat x
  have hparse := uartParse_cons (s := r) (n := n) (e := e) (rest := []) (by rw [h.get_eq]) (by rwa [hfront])
  simp only [hp] at hparse
  have hupd := h.upd fun _ => (p.withStat x).counted
  rw [hparse]
  refine ⟨hupd.get_eq, (hupd.touches.mono (by decide)).trans ((touches_modFront _ _).mono (by decide)), ?_⟩
  rw [State.modFront_front, hupd.touches.same .front (by decide)]
  exact Bank.get_upd_same _ _ n.isLt

theorem rxWord_clean {c : RxChar} (hn : c.noise = false) (hf : c.framing = false) (hp : c.parity = false) (d : Nat) :
    rxWord d c = BitVec.ofNat 32 d := by
  simp [rxWord, flag, hn, hf, hp, w32]

theorem byte_shiftRight (d : Nat) : BitVec.ofNat 32 (d % 256) >>> 16 = 0#32 := by
  apply BitVec.eq_of_toNat_eq
  simp only [BitVec.toNat_ushiftRight, BitVec.toNat_ofNat, Nat.shiftRight_eq_div_pow]
  omega

theorem does_uartRxChar_midi {s : State} {n : Fin 8} {c : RxChar} (hrun : s.dev.phase = .running) (hframes : s.time.framesRun = true)
    (hen : (s.uarts.get n).en = true) (hmode : s.uartMode n = some .midi) (hrx : (s.uarts.get n).rx = [])
    (hroom : (s.front.uarts.get n).length < 16) (hnoise : c.noise = false) (hframing : c.framing = false) (hparity : c.parity = false)
    (hovr : (s.uarts.get n).ovr = false) : let r := { (s.uarts.get n) with rx := [] }.parse (BitVec.ofNat 32 (c.data.toNat % 256))
    Does (.uartRxChar n c) s fun t => (t.uarts.get n).rx = [] ∧ (t.uarts.get n).parts = r.u.parts ∧ (t.uarts.get n).running = r.u.running ∧
      t.front.uarts.get n = s.front.uarts.get n ++ r.out.map (fun m => plainEvent m 0) ∧ keptBut (.uarts :: .front :: reporting) s t := by
  intro r
  obtain ⟨x, hx⟩ := store_clean (s.uartTrigger n) hrx hovr (byte_shiftRight c.data.toNat)
  have hto := (UartTo.of_touches (.refl [] s) n).upd fun u => u.store (s.uartTrigger n) (rxWord (c.data.toNat % 256) c)
  refine ⟨_, rfl, ?_⟩
  rw [uartRxChar_midi c hrun hen hmode]
  generalize s.updUart n _ = q at hto ⊢
  rw [rxWord_clean hnoise hframing hparity, hx] at hto
  obtain ⟨hport, ht, hfront⟩ := uartParse_only hto hroom
  obtain ⟨hcrx, hcparts, hcrunning⟩ := counted_parser (r.withStat x)
  rw [← hport] at hcrx hcparts hcrunning
  have hempty : ((q.uartParse n).uarts.get n).rx = [] := hcrx.trans (parse_parses { (s.uarts.get n) with rx := [] } _).rx
  have hq := hto.touches
  rw [uartPump_one ((uartMode_congr (hq.same .spawn (by decide)) n).trans hmode) ((congrArg DevState.phase (hq.same .dev (by decide))).trans hrun)
    ((congrArg TimeState.framesRun (hq.same .time (by decide))).trans hframes) hempty]
  exact ⟨hempty, hcparts, hcrunning, hfront, ht.kept⟩

/-! ### The line idle, and a character sent -/

theorem does_uartRxIdle {s : State} {n : Fin 8} (hrun : s.dev.phase = .running) (hsome : 1 ≤ (s.uarts.get n).rx.length)
    (hfew : (s.uarts.get n).rx.length < s.uartTrigger n) : Does (.uartRxIdle n) s fun t =>
      uartOnly s t n { (s.uarts.get n) with stat := (s.uarts.get n).stat ||| 2#7 } ∧ keptBut (.uarts :: reporting) s t := by
  have hy := (UartTo.of_touches (.refl [] s) n).upd fun u => { u with stat := u.stat ||| 2#7 }
  exact ⟨_, congrArg Host.Outcome.next (if_pos (by simp [portsRun_of_running hrun, hsome, hfew])), hy.kept⟩

/-- A port after a character has gone out: in CARD mode an error signal repeats it up to RETRY times and then drops it (R367). -/
def UartState.sent (u : UartState) (card e : Bool) : UartState :=
  if card && e then
    if u.txRun < u.card.toNat / 2 ^ 20 % 8 then { u with txRun := u.txRun + 1 } else { u.txPop with stat := u.txPop.stat ||| 16#7 }
  else u.txPop

section
variable {s : State} {n : Fin 8} (e : Bool) {x : BitVec 9} {rest : List (BitVec 9)} {m : UartMode} (hrun : s.dev.phase = .running)
  (hen : (s.uarts.get n).en = true) (hmode : s.uartMode n = some m) (htx : (s.uarts.get n).tx = x :: rest)
include hrun hen hmode htx

theorem uartTxChar_eq : let r := s.emit (.uart n x)
    s.uartTxChar n e = if m == .card && e then
        if (s.uarts.get n).txRun < (s.uarts.get n).card.toNat / 2 ^ 20 % 8 then r.updUart n fun u => { u with txRun := u.txRun + 1 }
        else r.updUart n fun u => { u.txPop with stat := u.txPop.stat ||| 16#7 }
      else r.updUart n UartState.txPop := by
  simp only [State.uartTxChar, htx, hmode, portsRun_of_running hrun, hen, Bool.not_true, Bool.or_self, Bool.false_eq_true, if_false]
  rfl

theorem uartTxChar_sent :
    UartTo s (s.uartTxChar n e) n ((s.uarts.get n).sent (m == .card) e) ∧ Output.uart n x ∈ (s.uartTxChar n e).outs := by
  have hto := UartTo.of_touches (touches_emit s (.uart n x)) n
  have hupd (f : UartState → UartState) : UartTo s ((s.emit (.uart n x)).updUart n f) n (f (s.uarts.get n)) ∧
      Output.uart n x ∈ ((s.emit (.uart n x)).updUart n f).outs :=
    ⟨hto.upd f, (touches_updUart _ n f).outs (mem_outs_emit s _)⟩
  rw [uartTxChar_eq e hrun hen hmode htx, UartState.sent]
  split
  · split
    · exact hupd fun u => { u with txRun := u.txRun + 1 }
    · exact hupd fun u => { u.txPop with stat := u.txPop.stat ||| 16#7 }
  · exact hupd UartState.txPop

end

theorem txPop_spec {u : UartState} {x : BitVec 9} {rest : List (BitVec 9)} (h : u.tx = x :: rest) :
    u.txPop.tx = rest ∧ u.txPop.txRun = 0 ∧ (rest = [] → u.txPop.stat.getLsbD 3 = true) := by
  refine ⟨by simp [UartState.txPop, h], rfl, fun hr => ?_⟩
  simp [UartState.txPop, h, hr]

theorem does_uartTxChar {s : State} {n : Fin 8} (e : Bool) {x : BitVec 9} {rest : List (BitVec 9)} {m : UartMode}
    (hrun : s.dev.phase = .running) (hen : (s.uarts.get n).en = true) (hmode : s.uartMode n = some m) (htx : (s.uarts.get n).tx = x :: rest) :
    let u := s.uarts.get n
    Does (.uartTxChar n e) s fun t => let y := t.uarts.get n
      uartOnly s t n y ∧ Output.uart n x ∈ t.outs ∧ keptBut (.uarts :: reporting) s t ∧
        (m ≠ .card ∨ e = false → y.tx = rest ∧ y.txRun = 0 ∧ (rest = [] → y.stat.getLsbD 3 = true)) ∧
        (m = .card → e = true → u.txRun < u.card.toNat / 2 ^ 20 % 8 → y = { u with txRun := u.txRun + 1 }) ∧
        (m = .card → e = true → u.card.toNat / 2 ^ 20 % 8 ≤ u.txRun → y.tx = rest ∧ y.stat.getLsbD 4 = true) := by
  obtain ⟨hto, hout⟩ := uartTxChar_sent e hrun hen hmode htx
  obtain ⟨htail, hzero, hempty⟩ := txPop_spec htx
  refine ⟨_, rfl, ?_⟩
  dsimp only
  rw [hto.get_eq]
  refine ⟨hto.only, hout, hto.touches.kept, fun h => ?_, fun hm he hrep => ?_, fun hm he hdrop => ?_⟩
  · have hneg : (m == .card && e) = false := by rcases h with h | h <;> simp [h]
    rw [UartState.sent, hneg]
    exact ⟨htail, hzero, hempty⟩
  · rw [UartState.sent, if_pos (by simp [hm, he]), if_pos hrep]
  · rw [UartState.sent, if_pos (by simp [hm, he]), if_neg (Nat.not_lt.mpr hdrop)]
    exact ⟨htail, by simp⟩

/-! ### The registers of a port -/

theorem uart_isSome {ofs : Nat} (h : 0x390000 ≤ ofs ∧ ofs ≤ 0x397FFF) : (blockOf ofs).isSome = true :=
  blockOf_isSome .uart 0x390000 0x397FFF (by decide) h.1 h.2

/-- The three fields of U_FMT together are its 7 bits. -/
theorem fmt_fields (v : Word) : BitVec.ofNat 7 (bits v 3 0 + fld (bits v 5 4) 4 + flag (v.getLsbD 6) 6) = v.setWidth 7 := by
  have hbit : flag (v.getLsbD 6) 6 = v.toNat / 64 % 2 * 64 := by
    rw [BitVec.getLsbD, Nat.testBit_eq_decide_div_mod_eq, flag]
    simp only [decide_eq_true_eq, Nat.reducePow]
    split <;> omega
  apply BitVec.eq_of_toNat_eq
  simp only [BitVec.toNat_ofNat, BitVec.toNat_setWidth, hbit, bits, fld, Nat.reduceAdd, Nat.reduceSub, Nat.reducePow]
  omega

section
variable {s : State} {t n : Fin 8} (v : Word) (h : inRun s t) (hown : s.periphOwner pcUart n = some t.val)
include h hown

theorem does_uartRxRead {e : RxEntry} {rest : List RxEntry} (hmode : s.uartMode n ≠ some .midi) (hrx : (s.uarts.get n).rx = e :: rest) :
    Does (.uartRxRead t n) s fun w => uartOnly s w n { (s.uarts.get n) with rx := rest } ∧
      Output.regRead t (e ||| 0x80000000#32) ∈ w.outs ∧ keptBut (.uarts :: accessing) s w := by
  refine does_access rfl h (uart_isSome (by omega)) (by simp [hown]) fun r hr => ?_
  have hto := UartTo.of_touches hr n
  have hread : r.uartRead n = (r.updUart n fun u => { u with rx := rest }, e ||| 0x80000000#32) := by
    simp [State.uartRead, uartMode_congr (hr.same .spawn (by decide)), hmode, hto.get_eq, hrx]
  rw [hread]
  obtain ⟨honly, hkept⟩ := ((hto.upd fun u => { u with rx := rest }).report (touches_emit _ _)).keptAccess
  exact ⟨honly, mem_outs_emit _ _, hkept⟩

theorem does_uartRxRead_empty (hnone : s.uartMode n = some .midi ∨ (s.uarts.get n).rx = []) :
    Does (.uartRxRead t n) s fun w => Output.regRead t 0#32 ∈ w.outs ∧ keptBut accessing s w := by
  refine does_access rfl h (uart_isSome (by omega)) (by simp [hown]) fun r hr => ?_
  have hread : r.uartRead n = (r, 0#32) := by
    rcases hnone with hmode | hrx
    · simp [State.uartRead, uartMode_congr (hr.same .spawn (by decide)), hmode]
    · simp [State.uartRead, (UartTo.of_touches hr n).get_eq, hrx]
  rw [hread]
  exact ⟨mem_outs_emit _ _, (hr.trans (touches_emit _ _)).kept.mono (by decide)⟩

theorem does_uartTxWrite : let u := s.uarts.get n
    Does (.uartTxWrite t n v) s fun w => keptBut (.uarts :: accessing) s w ∧ uartOnly s w n
      (if 16 ≤ u.tx.length then { u with stat := u.stat ||| 64#7 } else { u with tx := u.tx ++ [v.setWidth 9] }) :=
  does_access rfl h (uart_isSome (by omega)) (by simp [hown]) fun _ hr => ((UartTo.of_touches hr n).upd _).keptAccess.symm

/-- What a write of U_CTRL makes of a port (R365 to R367). -/
def UartState.controlled (v : Word) (u : UartState) : UartState :=
  let u1 := if u.en && !v.getLsbD 0 then u.stopped else u
  { u1 with
    en := v.getLsbD 0, aux := v.getLsbD 1, afilt := v.getLsbD 2, addressed := u1.addressed && u.afilt,
    firstAfterRst := (!u.aux && v.getLsbD 1) || (u1.firstAfterRst && v.getLsbD 1) }

theorem does_uCtrlWrite : let u := s.uarts.get n
    Does (.uCtrlWrite t n v) s fun w => let y := w.uarts.get n
      keptBut (.uarts :: accessing) s w ∧ uartOnly s w n y ∧ y.en = v.getLsbD 0 ∧ y.aux = v.getLsbD 1 ∧ y.afilt = v.getLsbD 2 ∧ y.fmt = u.fmt ∧
      (u.en = true → v.getLsbD 0 = false → y.rx = [] ∧ y.tx = []) ∧ (v.getLsbD 0 = true → y.rx = u.rx ∧ y.tx = u.tx) := by
  refine does_access rfl h (uart_isSome (by omega)) (by simp [hown]) fun r hr => ?_
  have hto : UartTo s (r.uartCtrl n v) n ((s.uarts.get n).controlled v) := (UartTo.of_touches hr n).upd (UartState.controlled v)
  dsimp only
  rw [hto.get_eq]
  obtain ⟨honly, hkept⟩ := hto.keptAccess
  refine ⟨hkept, honly, rfl, rfl, rfl, ?_, fun hen hv => ?_, fun hv => ?_⟩
  · simp only [UartState.controlled]
    split <;> rfl
  · simp only [UartState.controlled, hen, hv]
    exact ⟨rfl, rfl⟩
  · simp only [UartState.controlled, hv, Bool.not_true, Bool.and_false, Bool.false_eq_true, if_false, and_self]

theorem does_uFmtWrite_locked (card : Bool) (hen : (s.uarts.get n).en = true) :
    Does (.uFmtWrite t n card v) s fun w => pendingSource w 1004 ∧ keptBut accessing s w := by
  refine does_access rfl h (uart_isSome (by split <;> omega)) (by simp [hown]) fun r hr => ?_
  have hr0 : (r.uarts.get n).en = true := by rw [(UartTo.of_touches hr n).get_eq, hen]
  cases card
  · rw [if_neg (by decide), State.uartFmt, if_pos hr0]
    exact rejected_of_touches hr _
  · rw [if_pos rfl, State.uartCard, if_pos hr0]
    exact rejected_of_touches hr _

theorem does_uFmtWrite (hen : (s.uarts.get n).en = false) (hlo : 5 ≤ v.toNat % 16) (hhi : v.toNat % 16 ≤ 9) (hpar : v.toNat / 16 % 4 ≠ 3) :
    Does (.uFmtWrite t n false v) s fun w =>
      keptBut (.uarts :: accessing) s w ∧ uartOnly s w n { (s.uarts.get n) with fmt := v.setWidth 7 } := by
  refine does_access rfl h (uart_isSome (by simp; omega)) (by simp [hown]) fun r hr => ?_
  have hto := UartTo.of_touches hr n
  have hfmt : r.uartFmt n v = r.updUart n fun u => { u with fmt := v.setWidth 7 } := by
    have hbits : (decide (bits v 3 0 < 5) || decide (9 < bits v 3 0)) = false := by simp [bits]; omega
    have hpar2 : (bits v 5 4 == 3) = false := by simp [bits, hpar]
    have hoff : (r.uarts.get n).en = false := by rw [hto.get_eq, hen]
    simp only [State.uartFmt, hoff, hbits, hpar2, Bool.or_self, Bool.false_eq_true, if_false, fmt_fields]
  rw [if_neg (by decide), hfmt]
  exact (hto.upd _).keptAccess.symm

end

/-- Settles O56: the commands of the character ports, of the I2C controllers and of the boot-flash controller, each by the change of its own
port or controller. -/
theorem characterPortsI2cFlash : Obligations.CharacterPortsI2cFlash := by
  refine ⟨fun s n c => ⟨fun hrun hen hmode => does_uartRxChar_store c hrun hen hmode, fun hrun hen hmode hafilt =>
      does_uartRxChar_filtered c hrun hen hmode hafilt,
      fun hrun hen hmode htx hpar hretry => does_uartRxChar_signalled hrun hen hmode htx hpar hretry,
      fun hrun hframes hen hmode hrx hroom hn hf hp hovr => does_uartRxChar_midi hrun hframes hen hmode hrx hroom hn hf hp hovr,
      exec_uartRxChar_off c, does_uartRxIdle, fun e x rest m hrun hen hmode htx => does_uartTxChar e hrun hen hmode htx⟩,
    fun s t n v h hown => ⟨fun e rest hmode hrx => does_uartRxRead h hown hmode hrx, does_uartRxRead_empty h hown, does_uartTxWrite v h hown,
      does_uCtrlWrite v h hown, does_uFmtWrite_locked v h hown, does_uFmtWrite v h hown⟩,
    fun s t c v h hown => ⟨does_i2cCmdWrite_rejected v h hown, fun hcount _ hlen htxf => does_i2cCmdWrite v h hown hcount hlen htxf,
      does_i2cDataWrite v h hown, fun b rest hrxf hheld hend => does_i2cDataRead h hown hrxf hheld hend, does_i2cDataRead_empty h hown,
      does_i2cEnable_off v h hown, fun hv hcmds => ⟨does_i2cEnable_idle v h hown hv hcmds, does_i2cEnable_stuck v h hown hv⟩⟩,
    fun s c cmd => ⟨fun hcmds hready hend => ⟨does_i2cEntryDone_nack hcmds hready hend, does_i2cEntryDone_arbLost hcmds hready hend,
      does_i2cEntryDone_written hcmds hready hend, fun d => does_i2cEntryDone_read hcmds hready hend⟩, does_i2cTimeout_idle⟩,
    fun s v d hrun => ⟨does_flCtrlWrite v hrun, does_flRaddrWrite v hrun, does_flRaddrWrite_rejected v hrun, does_flReadDone d,
      exec_flReadDone_idle d⟩⟩

end Sys2Proof.Machine
end
